-- ==== Sys2Proof/Word.lean ====
section
/-! DEFINITION. The byte of the closure link, the numbers of closures and seats, and the plainest arithmetic of the
spec's conventions (00_scope.md, Arithmetic). -/
namespace Sys2Proof

/-- A byte of the closure link (R154). -/
abbrev Byte := BitVec 8

/-- A closure number, 0 to 7 (00_scope.md, Names). -/
abbrev ClosureId := Fin 8

/-- A seat number, 0 to 3 (00_scope.md, Names). -/
abbrev SeatId := Fin 4

/-- "Clamped to lo to hi" (00_scope.md, Arithmetic). -/
def clampNat (lo hi x : Nat) : Nat := if x < lo then lo else if hi < x then hi else x

/-- "Clamped to lo to hi", on signed values (00_scope.md, Arithmetic). -/
def clampInt (lo hi x : Int) : Int := if x < lo then lo else if hi < x then hi else x

/-- A saturating counter: at its maximum it stays there (00_scope.md, Arithmetic). -/
def satAdd (top x n : Nat) : Nat := min top (x + n)

/-- Whether a mask byte holds member `i`, at the bit of value 2 to the power i (R154). -/
def hasMember (mask : Byte) (i : Nat) : Bool := mask.getLsbD i

/-- The closures, in ascending order. -/
def allClosures : List ClosureId := [0, 1, 2, 3, 4, 5, 6, 7]

/-- The seats, in ascending order. -/
def allSeats : List SeatId := [0, 1, 2, 3]

end Sys2Proof
end

