-- ==== Sys2Proof/Syntax.lean ====
section
/-! DEFINITION. The commands of the part: one constructor of `Instr` for each row of spec/opcode_table.json.

Every command carries `dt`, the time in µs from the command before it (log entry 1). A link command also carries the
seat at which its frame arrived, how the frame ended, and its argument bytes as they crossed the link. -/
namespace Sys2Proof

/-- How a frame ended: with a stop or with a repeated start (R146, R147). -/
inductive FrameEnd where
  | stop | repeatedStart
  deriving DecidableEq, Repr, Inhabited

/-- The target of a write frame: a seat or the broadcast address (R146). -/
inductive Target where
  | seat (n : SeatId)
  | broadcast
  deriving DecidableEq, Repr, Inhabited

/-- A frame at a seat address: time since the command before it, the seat, and how the frame ended. -/
structure SeatFrame where
  dt : Nat
  seat : SeatId
  fin : FrameEnd
  deriving DecidableEq, Repr, Inhabited

/-- A read frame at a seat address: time since the command before it, the seat, and how the frame has ended, if it has. -/
structure ReadSpan where
  dt : Nat
  seat : SeatId
  ended : Option FrameEnd
  deriving DecidableEq, Repr, Inhabited

/-- A line of the closure link. -/
inductive Line where
  | clock | data
  deriving DecidableEq, Repr, Inhabited

/-- A line of the closure link held low (R152): which one, and the µs that neither line has changed. -/
structure HeldLine where
  line : Line
  unchanged : Nat
  deriving DecidableEq, Repr, Inhabited

/-- The receiver state of the link interface (R146): in WRITING the target, the bytes received so far and the discard
mark; in READING the seat and the number of reply bytes sent. -/
inductive Receiver where
  | idle
  | address
  | writing (target : Target) (bytes : List Byte) (discard : Bool)
  | reading (seat : SeatId) (sent : Nat)
  | passive
  deriving DecidableEq, Repr, Inhabited

/-- A hall phase of a closure (R8). -/
inductive Phase where
  | a | b
  deriving DecidableEq, Repr, Inhabited

/-- The device settings of the slot arbiter (R108). -/
inductive SupplySetting where
  | slots | vLow | vResume | vMin
  deriving DecidableEq, Repr, Inhabited

/-- The device settings (R108, R127). -/
inductive DeviceSetting where
  | supply (x : SupplySetting)
  | tRet
  deriving DecidableEq, Repr, Inhabited

/-- The commands, one for each row of spec/opcode_table.json. -/
inductive Instr where
  /-- MOVE (R86): closure, kind, direction, origin and, with six bytes, target. -/
  | move (f : SeatFrame) (args : List Byte)
  /-- RENEW (R94): closure. -/
  | renew (f : SeatFrame) (args : List Byte)
  /-- STOP (R95): closure. -/
  | stop (f : SeatFrame) (args : List Byte)
  /-- GLOBAL (R96): closure mask, direction, origin. -/
  | global (f : SeatFrame) (args : List Byte)
  /-- CLEAR (R98): closure. -/
  | clear (f : SeatFrame) (args : List Byte)
  /-- ALL-STOP (R97), through a seat or the broadcast address. -/
  | allStop (dt : Nat) (target : Target) (fin : FrameEnd) (args : List Byte)
  /-- READ CLOSURE (R20): closure. -/
  | readClosure (f : SeatFrame) (args : List Byte)
  /-- READ OUTCOME (R138): closure. -/
  | readOutcome (f : SeatFrame) (args : List Byte)
  /-- READ STATS (R143): closure. -/
  | readStats (f : SeatFrame) (args : List Byte)
  /-- CLEAR STATS (R144): closure. -/
  | clearStats (f : SeatFrame) (args : List Byte)
  /-- READ PROFILE (R56): closure, first zone, count. -/
  | readProfile (f : SeatFrame) (args : List Byte)
  /-- WRITE PROFILE ZONE (R57): closure, zone, T_ref, I_ref, V_ref. -/
  | writeProfileZone (f : SeatFrame) (args : List Byte)
  /-- MARK LEARNED (R58): closure. -/
  | markLearned (f : SeatFrame) (args : List Byte)
  /-- READ SETTING (R4): closure, identifier. -/
  | readSetting (f : SeatFrame) (args : List Byte)
  /-- READ SETTING with the identifier of a device setting (R108); the closure byte is not read. -/
  | readDeviceSetting (f : SeatFrame) (closure : Byte) (id : DeviceSetting)
  /-- READ SETTING with the identifier of the slot state (R109); the closure byte is not read. -/
  | readSlotState (f : SeatFrame) (closure : Byte)
  /-- WRITE SETTING (R2): closure, identifier, value (two bytes). -/
  | writeSetting (f : SeatFrame) (args : List Byte)
  /-- WRITE SETTING of K_slots, V_low, V_resume or V_min (R108); the closure byte is not read. -/
  | writeDeviceSetting (f : SeatFrame) (closure : Byte) (id : SupplySetting) (value : BitVec 16)
  /-- WRITE SETTING of T_ret (R127); the closure byte is not read. -/
  | writeTRet (f : SeatFrame) (closure : Byte) (value : BitVec 16)
  /-- READ SEAT RECORD (R122): seat. -/
  | readSeatRecord (f : SeatFrame) (args : List Byte)
  /-- WRITE SEAT RECORD (R122): seat and the seven fields. -/
  | writeSeatRecord (f : SeatFrame) (args : List Byte)
  /-- READ WORDS (R125). -/
  | readWords (f : SeatFrame) (args : List Byte)
  /-- WRITE WORD (R124): word, value. -/
  | writeWord (f : SeatFrame) (args : List Byte)
  /-- SET BITS (R124): word, set. -/
  | setBits (f : SeatFrame) (args : List Byte)
  /-- CLEAR BITS (R124): word, set. -/
  | clearBits (f : SeatFrame) (args : List Byte)
  /-- COMPARE AND WRITE (R124): word, expected value, new value. -/
  | compareAndWrite (f : SeatFrame) (args : List Byte)
  /-- TAKE NOTICE (R132). -/
  | takeNotice (f : SeatFrame) (args : List Byte)
  /-- READ SEAT STATUS (R133). -/
  | readSeatStatus (f : SeatFrame) (args : List Byte)
  /-- COMMIT (R156): park. -/
  | commit (f : SeatFrame) (args : List Byte)
  /-- LINK RESET at the broadcast address (R153). -/
  | linkReset (dt : Nat) (fin : FrameEnd)
  /-- A frame taken at a seat whose code names no command, or names LINK RESET (R148). -/
  | unknownCommand (f : SeatFrame) (code : Byte) (args : List Byte)
  /-- A write frame that is discarded at its end (R147): its target and the bytes after its address byte. With no end it
  is a write frame so far received, which stands in WRITING (R146). -/
  | frameDiscard (dt : Nat) (target : Target) (ended : Option FrameEnd) (bytes : List Byte)
  /-- A read frame at a seat address (R150): how many bytes the part has sent, and how the frame has ended, if it has. -/
  | readFrame (f : ReadSpan) (sent : Nat)
  /-- The 35 ms timer of the link runs out with a line low (R152); the effect is the same for either line. -/
  | stuckLinkRecovery (dt : Nat) (held : HeldLine)
  /-- One hall phase of a closure changes (R8). -/
  | hallEdge (dt : Nat) (k : ClosureId) (ph : Phase)
  /-- Both hall phases of a closure change together (R9). -/
  | phaseFault (dt : Nat) (k : ClosureId)
  /-- The stall timer of a closure runs out (R13). -/
  | stallExpiry (dt : Nat) (k : ClosureId)
  /-- The undriven quiet timer of a closure runs out (R18). -/
  | undrivenQuietExpiry (dt : Nat) (k : ClosureId)
  /-- The brake timer of a closure runs out (R76). -/
  | brakeTimerExpiry (dt : Nat) (k : ClosureId)
  /-- The settling quiet timer of a closure runs out (R102). -/
  | quietTimerExpiry (dt : Nat) (k : ClosureId)
  /-- The settling limit timer of a closure runs out (R102). -/
  | limitTimerExpiry (dt : Nat) (k : ClosureId)
  /-- The hold deadline of a closure's move passes (R94). -/
  | holdDeadlineExpiry (dt : Nat) (k : ClosureId)
  /-- The queue timeout of a closure's queued move expires (R114). -/
  | queueTimeout (dt : Nat) (k : ClosureId)
  /-- A sample of a closure's motor current, in mA as converted (R22). -/
  | currentSample (dt : Nat) (k : ClosureId) (mA : Int)
  /-- A sample of the supply sense, in mV (R24). -/
  | supplySample (dt : Nat) (mV : Nat)
  /-- The 250 µs supply refresh (R24). -/
  | supplyRefresh (dt : Nat)
  /-- A measurement of the die temperature, in °C (R25). -/
  | temperatureMeasurement (dt : Nat) (celsius : Int)
  /-- The retained window's expiry time is reached (R127). -/
  | retainedWindowExpiry (dt : Nat)
  /-- The stale deadline of a seat is reached (R135). -/
  | staleExpiry (dt : Nat) (n : SeatId)
  /-- The writes of a commit have verified (R157). -/
  | commitCompletion (dt : Nat)
  /-- A write of a commit fails to verify (R157). -/
  | commitFailure (dt : Nat)
  /-- The unpark write completes (R158). -/
  | unparkWriteCompletion (dt : Nat)
  /-- The unpark write fails to verify (R158). -/
  | unparkWriteFailure (dt : Nat)
  /-- Two seconds have passed since the last start or stop on the link (R159). -/
  | linkQuietExpiry (dt : Nat)
  /-- The reset input (R161), with the strap inputs as the load reads them (R119). -/
  | resetInput (dt : Nat) (straps : Fin 4)
  /-- Cold power (R161), with the strap inputs and the first samples of the hall phases A and B, closure k at bit k. -/
  | coldStart (dt : Nat) (straps : Fin 4) (phasesA phasesB : Byte)
  /-- The start-up load ends (R161). -/
  | startUpLoadEnd (dt : Nat)
  /-- Power is lost (R157, R158). -/
  | powerLoss (dt : Nat)
  /-- A frame whose address the part does not acknowledge, or has not yet received (R146): its address byte, if it has
  one yet, and how it has ended, if it has. -/
  | frameNotAcknowledged (dt : Nat) (address : Option Byte) (ended : Option FrameEnd)
  /-- A well-formed broadcast frame whose command is not taken (R151). -/
  | broadcastFrameDiscarded (dt : Nat) (code : Byte) (args : List Byte) (fin : FrameEnd)
  deriving DecidableEq, Repr

end Sys2Proof
end

