-- ==== Sys2Proof/Decode.lean ====
section
/-! DEFINITION. How link frames spell commands (R146, R147, R148, R151) by the catalogue of R154, and the encoder that
writes a command's frame. spec/opcode_table.json gives no row bits, so no word spells a command. -/
namespace Sys2Proof

/-- No row of spec/opcode_table.json has bits: no word spells a command (log entry 23). -/
def decodeTableWord (_nbits _w : Nat) : Option Instr := none

/-! Command codes (R154). -/

def Code.move : Byte := 0x10
def Code.renew : Byte := 0x11
def Code.stop : Byte := 0x12
def Code.global : Byte := 0x13
def Code.clear : Byte := 0x14
def Code.allStop : Byte := 0x1F
def Code.readClosure : Byte := 0x20
def Code.readOutcome : Byte := 0x21
def Code.readStats : Byte := 0x22
def Code.clearStats : Byte := 0x23
def Code.readProfile : Byte := 0x30
def Code.writeProfileZone : Byte := 0x31
def Code.markLearned : Byte := 0x32
def Code.readSetting : Byte := 0x40
def Code.writeSetting : Byte := 0x41
def Code.readSeatRecord : Byte := 0x48
def Code.writeSeatRecord : Byte := 0x49
def Code.readWords : Byte := 0x50
def Code.writeWord : Byte := 0x51
def Code.setBits : Byte := 0x52
def Code.clearBits : Byte := 0x53
def Code.compareAndWrite : Byte := 0x54
def Code.takeNotice : Byte := 0x60
def Code.readSeatStatus : Byte := 0x61
def Code.commit : Byte := 0x70
def Code.linkReset : Byte := 0x7F

/-! Setting identifiers from 0x20 up (R154). -/

/-- The device setting an identifier names (R154). -/
def deviceSettingOf (id : Byte) : Option DeviceSetting :=
  if id = 0x20 then some (.supply .slots)
  else if id = 0x21 then some (.supply .vLow)
  else if id = 0x22 then some (.supply .vResume)
  else if id = 0x23 then some (.supply .vMin)
  else if id = 0x24 then some .tRet
  else none

/-- The identifier of a device setting (R154). -/
def DeviceSetting.id : DeviceSetting → Byte
  | .supply .slots => 0x20
  | .supply .vLow => 0x21
  | .supply .vResume => 0x22
  | .supply .vMin => 0x23
  | .tRet => 0x24

/-- The identifier of the slot state (R154). -/
def slotStateId : Byte := 0x30

/-- READ SETTING by its identifier: the row that takes the command (R4). -/
def readSettingRow (f : SeatFrame) (args : List Byte) : Instr :=
  match args with
  | [c, id] =>
    match deviceSettingOf id with
    | some d => .readDeviceSetting f c d
    | none => if id = slotStateId then .readSlotState f c else .readSetting f args
  | _ => .readSetting f args

/-- WRITE SETTING by its identifier: the row that takes the command (R2). -/
def writeSettingRow (f : SeatFrame) (args : List Byte) : Instr :=
  match args with
  | [c, id, hi, lo] =>
    match deviceSettingOf id with
    | some (.supply x) => .writeDeviceSetting f c x (hi ++ lo)
    | some .tRet => .writeTRet f c (hi ++ lo)
    | none => .writeSetting f args
  | _ => .writeSetting f args

/-- The command that a frame taken at a seat spells (R148): a code of the catalogue, or UNKNOWN_COMMAND. -/
def seatCommandOf (f : SeatFrame) (code : Byte) (args : List Byte) : Instr :=
  if code = Code.move then .move f args
  else if code = Code.renew then .renew f args
  else if code = Code.stop then .stop f args
  else if code = Code.global then .global f args
  else if code = Code.clear then .clear f args
  else if code = Code.allStop then .allStop f.dt (.seat f.seat) f.fin args
  else if code = Code.readClosure then .readClosure f args
  else if code = Code.readOutcome then .readOutcome f args
  else if code = Code.readStats then .readStats f args
  else if code = Code.clearStats then .clearStats f args
  else if code = Code.readProfile then .readProfile f args
  else if code = Code.writeProfileZone then .writeProfileZone f args
  else if code = Code.markLearned then .markLearned f args
  else if code = Code.readSetting then readSettingRow f args
  else if code = Code.writeSetting then writeSettingRow f args
  else if code = Code.readSeatRecord then .readSeatRecord f args
  else if code = Code.writeSeatRecord then .writeSeatRecord f args
  else if code = Code.readWords then .readWords f args
  else if code = Code.writeWord then .writeWord f args
  else if code = Code.setBits then .setBits f args
  else if code = Code.clearBits then .clearBits f args
  else if code = Code.compareAndWrite then .compareAndWrite f args
  else if code = Code.takeNotice then .takeNotice f args
  else if code = Code.readSeatStatus then .readSeatStatus f args
  else if code = Code.commit then .commit f args
  else .unknownCommand f code args

/-- Whether a code names a command that a seat may send: LINK RESET is none (R148). -/
def isSeatCode (code : Byte) : Bool :=
  decide (code ∈ [Code.move, Code.renew, Code.stop, Code.global, Code.clear, Code.allStop, Code.readClosure,
    Code.readOutcome, Code.readStats, Code.clearStats, Code.readProfile, Code.writeProfileZone, Code.markLearned,
    Code.readSetting, Code.writeSetting, Code.readSeatRecord, Code.writeSeatRecord, Code.readWords, Code.writeWord,
    Code.setBits, Code.clearBits, Code.compareAndWrite, Code.takeNotice, Code.readSeatStatus, Code.commit])

/-- The command that a frame taken at the broadcast address spells (R151). -/
def broadcastCommandOf (dt : Nat) (fin : FrameEnd) (code : Byte) (args : List Byte) : Instr :=
  if code = Code.allStop ∧ args = [] then .allStop dt .broadcast fin []
  else if code = Code.linkReset ∧ args = [] then .linkReset dt fin
  else .broadcastFrameDiscarded dt code args fin

/-- The 8-bit sum of a frame's bytes (R147). -/
def byteSum (bytes : List Byte) : Byte := bytes.foldr (· + ·) 0

/-- The most argument bytes of a write frame. -/
def maxArgs : Nat := 32

/-- The code and the arguments of a write frame that is taken (R147): the length is 32 or less, exactly n + 3 bytes
follow the address, and their sum with the check byte is 0. -/
def parseFrame (bytes : List Byte) : Option (Byte × List Byte) :=
  match bytes with
  | code :: n :: rest =>
    if n.toNat ≤ maxArgs ∧ rest.length = n.toNat + 1 ∧ byteSum bytes = 0 then some (code, rest.take n.toNat) else none
  | _ => none

/-- The acknowledge bits given to the bytes after the length byte (R147): `left` arguments are still to come and `sum`
is the sum so far. -/
def bodyAcks (left : Nat) (sum : Byte) : List Byte → List Bool
  | [] => []
  | b :: rest =>
    match left with
    | 0 => decide (sum + b = 0) :: rest.map fun _ => false
    | n + 1 => true :: bodyAcks n (sum + b) rest

/-- The acknowledge bits given to the bytes of a write frame after its address (R147). -/
def frameAcks : List Byte → List Bool
  | [] => []
  | [_] => [true]
  | code :: n :: rest =>
    true :: if n.toNat ≤ maxArgs then true :: bodyAcks n.toNat (code + n) rest else false :: rest.map fun _ => false

/-- The command that a write frame with these bytes after its address spells (R147, R148, R151). -/
def decodeWriteFrame (dt : Nat) (target : Target) (fin : FrameEnd) (bytes : List Byte) : Instr :=
  match parseFrame bytes, target with
  | none, _ => .frameDiscard dt target (some fin) bytes
  | some (code, args), .seat n => seatCommandOf { dt := dt, seat := n, fin := fin } code args
  | some (code, args), .broadcast => broadcastCommandOf dt fin code args

/-- What an address byte addresses (R119, R146): the broadcast address for a write, a seat for a write or a read, or
nothing that the part acknowledges. `base` is the seat base. -/
inductive Addressed where
  | write (t : Target)
  | read (n : SeatId)
  | other
  deriving DecidableEq, Repr

/-- What an address byte addresses, outside the start-up load (R119, R146). -/
def addressedBy (base : Nat) (address : Byte) : Addressed :=
  let a := address.toNat / 2
  let isRead := address.getLsbD 0
  if a = 0 then if isRead then .other else .write .broadcast
  else if h : base ≤ a ∧ a < base + 4 then
    let n : SeatId := ⟨a - base, by omega⟩
    if isRead then .read n else .write (.seat n)
  else .other

/-- The address byte of a write frame to a target (R119, R154). -/
def writeAddress (base : Nat) : Target → Byte
  | .broadcast => 0
  | .seat n => BitVec.ofNat 8 (2 * (base + n.val))

/-- The bytes of a write frame after its address: code, length, arguments, check byte (R147). -/
def encodeFrame (code : Byte) (args : List Byte) : List Byte :=
  let body := code :: BitVec.ofNat 8 args.length :: args
  body ++ [-(byteSum body)]

/-- The two bytes of a number, most significant first (R154). -/
def bytesOf16 (v : BitVec 16) : List Byte := [v.extractLsb' 8 8, v.extractLsb' 0 8]

/-- The write frame of a command that is one: its time, target, end and bytes; none for a command that is no write
frame. -/
def encodeCommand : Instr → Option (Nat × Target × FrameEnd × List Byte)
  | .move f args => at_ f Code.move args
  | .renew f args => at_ f Code.renew args
  | .stop f args => at_ f Code.stop args
  | .global f args => at_ f Code.global args
  | .clear f args => at_ f Code.clear args
  | .allStop dt t fin args => some (dt, t, fin, encodeFrame Code.allStop args)
  | .readClosure f args => at_ f Code.readClosure args
  | .readOutcome f args => at_ f Code.readOutcome args
  | .readStats f args => at_ f Code.readStats args
  | .clearStats f args => at_ f Code.clearStats args
  | .readProfile f args => at_ f Code.readProfile args
  | .writeProfileZone f args => at_ f Code.writeProfileZone args
  | .markLearned f args => at_ f Code.markLearned args
  | .readSetting f args => at_ f Code.readSetting args
  | .readDeviceSetting f c d => at_ f Code.readSetting [c, d.id]
  | .readSlotState f c => at_ f Code.readSetting [c, slotStateId]
  | .writeSetting f args => at_ f Code.writeSetting args
  | .writeDeviceSetting f c x v => at_ f Code.writeSetting (c :: (DeviceSetting.supply x).id :: bytesOf16 v)
  | .writeTRet f c v => at_ f Code.writeSetting (c :: DeviceSetting.tRet.id :: bytesOf16 v)
  | .readSeatRecord f args => at_ f Code.readSeatRecord args
  | .writeSeatRecord f args => at_ f Code.writeSeatRecord args
  | .readWords f args => at_ f Code.readWords args
  | .writeWord f args => at_ f Code.writeWord args
  | .setBits f args => at_ f Code.setBits args
  | .clearBits f args => at_ f Code.clearBits args
  | .compareAndWrite f args => at_ f Code.compareAndWrite args
  | .takeNotice f args => at_ f Code.takeNotice args
  | .readSeatStatus f args => at_ f Code.readSeatStatus args
  | .commit f args => at_ f Code.commit args
  | .linkReset dt fin => some (dt, .broadcast, fin, encodeFrame Code.linkReset [])
  | .unknownCommand f code args => at_ f code args
  | .frameDiscard dt t (some fin) bytes => some (dt, t, fin, bytes)
  | .broadcastFrameDiscarded dt code args fin => some (dt, .broadcast, fin, encodeFrame code args)
  | .frameDiscard _ _ none _ | .readFrame _ _ | .stuckLinkRecovery _ _ | .hallEdge _ _ _ | .phaseFault _ _ | .stallExpiry _ _
  | .undrivenQuietExpiry _ _ | .brakeTimerExpiry _ _ | .quietTimerExpiry _ _ | .limitTimerExpiry _ _
  | .holdDeadlineExpiry _ _ | .queueTimeout _ _ | .currentSample _ _ _ | .supplySample _ _ | .supplyRefresh _
  | .temperatureMeasurement _ _ | .retainedWindowExpiry _ | .staleExpiry _ _ | .commitCompletion _ | .commitFailure _
  | .unparkWriteCompletion _ | .unparkWriteFailure _ | .linkQuietExpiry _ | .resetInput _ _ | .coldStart _ _ _ _
  | .startUpLoadEnd _ | .powerLoss _ | .frameNotAcknowledged _ _ _ => none
where
  at_ (f : SeatFrame) (code : Byte) (args : List Byte) : Option (Nat × Target × FrameEnd × List Byte) :=
    some (f.dt, .seat f.seat, f.fin, encodeFrame code args)

end Sys2Proof
end

