-- ==== Sys2Proof/Machine/Types.lean ====
section
/-! DEFINITION. The named values and the records of the spec: the closure description, the state of each block, the
outcome record, the notices and the retained image. Plain data throughout. -/
namespace Sys2Proof.Machine

/-- The class of a closure (R1). -/
inductive ClosureClass where
  | unused | window | vent | panel | shade
  deriving DecidableEq, Repr, Inhabited

/-- The hall polarity (R1, R8). -/
inductive Polarity where
  | normal | swapped
  deriving DecidableEq, Repr, Inhabited

/-- The reversal mode (R1, R74). -/
inductive ReversalMode where
  | distance | full
  deriving DecidableEq, Repr, Inhabited

/-- The validity of a position. -/
inductive Validity where
  | valid | lost
  deriving DecidableEq, Repr, Inhabited

/-- The readiness of a closure, derived by R7. -/
inductive Readiness where
  | full | limited | blind
  deriving DecidableEq, Repr, Inhabited

/-- A direction of motion or of a pulse: CLOSE (closing) or OPEN (opening). -/
inductive Direction where
  | closing | opening
  deriving DecidableEq, Repr, Inhabited

/-- The kind of a move (R84). -/
inductive Kind where
  | held | oneTouch | global | learn | normalise
  deriving DecidableEq, Repr, Inhabited

/-- The origin of a move (R84); `seatSwitch` is the spec's LOCAL. -/
inductive Origin where
  | panel | seatSwitch | remote | auto | service
  deriving DecidableEq, Repr, Inhabited

/-- The two drive-permit lines of a closure (R85): both inactive, or one active. -/
inductive Permit where
  | hold
  | drive (d : Direction)
  deriving DecidableEq, Repr, Inhabited

/-- The state of a motion context (R84). -/
inductive CtxState where
  | idle | queued | running | reversing | settling
  deriving DecidableEq, Repr, Inhabited

/-- The end reasons (R105). -/
inductive EndReason where
  | targetReached | closed | openEnd | stopped | allStopped | cleared | holdLapsed | queueTimeout | superseded
  | pinchReversed | stallReversed | reversalBlocked | openObstructed | supplyLow | lockedOut | directionFault
  | positionLost | learnDone | learnIncomplete | normalised
  deriving DecidableEq, Repr, Inhabited

/-- The result codes of a reply (The Closure Link, Result codes). -/
inductive Result where
  | accepted | badClosure | badArgument | notPermitted | childLocked | ignitionOff | notReady | escapeActive | supplyLow
  | busy | reversing | noMove | notIdle | storeBusy | mismatch | frameError | unknownCommand
  deriving DecidableEq, Repr, Inhabited

/-- The way a move was taken (R86). -/
inductive Way where
  | queued | replaced | followOn
  deriving DecidableEq, Repr, Inhabited

/-- The region of a verdict record (R67). -/
inductive Region where
  | pinch | free
  deriving DecidableEq, Repr, Inhabited

/-- The cause of a verdict (R67). -/
inductive VerdictCause where
  | load | stall
  deriving DecidableEq, Repr, Inhabited

/-- The phase of a reversal in progress (R60). -/
inductive ReversalPhase where
  | brake | reverse
  deriving DecidableEq, Repr, Inhabited

/-- The path of the load estimator (R27). -/
inductive Path where
  | profile | fallback
  deriving DecidableEq, Repr, Inhabited

/-- The status of a profile (R44). -/
inductive ProfileStatus where
  | learned | unlearned
  deriving DecidableEq, Repr, Inhabited

/-- The drop cause of a follow-on (R128). -/
inductive DropCause where
  | superseded | stopped | cleared | childLocked | notReady | escapeActive | supplyLow
  deriving DecidableEq, Repr, Inhabited

/-- The store operation that a store notice names (R128). -/
inductive StoreOp where
  | commit | parkingCommit | unparkWrite
  deriving DecidableEq, Repr, Inhabited

/-- The attention cause of a seat (R129, R134). -/
inductive AttentionCause where
  | none | urgent | level | stale
  deriving DecidableEq, Repr, Inhabited

/-- The supply state (R106). -/
inductive SupplyState where
  | above | below
  deriving DecidableEq, Repr, Inhabited

/-- The unpark wait (R106). -/
inductive UnparkWait where
  | none | waitingForStore | writing
  deriving DecidableEq, Repr, Inhabited

/-- The start-up source (R133, R161). -/
inductive StartSource where
  | restored | defaults
  deriving DecidableEq, Repr, Inhabited

/-- The closure description (R1). Distances in pulses, loads in LU, times in ms, the stall time in units of 10 ms. -/
structure Description where
  cls : ClosureClass := .unused
  polarity : Polarity := .normal
  travel : Nat := 3000
  endBand : Nat := 16
  pinchLimit : Nat := 800
  reversalMode : ReversalMode := .distance
  reversalDistance : Nat := 400
  speedGain : Nat := 48
  currentGain : Nat := 40
  blend : Nat := 8
  thPinch : Nat := 240
  thFree : Nat := 480
  thFallback : Nat := 360
  thOpen : Nat := 600
  thCeiling : Nat := 400
  roughStep : Nat := 30
  blanking : Nat := 6
  confirmSteps : Nat := 2
  stallUnits : Nat := 12
  brakeTime : Nat := 15
  escapeMax : Nat := 3
  statsOn : Bool := true
  deriving DecidableEq, Repr, Inhabited

/-- A rising edge of phase A held in the step record: its time and direction (R11). -/
structure StepEdge where
  time : Nat
  dir : Direction
  deriving DecidableEq, Repr, Inhabited

/-- The travel counter of a closure (table before R8). Timers hold their expiry time. -/
structure Counter where
  position : Int := 0
  validity : Validity := .lost
  phaseA : Bool := false
  phaseB : Bool := false
  lastDir : Option Direction := none
  stepRecord : Option StepEdge := none
  stallTimer : Option Nat := none
  dirFaultRun : Nat := 0
  phaseFaults : Nat := 0
  burst : Nat := 0
  undrivenTimer : Option Nat := none
  overspeed : Bool := false
  deriving DecidableEq, Repr, Inhabited

/-- The current accumulator and the last step mean of a closure (R22, R23). -/
structure Sense where
  isOpen : Bool := false
  sum : Nat := 0
  count : Nat := 0
  lastMean : Nat := 0
  deriving DecidableEq, Repr, Inhabited

/-- One entry of the move trace (R41). -/
structure TraceEntry where
  period : Nat := 0
  supply : Nat := 0
  current : Nat := 0
  count : Nat := 0
  deriving DecidableEq, Repr, Inhabited

/-- The peak of a move (R39). -/
structure Peak where
  load : Nat
  pos : Int
  deriving DecidableEq, Repr, Inhabited

/-- The load estimator of a closure (R28). -/
structure Estimator where
  blankingCount : Nat := 0
  rawList : List Int := []
  listPath : Option Path := none
  published : Nat := 0
  peak : Option Peak := none
  minSupply : Nat := 18000
  trace : Vector TraceEntry 64 := Vector.replicate 64 {}
  deriving DecidableEq, Repr, Inhabited

/-- One zone entry of a profile (R44); the defaults are the blank values of R45. -/
structure ZoneEntry where
  tRef : Nat := 2000
  iRef : Nat := 2000
  vRef : Nat := 13500
  tAnchor : Nat := 2000
  iAnchor : Nat := 2000
  deriving DecidableEq, Repr, Inhabited

/-- The profile of a closure with its flag and marks (R44). -/
structure Profile where
  status : ProfileStatus := .unlearned
  dirty : Bool := true
  capture : Bool := false
  escapeMark : Bool := false
  zones : Vector ZoneEntry 64 := Vector.replicate 64 {}
  deriving DecidableEq, Repr, Inhabited

/-- A verdict record (R67). -/
structure VerdictRecord where
  cause : VerdictCause
  pos : Int
  load : Nat
  threshold : Nat
  region : Region
  deriving DecidableEq, Repr, Inhabited

/-- The verdict unit of a closure (R60); `escape` is true when the escape state is IN. -/
structure Verdict where
  confirm : Nat := 0
  reversals : Nat := 0
  escape : Bool := false
  record : Option VerdictRecord := none
  phase : Option ReversalPhase := none
  target : Option Int := none
  brakeTimer : Option Nat := none
  lastThreshold : Nat := 0
  deriving DecidableEq, Repr, Inhabited

/-- A move: the seat that asked for it, its kind, direction, origin and optional target (R84, the owner's fields of a
context and the move record of a follow-on). -/
structure Move where
  seat : SeatId
  kind : Kind
  direction : Direction
  origin : Origin
  target : Option Int
  deriving DecidableEq, Repr, Inhabited

/-- The motion context of a closure (R84) with its permit lines (R85). The fields that are present only in some
states are options or hold their resting value in the others. -/
structure Context where
  state : CtxState := .idle
  move : Option Move := none
  holdDeadline : Option Nat := none
  queueEntry : Option Nat := none
  followOn : Option Move := none
  endReason : Option EndReason := none
  endedBy : Option SeatId := none
  startPos : Option Int := none
  startTime : Option Nat := none
  stepCount : Nat := 0
  quietTimer : Option Nat := none
  limitTimer : Option Nat := none
  longRunOn : Bool := false
  permit : Permit := .hold
  deriving DecidableEq, Repr, Inhabited

/-- The outcome record of a move (R105). `verdict` is the verdict position and load, when present. -/
structure OutcomeRecord where
  closure : ClosureId
  move : Move
  reason : EndReason
  endedBy : Option SeatId
  startPos : Int
  endPos : Int
  peak : Peak
  stepCount : Nat
  travelTime : Nat
  minSupply : Nat
  verdict : Option Peak
  longRunOn : Bool
  followOnStarted : Bool
  deriving DecidableEq, Repr, Inhabited

/-- The counters of a statistics block that the image holds (R139, R155). -/
structure StatCounters where
  granted : Nat := 0
  closed : Nat := 0
  reversals : Nat := 0
  obstructions : Nat := 0
  lapses : Nat := 0
  dirFaults : Nat := 0
  runTime : Nat := 0
  peak : Nat := 0
  deriving DecidableEq, Repr, Inhabited

/-- The statistics block of a closure (R139). -/
structure Stats where
  counters : StatCounters := {}
  remainder : Nat := 0
  deriving DecidableEq, Repr, Inhabited

/-- Everything the part holds for one closure, block by block. -/
structure ClosureState where
  desc : Description := {}
  counter : Counter := {}
  sense : Sense := {}
  est : Estimator := {}
  profile : Profile := {}
  verdict : Verdict := {}
  ctx : Context := {}
  lastOutcome : Option OutcomeRecord := none
  stats : Stats := {}
  deriving DecidableEq, Repr, Inhabited

/-- A seat permission record (R120); the defaults are those of seats 1 to 3. Hold window and stale time in units of
10 ms. -/
structure SeatRecord where
  moveMask : Byte := 0xFF
  rights : Byte := 0x01
  wordMask : Byte := 0x3E
  subscription : Byte := 0x00
  holdUnits : Nat := 20
  trigger : Nat := 1
  staleUnits : Nat := 50
  deriving DecidableEq, Repr, Inhabited

/-- What a notice reports: its kind with the closure and the body of that kind (R128). -/
inductive NoticeBody where
  | moveEnded (o : OutcomeRecord)
  | pinch (k : ClosureId) (r : VerdictRecord)
  | movedUndriven (k : ClosureId)
  | followOnDropped (k : ClosureId) (cause : DropCause) (m : Move)
  | storeDone (op : StoreOp)
  | storeFailed (op : StoreOp)
  | supplyLowEntered (mV : Nat)
  | supplyRecovered (mV : Nat)
  deriving DecidableEq, Repr, Inhabited

/-- A notice: what it reports and when it was posted (R128). Its urgent flag is decided by the body. -/
structure Notice where
  body : NoticeBody
  time : Nat
  deriving DecidableEq, Repr, Inhabited

/-- A pending reply (R149): result code, command byte, reply-overwritten mark and the items of its layout (R154). -/
structure Reply where
  result : Result
  command : Byte
  overwritten : Bool
  items : List Byte
  deriving DecidableEq, Repr, Inhabited

/-- Everything the part holds for one seat: permission record (R120), notice queue (R129), pending reply (R149). -/
structure SeatState where
  record : SeatRecord := {}
  queue : List Notice := []
  lossCount : Nat := 0
  staleDeadline : Option Nat := none
  cause : AttentionCause := .none
  line : Bool := false
  reply : Option Reply := none
  deriving DecidableEq, Repr, Inhabited

/-- The device settings (R106, R127): K_slots, V_low, V_resume, V_min in mV, T_ret in s. -/
structure Settings where
  slots : Nat := 3
  vLow : Nat := 10500
  vResume : Nat := 11000
  vMin : Nat := 8000
  tRet : Nat := 45
  deriving DecidableEq, Repr, Inhabited

/-- The supply and temperature front end (R24, R25); `window` holds the newest sample last. -/
structure FrontEnd where
  window : List Nat
  reading : Nat
  outOfRange : Bool
  temperature : Int
  deriving DecidableEq, Repr, Inhabited

/-- A closure in the slot queue with its arrival number (R110). -/
structure QueueEntry where
  closure : ClosureId
  arrival : Nat
  deriving DecidableEq, Repr, Inhabited

/-- The slot arbiter (R106). `held` marks the closures that hold a slot; `lastArrival` is the last arrival number. -/
structure Arbiter where
  effective : Nat := 3
  derating : Bool := false
  held : Vector Bool 8 := Vector.replicate 8 false
  queue : List QueueEntry := []
  lastArrival : Nat := 0
  supplyState : SupplyState := .above
  supplyNotice : Bool := false
  unparkPending : Bool := false
  unparkWait : UnparkWait := .none
  deriving DecidableEq, Repr, Inhabited

/-- A profile as the image holds it (R155). -/
structure StoredProfile where
  status : ProfileStatus := .unlearned
  zones : Vector ZoneEntry 64 := Vector.replicate 64 {}
  deriving DecidableEq, Repr, Inhabited

/-- A parked position (R155). -/
structure Parked where
  pos : Int := 0
  validity : Validity := .lost
  deriving DecidableEq, Repr, Inhabited

/-- The blank-store permission record of a seat (R120). -/
def SeatRecord.blank (n : SeatId) : SeatRecord :=
  if n = 0 then { rights := 0x0F, wordMask := 0x3F, subscription := 0xFF } else {}

/-- The retained image (R155). -/
structure Image where
  descriptions : Vector Description 8 := Vector.replicate 8 {}
  settings : Settings := {}
  records : Vector SeatRecord 4 := Vector.ofFn SeatRecord.blank
  profiles : Vector StoredProfile 8 := Vector.replicate 8 {}
  stats : Vector StatCounters 8 := Vector.replicate 8 {}
  positions : Vector Parked 8 := Vector.replicate 8 {}
  valid : Bool := false
  parked : Bool := false
  deriving DecidableEq, Repr, Inhabited

/-- The store state with what a commit in flight carries (R155, R156): the seat to be told, whether it parks, and the
captured copy. -/
inductive StoreJob where
  | idle
  | committing (seat : SeatId) (park : Bool) (captured : Image)
  | unparking
  deriving DecidableEq, Repr, Inhabited

/-- The retained store (R155) and the start-up source of the last load (R161). -/
structure Store where
  image : Image := {}
  job : StoreJob := .idle
  source : StartSource := .defaults
  deriving DecidableEq, Repr, Inhabited

/-- A notice that fell due during the start-up load and waits for its end (R106, R130). -/
inductive DueNotice where
  | movedUndriven (k : ClosureId)
  | supplyLowEntered (mV : Nat)
  | supplyRecovered (mV : Nat)
  deriving DecidableEq, Repr, Inhabited

end Sys2Proof.Machine
end

