-- ==== Sys2Proof/Config.lean ====
section
/-! DEFINITION. The fixed times and limits of the part, the values named where the spec gives a register no reset value,
and the free values: constants without a body for what the spec leaves open. -/
namespace Sys2Proof.Config

/-- Microseconds in a millisecond: the model's clock counts µs (log entry 1). -/
def ms : Nat := 1000
/-- The settling quiet timer, 30 ms (R102). -/
def settleQuiet : Nat := 30 * ms
/-- The settling limit timer, 300 ms (R102). -/
def settleLimit : Nat := 300 * ms
/-- The undriven quiet timer, 1 s (R18). -/
def undrivenQuiet : Nat := 1000 * ms
/-- The queue timeout, 8,000 ms (R114). -/
def queueWait : Nat := 8000 * ms
/-- The link-quiet timer, 2 s (R159). -/
def linkQuiet : Nat := 2000 * ms
/-- The 35 ms timer of the link (R152). -/
def linkStuck : Nat := 35 * ms
/-- The lowest position (R10). -/
def lowestPosition : Int := -64
/-- How far above L_full a position may lie (R10). -/
def overTravel : Int := 64
/-- The most notices a queue holds (R129). -/
def queueLength : Nat := 16
/-- The counted pulses of an undriven burst and of a direction-fault run (R14, R18). -/
def runLength : Nat := 8
/-- The phase faults that make a position LOST (R9). -/
def faultLimit : Nat := 4
/-- The largest travel time, notice age and counter value of two bytes (R105, R132, R139). -/
def wordMax : Nat := 65535
/-- The largest run time, in units of 100 ms (R139). -/
def runTimeMax : Nat := 4294967295

/-- DESIGN CHOICE, unsafe (log entry 5): the supply reading before its first publication. -/
def startReading : Nat := 13500
/-- DESIGN CHOICE, unsafe (log entry 5): the die temperature before its first measurement. -/
def startTemperature : Int := 0

/-- FREE VALUE (log entry 8): the contents of an image whose commit failed or was cut off (R157). -/
opaque tornImage : Nat → Machine.Image
/-- FREE VALUE (log entry 8): the parked marker after an unpark write that failed or was cut off (R158). -/
opaque tornMarker : Nat → Bool
/-- FREE VALUE (log entry 9): the region recorded for an opening verdict at a VALID position in the end band (R67). -/
opaque endBandRegion : Nat → Machine.Region

end Sys2Proof.Config
end

