-- ==== Sys2Proof/Machine/State.lean ====
section
/-! DEFINITION. The state of the part, everything the spec gives it, as plain data; the state right after reset; the
fault and refusal reasons. -/
namespace Sys2Proof.Machine

/-- The spec names no event at which the part stops, so no step faults: the type has no constructor. -/
inductive Fault where
  deriving DecidableEq, Repr

/-- The reasons a command may be refused by the model. -/
inductive Refusal where
  /-- Raised by a refused arm of `exec` alone, for a command that has no meaning yet: none at present. Safe. -/
  | notModelled (mnemonic : String)
  deriving DecidableEq, Repr

/-- The link interface: receiver (R146), the reply being sent while READING (R150), seat base (R119), link-quiet timer
(R159; `none` once 2 s have passed), the expiry time of the 35 ms timer (R152; log entry 25), and the model's two output
ports (log entry 4): the bytes sent in the last read frame and the acknowledge bits given in the last frame, first the
address byte's. -/
structure Link where
  receiver : Receiver
  sending : Option Reply
  seatBase : Nat
  quietTimer : Option Nat
  stuckTimer : Nat
  lastRead : List Byte
  lastAcks : List Bool
  deriving DecidableEq, Repr

/-- The state of the part. -/
structure State where
  /-- The commands that wait, first in, first out (log entry 3). -/
  pending : List Instr
  /-- The model's clock, in µs (log entry 1). -/
  now : Nat
  /-- Whether the part has power (R157, R161). -/
  powered : Bool
  /-- Whether the start-up load is in progress (R146, R161). -/
  loading : Bool
  /-- When sleep was entered, while the part sleeps (R159). -/
  asleepSince : Option Nat
  /-- The closures 0 to 7. -/
  closures : Vector ClosureState 8
  /-- The seats 0 to 3. -/
  seats : Vector SeatState 4
  /-- The supply and temperature front end (R24, R25). -/
  front : FrontEnd
  /-- The slot arbiter (R106). -/
  arbiter : Arbiter
  /-- The working device settings (R106, R127). -/
  settings : Settings
  /-- The six shared words, in word order (R123). -/
  words : Vector Byte 6
  /-- The retained window: its expiry time while OPEN (R127). -/
  window : Option Nat
  /-- The link interface. -/
  link : Link
  /-- The retained store (R155). -/
  store : Store
  /-- The notices that fell due in the start-up load, in order (R130). -/
  deferred : List DueNotice
  /-- The MODEL's own: the index of the next free value (log entries 8 and 9). -/
  freeCount : Nat
  deriving DecidableEq, Repr

/-- The front end when its sampling has just begun (R26). DESIGN CHOICE, unsafe (log entry 5): the reading, its mark
and the temperature before their first publication. -/
def FrontEnd.atStart : FrontEnd :=
  { window := [], reading := Config.startReading, outOfRange := false, temperature := Config.startTemperature }

/-- The machine right after reset: the cold start (R161, operations 1 to 6) of a part with a blank store, its start-up
load in progress. DESIGN CHOICE, unsafe (log entry 5): straps 0, every hall phase low. -/
def State.reset : State :=
  { pending := []
    now := 0
    powered := true
    loading := true
    asleepSince := none
    closures := Vector.replicate 8 {}
    seats := Vector.ofFn fun n => { record := SeatRecord.blank n }
    front := FrontEnd.atStart
    arbiter := {}
    settings := {}
    words := Vector.replicate 6 0
    window := none
    link :=
      { receiver := .idle
        sending := none
        seatBase := 0x30
        quietTimer := some Config.linkQuiet
        stuckTimer := Config.linkStuck
        lastRead := []
        lastAcks := [] }
    store := {}
    deferred := []
    freeCount := 0 }

end Sys2Proof.Machine
end

