-- ==== Sys2Proof/Machine/Operands.lean ====
section
/-! DEFINITION. The operands of commands and the items of replies as bytes (R154): coded values both ways, numbers most
significant byte first, and the byte layouts of the bodies. -/
namespace Sys2Proof.Machine

/-! Numbers (R154). -/

/-- One byte. -/
def byteOf (n : Nat) : Byte := BitVec.ofNat 8 n

/-- An unsigned number of two bytes, most significant first. -/
def be16 (n : Nat) : List Byte := bytesOf16 (BitVec.ofNat 16 n)

/-- A signed number of two bytes, two's complement, most significant first. -/
def beInt16 (x : Int) : List Byte := bytesOf16 (BitVec.ofInt 16 x)

/-- An unsigned number of four bytes, most significant first. -/
def be32 (n : Nat) : List Byte := be16 (n / 65536) ++ be16 (n % 65536)

/-- The number that two bytes hold, most significant first. -/
def word16 (hi lo : Byte) : BitVec 16 := hi ++ lo

/-- A flag or mark as a byte: 0 or 1. -/
def flagByte (b : Bool) : Byte := if b then 1 else 0

/-- A mark bit of a marks byte. -/
def markBit (b : Bool) (value : Nat) : Nat := if b then value else 0

/-- The code of an absent seat or closure. -/
def absentByte : Byte := 0xFF

/-- The code of an absent target. -/
def absentTarget : BitVec 16 := 0x7FFF

/-! Coded values, from a byte. -/

/-- A closure number from its byte; none above 7. -/
def closureOf (b : Byte) : Option ClosureId := if h : b.toNat < 8 then some ⟨b.toNat, h⟩ else none

/-- A seat number from its byte; none above 3. -/
def seatOf (b : Byte) : Option SeatId := if h : b.toNat < 4 then some ⟨b.toNat, h⟩ else none

/-- A shared word's number from its byte; none above 5. -/
def wordOf (b : Byte) : Option (Fin 6) := if h : b.toNat < 6 then some ⟨b.toNat, h⟩ else none

/-- The kind a byte codes (R154). -/
def kindOf (b : Byte) : Option Kind :=
  match b.toNat with
  | 0 => some .held
  | 1 => some .oneTouch
  | 2 => some .global
  | 3 => some .learn
  | 4 => some .normalise
  | _ => none

/-- The direction a byte codes (R154). -/
def directionOf (b : Byte) : Option Direction :=
  match b.toNat with
  | 0 => some .closing
  | 1 => some .opening
  | _ => none

/-- The origin a byte codes (R154). -/
def originOf (b : Byte) : Option Origin :=
  match b.toNat with
  | 0 => some .panel
  | 1 => some .seatSwitch
  | 2 => some .remote
  | 3 => some .auto
  | 4 => some .service
  | _ => none

/-- The class a value codes (R154). -/
def classOf (v : Nat) : Option ClosureClass :=
  match v with
  | 0 => some .unused
  | 1 => some .window
  | 2 => some .vent
  | 3 => some .panel
  | 4 => some .shade
  | _ => none

/-- The hall polarity a value codes (R154). -/
def polarityOf (v : Nat) : Option Polarity :=
  match v with
  | 0 => some .normal
  | 1 => some .swapped
  | _ => none

/-- The reversal mode a value codes (R154). -/
def reversalModeOf (v : Nat) : Option ReversalMode :=
  match v with
  | 0 => some .distance
  | 1 => some .full
  | _ => none

/-- ON or OFF from its value (R154). -/
def onOffOf (v : Nat) : Option Bool :=
  match v with
  | 0 => some false
  | 1 => some true
  | _ => none

/-- The target two bytes code: 0x7FFF is "absent target". DEDUCED (log entry 10). -/
def targetOf (hi lo : Byte) : Option Int :=
  if word16 hi lo = absentTarget then none else some (word16 hi lo).toInt

/-! Coded values, as numbers. -/

def ClosureClass.code : ClosureClass → Nat
  | .unused => 0 | .window => 1 | .vent => 2 | .panel => 3 | .shade => 4

def Polarity.code : Polarity → Nat
  | .normal => 0 | .swapped => 1

def ReversalMode.code : ReversalMode → Nat
  | .distance => 0 | .full => 1

def Kind.code : Kind → Nat
  | .held => 0 | .oneTouch => 1 | .global => 2 | .learn => 3 | .normalise => 4

def Direction.code : Direction → Nat
  | .closing => 0 | .opening => 1

def Origin.code : Origin → Nat
  | .panel => 0 | .seatSwitch => 1 | .remote => 2 | .auto => 3 | .service => 4

def CtxState.code : CtxState → Nat
  | .idle => 0 | .queued => 1 | .running => 2 | .reversing => 3 | .settling => 4

def Validity.code : Validity → Nat
  | .valid => 0 | .lost => 1

def Readiness.code : Readiness → Nat
  | .full => 0 | .limited => 1 | .blind => 2

def EndReason.code : EndReason → Nat
  | .targetReached => 1 | .closed => 2 | .openEnd => 3 | .stopped => 4 | .allStopped => 5 | .cleared => 6
  | .holdLapsed => 7 | .queueTimeout => 8 | .superseded => 9 | .pinchReversed => 10 | .stallReversed => 11
  | .reversalBlocked => 12 | .openObstructed => 13 | .supplyLow => 14 | .lockedOut => 15 | .directionFault => 16
  | .positionLost => 17 | .learnDone => 18 | .learnIncomplete => 19 | .normalised => 20

def Result.code : Result → Nat
  | .accepted => 0x00 | .badClosure => 0x01 | .badArgument => 0x02 | .notPermitted => 0x03 | .childLocked => 0x04
  | .ignitionOff => 0x05 | .notReady => 0x06 | .escapeActive => 0x07 | .supplyLow => 0x08 | .busy => 0x09
  | .reversing => 0x0A | .noMove => 0x0B | .notIdle => 0x0C | .storeBusy => 0x0D | .mismatch => 0x0E
  | .frameError => 0x0F | .unknownCommand => 0x10

def Way.code : Way → Nat
  | .queued => 0 | .replaced => 1 | .followOn => 2

def ProfileStatus.code : ProfileStatus → Nat
  | .learned => 0 | .unlearned => 1

def AttentionCause.code : AttentionCause → Nat
  | .none => 0 | .urgent => 1 | .level => 2 | .stale => 3

def StoreJob.code : StoreJob → Nat
  | .idle => 0 | .committing _ _ _ => 1 | .unparking => 2

def StartSource.code : StartSource → Nat
  | .restored => 0 | .defaults => 1

def SupplyState.code : SupplyState → Nat
  | .above => 0 | .below => 1

def UnparkWait.code : UnparkWait → Nat
  | .none => 0 | .waitingForStore => 1 | .writing => 2

def DropCause.code : DropCause → Nat
  | .superseded => 1 | .stopped => 2 | .cleared => 3 | .childLocked => 4 | .notReady => 5 | .escapeActive => 6
  | .supplyLow => 7

def StoreOp.code : StoreOp → Nat
  | .commit => 0 | .parkingCommit => 1 | .unparkWrite => 2

def Region.code : Region → Nat
  | .pinch => 0 | .free => 1

def VerdictCause.code : VerdictCause → Nat
  | .load => 0 | .stall => 1

/-- The two bytes of a target, absent as 0x7FFF (R154). -/
def targetBytes : Option Int → List Byte
  | some p => beInt16 p
  | none => bytesOf16 absentTarget

/-- The byte of an optional seat, absent as 0xFF (R154). -/
def seatByte : Option SeatId → Byte
  | some n => byteOf n.val
  | none => absentByte

/-! Rights (R120, R154). -/

/-- The rights of a permission record, at their member's number in the rights byte (GLOBAL 1, SERVICE 2, SETTINGS 4,
COMMIT 8). -/
inductive Right where
  | global | service | settings | commit
  deriving DecidableEq, Repr

def Right.member : Right → Nat
  | .global => 0 | .service => 1 | .settings => 2 | .commit => 3

/-- Whether a record holds a right (R120). -/
def SeatRecord.grants (r : SeatRecord) (x : Right) : Bool := hasMember r.rights x.member

/-! Byte layouts (R154). -/

/-- The outcome record body, 26 bytes. -/
def outcomeBody (o : OutcomeRecord) : List Byte :=
  [byteOf o.closure.val, byteOf o.move.seat.val, byteOf o.move.kind.code, byteOf o.move.direction.code,
    byteOf o.move.origin.code, byteOf o.reason.code, seatByte o.endedBy]
  ++ beInt16 o.startPos ++ beInt16 o.endPos ++ be16 o.peak.load ++ beInt16 o.peak.pos ++ be16 o.stepCount
  ++ be16 o.travelTime ++ be16 o.minSupply
  ++ [byteOf (markBit o.verdict.isSome 1 + markBit o.longRunOn 2 + markBit o.followOnStarted 4)]
  ++ match o.verdict with
     | some v => beInt16 v.pos ++ be16 v.load
     | none => beInt16 0 ++ be16 0

/-- The PINCH notice body, 8 bytes. -/
def pinchBody (r : VerdictRecord) : List Byte :=
  beInt16 r.pos ++ be16 r.load ++ be16 r.threshold ++ [byteOf r.region.code, byteOf r.cause.code]

/-- The FOLLOW_ON_DROPPED notice body, 7 bytes. -/
def droppedBody (cause : DropCause) (m : Move) : List Byte :=
  [byteOf cause.code, byteOf m.seat.val, byteOf m.kind.code, byteOf m.direction.code, byteOf m.origin.code]
  ++ targetBytes m.target

/-- The code of a notice's kind. -/
def NoticeBody.kindCode : NoticeBody → Nat
  | .moveEnded _ => 1 | .pinch _ _ => 2 | .movedUndriven _ => 3 | .followOnDropped _ _ _ => 4 | .storeDone _ => 5
  | .storeFailed _ => 6 | .supplyLowEntered _ => 7 | .supplyRecovered _ => 8

/-- The closure a notice names (R128). -/
def NoticeBody.closure : NoticeBody → Option ClosureId
  | .moveEnded o => some o.closure
  | .pinch k _ => some k
  | .movedUndriven k => some k
  | .followOnDropped k _ _ => some k
  | .storeDone _ | .storeFailed _ | .supplyLowEntered _ | .supplyRecovered _ => none

/-- The body bytes of a notice (R128, R154). -/
def NoticeBody.bytes : NoticeBody → List Byte
  | .moveEnded o => outcomeBody o
  | .pinch _ r => pinchBody r
  | .movedUndriven _ => []
  | .followOnDropped _ cause m => droppedBody cause m
  | .storeDone op => [byteOf op.code]
  | .storeFailed op => [byteOf op.code]
  | .supplyLowEntered mV => be16 mV
  | .supplyRecovered mV => be16 mV

/-- The end reasons whose MOVE_ENDED notice is urgent (R103, R128). -/
def EndReason.isUrgent : EndReason → Bool
  | .directionFault | .reversalBlocked | .positionLost => true
  | .targetReached | .closed | .openEnd | .stopped | .allStopped | .cleared | .holdLapsed | .queueTimeout | .superseded
  | .pinchReversed | .stallReversed | .openObstructed | .supplyLow | .lockedOut | .learnDone | .learnIncomplete
  | .normalised => false

/-- The urgent flag of a notice, decided by its kind and body (R128), computed and not stored (log
entry 17). -/
def NoticeBody.urgent : NoticeBody → Bool
  | .moveEnded o => o.reason.isUrgent
  | .pinch _ _ => true
  | .movedUndriven _ | .followOnDropped _ _ _ | .storeDone _ | .storeFailed _ | .supplyLowEntered _
  | .supplyRecovered _ => false

/-- A number of ms from a time in µs, truncated (log entry 1), saturating at two bytes. -/
def msOf (us : Nat) : Nat := min Config.wordMax (us / Config.ms)

/-- The items of a TAKE NOTICE reply: notice header and body (R132, R154). -/
def noticeItems (now : Nat) (n : Notice) : List Byte :=
  [byteOf n.body.kindCode, flagByte n.body.urgent,
    match n.body.closure with
    | some k => byteOf k.val
    | none => absentByte]
  ++ be16 (msOf (now - n.time)) ++ n.body.bytes

/-- The items of READ STATS (R143, R154). -/
def statsItems (c : StatCounters) (on : Bool) : List Byte :=
  be16 c.granted ++ be16 c.closed ++ be16 c.reversals ++ be16 c.obstructions ++ be16 c.lapses ++ be16 c.dirFaults
  ++ be32 c.runTime ++ be16 c.peak ++ [flagByte on]

/-- One zone record of READ PROFILE (R56, R154). -/
def zoneItems (z : Fin 64) (e : ZoneEntry) : List Byte :=
  byteOf z.val :: (be16 e.tRef ++ be16 e.iRef ++ be16 e.vRef ++ be16 e.tAnchor ++ be16 e.iAnchor)

/-- The items of READ SEAT RECORD and WRITE SEAT RECORD (R122, R154). -/
def recordItems (n : SeatId) (r : SeatRecord) : List Byte :=
  [byteOf n.val, r.moveMask, r.rights, r.wordMask, r.subscription, byteOf r.holdUnits, byteOf r.trigger,
    byteOf r.staleUnits]

/-- A set of closures as a mask (R154). -/
def maskOf (v : Vector Bool 8) : Byte :=
  byteOf ((allClosures.map fun k => markBit v[k] (2 ^ k.val)).sum)

/-- The eight slot-queue bytes of READ SETTING of the slot state (R154). -/
def queueBytes (q : List QueueEntry) : List Byte :=
  ((q.map fun e => byteOf e.closure.val) ++ List.replicate 8 absentByte).take 8

/-- The check byte that makes a list of bytes sum to 0 (R147, R150). -/
def checkByte (bytes : List Byte) : Byte := -(byteSum bytes)

/-- The reply bytes of a read frame (R150, R154): length m, result code, command, marks, items, check byte. -/
def Reply.frame (r : Reply) : List Byte :=
  let body := byteOf r.result.code :: r.command :: flagByte r.overwritten :: r.items
  let sent := byteOf body.length :: body
  sent ++ [checkByte sent]

end Sys2Proof.Machine
end

