-- ==== Sys2Proof/Machine/Flags.lean ====
section
/-! DEFINITION. What the rules derive from the state at the moment it is read: readiness, zones and regions, the class
of grant, the tests of the request checks, the attention causes. -/
namespace Sys2Proof.Machine

/-! Readiness (R7, R87). -/

/-- The readiness of a closure (R7). -/
def ClosureState.readiness (c : ClosureState) : Readiness :=
  match c.counter.validity, c.profile.status with
  | .valid, .learned => .full
  | .valid, .unlearned => .limited
  | .lost, _ => .blind

/-- Whether a kind of move is accepted at a readiness (R87). -/
def Kind.allowedAt : Kind → Readiness → Bool
  | .held, _ | .normalise, _ => true
  | .oneTouch, .full | .global, .full => true
  | .oneTouch, .limited | .oneTouch, .blind | .global, .limited | .global, .blind => false
  | .learn, .full | .learn, .limited => true
  | .learn, .blind => false

/-- The kinds that do not continue on a LOST position: ONE_TOUCH, GLOBAL, LEARN (R15, R101). -/
def Kind.needsPosition : Kind → Bool
  | .oneTouch | .global | .learn => true
  | .held | .normalise => false

/-- The kinds that carry a hold deadline: HELD and NORMALISE (R84). -/
def Kind.isHeld : Kind → Bool
  | .held | .normalise => true
  | .oneTouch | .global | .learn => false

/-- The kinds that close to the stop whatever target is given: LEARN and NORMALISE (R86, R93). -/
def Kind.toStop : Kind → Bool
  | .learn | .normalise => true
  | .held | .oneTouch | .global => false

/-- The class of grant (R84), computed and not stored (log entry 17). -/
def Kind.grantClass : Kind → Nat
  | .held | .learn | .normalise => 0
  | .oneTouch => 1
  | .global => 2

/-! Zones and regions (R5, R6). -/

/-- The zone width W (R5). -/
def Description.zoneWidth (d : Description) : Nat := d.travel / 64

/-- The zone of a position (R5). -/
def Description.zone (d : Description) (p : Int) : Fin 64 :=
  ⟨min 63 (p.toNat / d.zoneWidth), by omega⟩

/-- The zone of a step: the zone of its end position clamped to 0 to L_full (R28). -/
def Description.stepZone (d : Description) (p : Int) : Fin 64 := d.zone (clampInt 0 d.travel p)

/-- The upper position limit L_full + 64 (R10). -/
def Description.highestPosition (d : Description) : Int := d.travel + Config.overTravel

/-- The start position a LEARN request needs at least: L_full - W (R49). -/
def Description.learnStart (d : Description) : Int := (d.travel : Int) - d.zoneWidth

/-- The stall time in µs (R13). -/
def Description.stallTime (d : Description) : Nat := d.stallUnits * (10 * Config.ms)

/-- The class default of the reversal mode (R1). -/
def ClosureClass.defaultMode : ClosureClass → ReversalMode
  | .unused | .window | .vent => .distance
  | .panel | .shade => .full

/-- Whether a position lies in the end band (R6). -/
def ClosureState.inEndBand (c : ClosureState) (p : Int) : Bool := decide (p ≤ c.desc.endBand)

/-- Whether a position counts as pinch region for the verdict unit: by R6, and every position while LOST. -/
def ClosureState.inPinchRegion (c : ClosureState) (p : Int) : Bool :=
  match c.counter.validity with
  | .lost => true
  | .valid => decide ((c.desc.endBand : Int) < p ∧ p ≤ c.desc.pinchLimit)

/-! Words and window (R123, R127). -/

def State.childLock (s : State) : Byte := s.words[0]
def State.ignition (s : State) : Byte := s.words[1]
def State.frontDoors (s : State) : Byte := s.words[2]
def State.speedBand (s : State) : Byte := s.words[3]
def State.roughness (s : State) : Byte := s.words[4]
def State.sleepPermit (s : State) : Byte := s.words[5]

/-! Targets (R93). -/

/-- Whether a position has reached a move's target (R93): no target is never reached, and LEARN and NORMALISE run to
the closed stop. -/
def Move.reached (m : Move) (p : Int) : Bool :=
  if m.kind.toStop then false
  else match m.target, m.direction with
    | none, _ => false
    | some t, .closing => decide (p ≤ t)
    | some t, .opening => decide (t ≤ p)

/-! The attention line (R134, R135). -/

/-- The stale deadline of a queue: the oldest notice's posting time plus the stale time (R135). -/
def SeatState.deadline (n : SeatState) : Option Nat :=
  match n.queue with
  | [] => none
  | oldest :: _ => some (oldest.time + n.record.staleUnits * (10 * Config.ms))

/-- The highest-priority attention cause that holds at a time (R134). -/
def SeatState.causeAt (now : Nat) (n : SeatState) : AttentionCause :=
  if n.queue.any fun x => x.body.urgent then .urgent
  else if n.record.trigger ≤ n.queue.length then .level
  else match n.staleDeadline with
    | some t => if t ≤ now then .stale else .none
    | none => .none

/-! Contention and request checks (R86 to R91). -/

/-- What a move request meets at a context that is not IDLE, or at an IDLE one: a refusal, or the way it is taken. -/
inductive Meeting where
  | refused (r : Result)
  /-- At an IDLE context (R88). -/
  | enqueue
  /-- Replaced in place, at a QUEUED context (R89). -/
  | replaceQueued
  /-- The queued move is removed SUPERSEDED and the new one taken as at IDLE (R89). -/
  | supersedeQueued
  /-- Replaced in place, at a RUNNING context (R90). -/
  | replaceRunning
  /-- The running move ends SUPERSEDED and the new one is stored as the follow-on (R90). -/
  | supersedeRunning
  /-- Stored as the follow-on (R91). -/
  | store
  deriving DecidableEq, Repr

/-- Contention (R88 to R91): from the state of the context, whether the request comes from the owner seat, and whether
it is in the same direction. -/
def Context.meet (x : Context) (m : Move) : Meeting :=
  match x.state, x.move with
  | .queued, some old =>
    if m.direction ≠ old.direction then .supersedeQueued
    else if m.seat = old.seat then .replaceQueued else .refused .busy
  | .running, some old =>
    if m.direction ≠ old.direction then .supersedeRunning
    else if m.seat ≠ old.seat then .refused .busy
    else if old.kind.toStop || m.kind.toStop then .supersedeRunning else .replaceRunning
  | .reversing, _ =>
    match m.direction with
    | .closing => .refused .reversing
    | .opening => .store
  | .settling, _ => .store
  | .idle, _ | .queued, none | .running, none => .enqueue

/-- Check 4 of R86. -/
def State.lockedOut (s : State) (k : ClosureId) (m : Move) : Bool :=
  decide (m.origin = .seatSwitch) && hasMember s.childLock k.val

/-- Check 5 of R86. -/
def State.ignitionOffFor (s : State) (m : Move) : Bool :=
  (decide (m.origin = .panel) || decide (m.origin = .seatSwitch)) && decide (s.ignition = 0) && s.window.isNone

/-- Check 7 of R86. -/
def ClosureState.escapeBars (c : ClosureState) (m : Move) : Bool :=
  c.verdict.escape && decide (m.direction = .closing) && (decide (m.kind = .oneTouch) || decide (m.kind = .global))

/-- Check 8 of R86. -/
def State.supplyBars (s : State) (m : Move) : Bool :=
  decide (m.direction = .closing) && decide (s.front.reading < s.settings.vMin)

/-- Check 3 of R86: the move mask, the GLOBAL right, the SERVICE right. -/
def SeatRecord.permits (r : SeatRecord) (k : ClosureId) (m : Move) : Bool :=
  hasMember r.moveMask k.val
  && (!decide (m.kind = .global) || r.grants .global)
  && (!(m.kind.toStop || decide (m.origin = .service)) || r.grants .service)

/-- Checks 1 to 9 of R86 at a closure numbered 0 to 7, in their order: the refusal of the first that fails. -/
def State.moveRefusal (s : State) (k : ClosureId) (m : Move) : Option Result :=
  let c := s.closures[k]
  if c.desc.cls = .unused then some .badClosure
  else if m.kind.toStop && decide (m.direction = .opening) then some .badArgument
  else if !(s.seats[m.seat].record.permits k m) then some .notPermitted
  else if s.lockedOut k m then some .childLocked
  else if s.ignitionOffFor m then some .ignitionOff
  else if !(m.kind.allowedAt c.readiness) then some .notReady
  else if c.escapeBars m then some .escapeActive
  else if s.supplyBars m then some .supplyLow
  else if decide (m.kind = .learn) && decide (c.counter.position < c.desc.learnStart) then some .badArgument
  else none

/-- The settle-end re-check of a follow-on: checks 4, 6, 7 and 8 of R86, in that order (R103). -/
def State.followOnRefusal (s : State) (k : ClosureId) (m : Move) : Option DropCause :=
  let c := s.closures[k]
  if s.lockedOut k m then some .childLocked
  else if !(m.kind.allowedAt c.readiness) then some .notReady
  else if c.escapeBars m then some .escapeActive
  else if s.supplyBars m then some .supplyLow
  else none

end Sys2Proof.Machine
end

