-- ==== Sys2Proof/Machine/Estimator.lean ====
section
/-! DEFINITION. The arithmetic of the load estimator (R27 to R42), of learning (R51) and of adaptation (R55), each a
function of one closure's state. -/
namespace Sys2Proof.Machine

/-! The current front end (R22, R23). -/

/-- The accumulator emptied and closed (R22). -/
def Sense.close (x : Sense) : Sense := { x with isOpen := false, sum := 0, count := 0 }

/-- The accumulator opened, empty, for the next step (R22). -/
def Sense.open_ (x : Sense) : Sense := { x with isOpen := true, sum := 0, count := 0 }

/-- A current sample in mA: clamped to 0 to 40,000 mA (R22). -/
def sampleOf (mA : Int) : Nat := (clampInt 0 40000 mA).toNat

/-- A sample reaches the accumulator (R22): added while it is open and its count below 65,535. -/
def Sense.add (x : Sense) (mA : Int) : Sense :=
  if x.isOpen && decide (x.count < Config.wordMax) then { x with sum := x.sum + sampleOf mA, count := x.count + 1 } else x

/-- The mean current of a completed step; the last step mean when no sample was taken (R23). -/
def Sense.mean (x : Sense) : Nat := if x.count = 0 then x.lastMean else x.sum / x.count

/-! The raw load (R30 to R34, R37). -/

/-- Stage 1, the expected period: T_ref × V_ref / V rounded half up, clamped to 100 to 65,535 µs (R30). -/
def expectedPeriod (e : ZoneEntry) (supply : Nat) : Nat :=
  clampNat 100 65535 ((2 * (e.tRef * e.vRef) + supply) / (2 * supply))

/-- Stage 2, the excess period (R31). -/
def excessPeriod (period expected : Nat) : Int :=
  clampInt (-1024) 4095 ((((period : Int) - expected) * 1024).tdiv expected)

/-- Stage 3, the speed load (R32). -/
def speedLoad (gain : Nat) (excess : Int) : Int := (excess * gain).tdiv 64

/-- Stage 4, the current load (R33). -/
def currentLoad (gain : Nat) (current reference : Nat) : Int := (((current : Int) - reference) * gain).tdiv 256

/-- Stage 5, the blend (R34). -/
def blendLoad (w : Nat) (lc ls : Int) : Int := ((w : Int) * lc + (16 - (w : Int)) * ls).tdiv 16

/-- The raw load of a step on the profile path, stages 1 to 5. -/
def profileLoad (d : Description) (e : ZoneEntry) (period current supply : Nat) : Int :=
  blendLoad d.blend (currentLoad d.currentGain current e.iRef)
    (speedLoad d.speedGain (excessPeriod period (expectedPeriod e supply)))

/-- The raw load of a step on the fallback path (R37). -/
def fallbackLoad (d : Description) (current : Nat) : Int := ((current * d.currentGain / 256 : Nat) : Int)

/-! Filter and clamp (R35, R36). -/

/-- The raw list after a step's raw load joins it (R35, operations 1 to 3). -/
def Estimator.joined (x : Estimator) (path : Path) (raw : Int) : List Int :=
  let kept := if x.listPath = some path then x.rawList else []
  let grown := kept ++ [raw]
  grown.drop (grown.length - 4)

/-- The filtered load: the mean of the list truncated toward zero (R35), clamped to 0 to 2,047 LU (R36). -/
def filteredLoad (list : List Int) : Nat := (clampInt 0 2047 (list.sum.tdiv list.length)).toNat

/-! The path, peak and trace (R27, R39, R41). -/

/-- The path of the closure's steps (R27): the profile path under permit CLOSE for a FULL closure whose move is not a
LEARN run. -/
def ClosureState.path (c : ClosureState) : Path :=
  if c.ctx.permit = .drive .closing ∧ c.readiness = .full ∧ c.ctx.move.map (·.kind) ≠ some .learn then .profile
  else .fallback

/-- The peak after a computed step (R39). -/
def peakAfter (p : Option Peak) (load : Nat) (pos : Int) : Option Peak :=
  match p with
  | none => some { load := load, pos := pos }
  | some old => if old.load < load then some { load := load, pos := pos } else some old

/-- The period at the zone's reference supply (R41). -/
def normPeriod (period supply vRef : Nat) : Nat := min 65535 (period * supply / vRef)

/-- A trace entry after a step (R41): the raw period and supply for a LEARN run, the normalised period for any other. -/
def TraceEntry.add (e : TraceEntry) (kind : Kind) (z : ZoneEntry) (period supply current : Nat) : TraceEntry :=
  if 255 ≤ e.count then e
  else match kind with
    | .learn =>
      { period := e.period + period, supply := e.supply + supply, current := e.current + current, count := e.count + 1 }
    | .held | .oneTouch | .global | .normalise =>
      { e with
        period := e.period + normPeriod period supply z.vRef
        current := e.current + current
        count := e.count + 1 }

/-- Whether a measured step is added to the move trace (R41): under permit CLOSE, at a VALID position, and a step of a
LEARN run or a computed one. -/
def ClosureState.traces (c : ClosureState) (computed : Bool) : Bool :=
  decide (c.ctx.permit = .drive .closing) && decide (c.counter.validity = .valid)
  && (decide (c.ctx.move.map (·.kind) = some .learn) || computed)

/-- The move trace after a measured step (R41). -/
def ClosureState.traceAfter (c : ClosureState) (computed : Bool) (period current supply : Nat) (pos : Int) :
    Vector TraceEntry 64 :=
  match c.ctx.move with
  | some m =>
    if c.traces computed then
      let z := c.desc.stepZone pos
      c.est.trace.set z (c.est.trace[z].add m.kind c.profile.zones[z] period supply current)
    else c.est.trace
  | none => c.est.trace

/-- The minimum supply after a measured step (R40). -/
def Estimator.lowered (x : Estimator) (supply : Nat) : Nat := min x.minSupply supply

/-- A blanking step (R29). -/
def ClosureState.blankStep (c : ClosureState) (period current supply : Nat) (pos : Int) : ClosureState :=
  { c with est :=
    { c.est with
      blankingCount := c.est.blankingCount - 1
      minSupply := c.est.lowered supply
      trace := c.traceAfter false period current supply pos } }

/-- The raw load of a computed step on its path. -/
def ClosureState.rawLoad (c : ClosureState) (path : Path) (period current supply : Nat) (pos : Int) : Int :=
  match path with
  | .profile => profileLoad c.desc c.profile.zones[c.desc.stepZone pos] period current supply
  | .fallback => fallbackLoad c.desc current

/-- The filtered load of a computed step (R35, R36). -/
def ClosureState.stepLoad (c : ClosureState) (period current supply : Nat) (pos : Int) : Nat :=
  filteredLoad (c.est.joined c.path (c.rawLoad c.path period current supply pos))

/-- A computed step, operations 1 to 3 of R38: published load, peak, minimum supply, trace. -/
def ClosureState.computedStep (c : ClosureState) (period current supply : Nat) (pos : Int) : ClosureState :=
  let list := c.est.joined c.path (c.rawLoad c.path period current supply pos)
  let load := filteredLoad list
  { c with est :=
    { c.est with
      rawList := list
      listPath := some c.path
      published := load
      peak := peakAfter c.est.peak load pos
      minSupply := c.est.lowered supply
      trace := c.traceAfter true period current supply pos } }

/-! Learning (R51). -/

/-- Whether a zone is sampled (R51). -/
def Estimator.sampled (x : Estimator) (z : Fin 64) : Bool := decide (1 ≤ x.trace[z].count)

/-- The highest sampled zone h (R51). -/
def Estimator.highest (x : Estimator) : Option (Fin 64) := ((List.finRange 64).filter x.sampled).getLast?

/-- Whether the trace is complete: some zone is sampled, and every zone from 0 to the highest (R51). -/
def Estimator.complete (x : Estimator) : Bool :=
  match x.highest with
  | none => false
  | some h => (List.finRange 64).all fun z => decide (h < z) || x.sampled z

/-- The zone entry that a sampled zone's trace gives (R51, operation 1). -/
def TraceEntry.learned (t : TraceEntry) : ZoneEntry :=
  { tRef := t.period / t.count
    iRef := t.current / t.count
    vRef := t.supply / t.count
    tAnchor := t.period / t.count
    iAnchor := t.current / t.count }

/-- The zone entries after a learning run (R51, operations 1 and 2). -/
def Estimator.learnedZones (x : Estimator) (old : Vector ZoneEntry 64) : Vector ZoneEntry 64 :=
  Vector.ofFn fun z =>
    if x.sampled z then x.trace[z].learned
    else match x.highest with
      | some h => if h < z then x.trace[h].learned else old[z]
      | none => old[z]

/-- A profile changed: its dirty flag is set and its capture mark cleared (R47). -/
def Profile.changed (p : Profile) : Profile := { p with dirty := true, capture := false }

/-- A learning run taken into the profile (R51). -/
def ClosureState.learn (c : ClosureState) : ClosureState :=
  { c with
    profile := { c.profile with zones := c.est.learnedZones c.profile.zones, status := .learned }.changed
    verdict := { c.verdict with reversals := 0, escape := false } }

/-! Adaptation (R54, R55). -/

/-- A reference moved an eighth of the way toward a mean and clamped to its anchor's band, then to its range (R55). -/
def adaptValue (reference anchor mean lo hi : Nat) : Nat :=
  clampNat lo hi (clampNat (3 * anchor / 4) (5 * anchor / 4) ((reference : Int) + ((mean : Int) - reference).tdiv 8).toNat)

/-- A zone entry adapted from its trace entry (R55). -/
def ZoneEntry.adapt (e : ZoneEntry) (t : TraceEntry) : ZoneEntry :=
  if t.count = 0 then e
  else
    { e with
      tRef := adaptValue e.tRef e.tAnchor (t.period / t.count) 200 65535
      iRef := adaptValue e.iRef e.iAnchor (t.current / t.count) 0 40000 }

/-- An adaptation (R55): the dirty flag and the capture mark change when any value has changed. -/
def ClosureState.adapt (c : ClosureState) : ClosureState :=
  let zones := Vector.ofFn fun z => c.profile.zones[z].adapt c.est.trace[z]
  if zones = c.profile.zones then c else { c with profile := { c.profile with zones := zones }.changed }

/-- The gates of adaptation (R54). -/
def ClosureState.adapts (c : ClosureState) (m : Move) (reason : EndReason) (roughness : Byte) (temperature : Int) : Bool :=
  decide (m.direction = .closing)
  && (decide (m.kind = .oneTouch) || decide (m.kind = .held) || decide (m.kind = .global))
  && decide (reason = .closed)
  && c.verdict.record.isNone
  && !c.profile.escapeMark
  && decide (c.readiness = .full)
  && decide (roughness.toNat ≤ 1)
  && decide (-10 ≤ temperature ∧ temperature ≤ 50)

end Sys2Proof.Machine
end

