-- ==== Sys2Proof/Machine/Ops.lean ====
section
/-! DEFINITION. The named operations over the state: one block of one closure, seats and their notices, permits, the
slot queue, and what every event and every frame does besides its own effect. -/
namespace Sys2Proof.Machine

/-! One closure, one seat, one block. -/

def State.modClosure (s : State) (k : ClosureId) (f : ClosureState → ClosureState) : State :=
  { s with closures := s.closures.set k (f s.closures[k]) }

def State.modCounter (s : State) (k : ClosureId) (f : Counter → Counter) : State :=
  s.modClosure k fun c => { c with counter := f c.counter }

def State.modCtx (s : State) (k : ClosureId) (f : Context → Context) : State :=
  s.modClosure k fun c => { c with ctx := f c.ctx }

def State.modVerdict (s : State) (k : ClosureId) (f : Verdict → Verdict) : State :=
  s.modClosure k fun c => { c with verdict := f c.verdict }

def State.modProfile (s : State) (k : ClosureId) (f : Profile → Profile) : State :=
  s.modClosure k fun c => { c with profile := f c.profile }

def State.modSeat (s : State) (n : SeatId) (f : SeatState → SeatState) : State :=
  { s with seats := s.seats.set n (f s.seats[n]) }

def State.modArbiter (s : State) (f : Arbiter → Arbiter) : State := { s with arbiter := f s.arbiter }

def State.modLink (s : State) (f : Link → Link) : State := { s with link := f s.link }

/-- Every closure takes its own update. -/
def State.mapClosures (s : State) (f : ClosureId → ClosureState → ClosureState) : State :=
  { s with closures := Vector.ofFn fun k => f k s.closures[k] }

/-- The time of an event: the clock moves on (log entry 1). -/
def State.advance (s : State) (dt : Nat) : State := { s with now := s.now + dt }

/-- A timer is running and its expiry time has come (log entry 2). -/
def isDue (timer : Option Nat) (now : Nat) : Bool :=
  match timer with
  | some t => decide (t ≤ now)
  | none => false

/-! Notices (R130, R131) and the attention line (R134). -/

/-- The attention causes are tested and the line set from them (R134). -/
def SeatState.retest (now : Nat) (n : SeatState) : SeatState :=
  { n with cause := n.causeAt now, line := decide (n.causeAt now ≠ .none) }

/-- The queue without its oldest notice that is not urgent (R131). -/
def dropOldestCalm : List Notice → List Notice
  | [] => []
  | x :: rest => if x.body.urgent then x :: dropOldestCalm rest else rest

/-- A notice meets a seat's queue (R131): appended, displacing, or dropped; losses are counted, the stale deadline
follows the oldest notice (R135) and the causes are tested (R134). -/
def SeatState.post (now : Nat) (x : Notice) (n : SeatState) : SeatState :=
  let lost := { n with lossCount := satAdd 255 n.lossCount 1 }
  let placed :=
    if n.queue.length < Config.queueLength then
      let q := { n with queue := n.queue ++ [x] }
      if n.queue.isEmpty then { q with staleDeadline := q.deadline } else q
    else if x.body.urgent && n.queue.any (fun y => !y.body.urgent) then
      let q := { lost with queue := dropOldestCalm n.queue ++ [x] }
      match n.queue with
      | oldest :: _ => if oldest.body.urgent then q else { q with staleDeadline := q.deadline }
      | [] => q
    else lost
  placed.retest now

/-- A notice is posted to the seats that `chosen` names, one copy to each (R130). -/
def State.postTo (s : State) (chosen : SeatId → Bool) (body : NoticeBody) : State :=
  let x : Notice := { body := body, time := s.now }
  { s with seats := Vector.ofFn fun n => if chosen n then s.seats[n].post s.now x else s.seats[n] }

/-- The seats whose subscription mask holds a closure (R130). -/
def State.subscribes (s : State) (k : ClosureId) (n : SeatId) : Bool := hasMember s.seats[n].record.subscription k.val

/-- MOVE_ENDED and PINCH go to the owner seat and to every other seat that subscribes to the closure (R130). -/
def State.postOwner (s : State) (k : ClosureId) (owner : SeatId) (body : NoticeBody) : State :=
  s.postTo (fun n => decide (n = owner) || s.subscribes k n) body

/-- A notice to one seat. -/
def State.postSeat (s : State) (n : SeatId) (body : NoticeBody) : State := s.postTo (fun x => decide (x = n)) body

/-! Replies (R149). -/

/-- A reply is placed in a seat's pending reply slot; the overwritten mark is set when the slot held one (R149). -/
def State.placeReply (s : State) (n : SeatId) (code : Byte) (r : Result) (items : List Byte) : State :=
  s.modSeat n fun x =>
    { x with reply := some { result := r, command := code, overwritten := x.reply.isSome, items := items } }

/-- What a command that is taken at a seat comes to: the state after it, and its reply. -/
structure Answer where
  state : State
  result : Result
  items : List Byte

/-- A refused command: a code, no items, no change (00_scope.md, Outcomes of a request). -/
def State.refuse (s : State) (r : Result) : Answer := { state := s, result := r, items := [] }

/-- An accepted command with its reply's items. -/
def State.accept (s : State) (items : List Byte) : Answer := { state := s, result := .accepted, items := items }

/-! Permits (R85). -/

/-- A permit withdrawal: both lines inactive, the stall timer stopped, the direction-fault run and the confirm count 0
(R13, R14, R66, R85). -/
def ClosureState.withdraw (c : ClosureState) : ClosureState :=
  { c with
    ctx := { c.ctx with permit := .hold }
    counter := { c.counter with stallTimer := none, dirFaultRun := 0 }
    verdict := { c.verdict with confirm := 0 } }

/-- A permit activation: the line active, the step record and the accumulator emptied, the stall timer started, the
direction-fault run and the confirm count 0, blanking set and the raw list emptied (R11, R13, R14, R22, R29, R66). -/
def ClosureState.activate (now : Nat) (d : Direction) (c : ClosureState) : ClosureState :=
  { c with
    ctx := { c.ctx with permit := .drive d }
    counter := { c.counter with stepRecord := none, stallTimer := some (now + c.desc.stallTime), dirFaultRun := 0 }
    sense := c.sense.close
    est := { c.est with blankingCount := c.desc.blanking, rawList := [], listPath := none }
    verdict := { c.verdict with confirm := 0 } }

/-- The step record emptied, and with it the current accumulator (R11, R22). -/
def ClosureState.emptyStep (c : ClosureState) : ClosureState :=
  { c with counter := { c.counter with stepRecord := none }, sense := c.sense.close }

/-! The slot queue (R110). -/

/-- The class of grant of a queued closure (R84). -/
def State.classOf (s : State) (k : ClosureId) : Nat :=
  match s.closures[k].ctx.move with
  | some m => m.kind.grantClass
  | none => 0

/-- An entry takes its place in grant order: by class, then by arrival number (R110). -/
def State.insertEntry (s : State) (e : QueueEntry) : List QueueEntry → List QueueEntry
  | [] => [e]
  | x :: rest =>
    if s.classOf e.closure < s.classOf x.closure
        ∨ (s.classOf e.closure = s.classOf x.closure ∧ e.arrival < x.arrival) then e :: x :: rest
    else x :: s.insertEntry e rest

/-- A closure joins the slot queue as a new arrival (R110); the numbers restart from 1 when the queue is empty. -/
def State.arrive (s : State) (k : ClosureId) : State :=
  let number := if s.arbiter.queue.isEmpty then 1 else s.arbiter.lastArrival + 1
  s.modArbiter fun a =>
    { a with queue := s.insertEntry { closure := k, arrival := number } a.queue, lastArrival := number }

/-- A closure leaves the slot queue (R110). -/
def State.leaveQueue (s : State) (k : ClosureId) : State :=
  s.modArbiter fun a => { a with queue := a.queue.filter fun e => decide (e.closure ≠ k) }

/-- A queued closure takes the place that its class and its kept arrival number give (R110). -/
def State.replaceInQueue (s : State) (k : ClosureId) : State :=
  match s.arbiter.queue.find? fun e => decide (e.closure = k) with
  | some e =>
    let left := s.leaveQueue k
    left.modArbiter fun a => { a with queue := left.insertEntry e a.queue }
  | none => s

/-- How many slots are held (R106). -/
def Arbiter.heldCount (a : Arbiter) : Nat := (allClosures.filter fun k => a.held[k]).length

/-- A closure takes or releases a slot (R107). -/
def State.setSlot (s : State) (k : ClosureId) (b : Bool) : State := s.modArbiter fun a => { a with held := a.held.set k b }

/-! Sleep and wake (R159, R160). -/

/-- The conditions of sleep (R159). -/
def State.maySleep (s : State) : Bool :=
  decide (s.sleepPermit = 1) && decide (s.ignition = 0) && s.window.isNone
  && (allClosures.all fun k => decide (s.closures[k].ctx.state = .idle))
  && (allSeats.all fun n => s.seats[n].queue.isEmpty)
  && decide (s.store.job = .idle)
  && decide (s.link.receiver = .idle) && s.link.quietTimer.isNone

/-- The test for sleep entry made after every event (R159). -/
def State.sleepTest (s : State) : State :=
  if s.asleepSince.isNone && s.maySleep then { s with asleepSince := some s.now } else s

/-- A closure at a wake after `slept` µs: its step record and accumulator are emptied, its undriven quiet timer resumes
with its remaining time (R18, R21, R26). -/
def ClosureState.wake (slept : Nat) (c : ClosureState) : ClosureState :=
  let e := c.emptyStep
  { e with counter := { e.counter with undrivenTimer := e.counter.undrivenTimer.map (· + slept) } }

/-- A wake: the part takes up what it stopped, the link-quiet timer starts with 2 s (R160) and the 35 ms timer afresh
(log entry 25); no effect on a part that is awake. -/
def State.wake (s : State) : State :=
  match s.asleepSince with
  | none => s
  | some since =>
    let w := s.mapClosures fun _ c => c.wake (s.now - since)
    { w with
      asleepSince := none
      front := { w.front with window := [] }
      link :=
        { w.link with quietTimer := some (w.now + Config.linkQuiet), stuckTimer := w.now + Config.linkStuck } }

/-! What every event and every frame does. -/

/-- An event of the part's own, `dt` µs after the command before it: without power or in sleep nothing but time passes;
otherwise its effect, then the test for sleep entry (R159). -/
def State.onEvent (s : State) (dt : Nat) (act : State → State) : State :=
  let t := s.advance dt
  if t.powered && t.asleepSince.isNone then (act t).sleepTest else t

/-- The receiver after a frame's end (R146). -/
def receiverAfter : FrameEnd → Receiver
  | .stop => .idle
  | .repeatedStart => .address

/-- A frame has ended on the link: the receiver's state after it, the link-quiet timer (R159) and the 35 ms timer (R152)
restarted, and the acknowledge bits given. -/
def State.frameSeen (s : State) (receiver : Receiver) (acks : List Bool) : State :=
  s.modLink fun l =>
    { l with
      receiver := receiver
      sending := none
      quietTimer := some (s.now + Config.linkQuiet)
      stuckTimer := s.now + Config.linkStuck
      lastAcks := acks }

end Sys2Proof.Machine
end

