-- ==== Sys2Proof/Machine/Motion.lean ====
section
/-! DEFINITION. The motion contexts, the slot arbiter and the verdict unit at work: grants, endings, settling, removals,
loss of position, comparison, verdict and reversal. -/
namespace Sys2Proof.Machine

/-! The escape state (R53, R80). -/

/-- Whether a closing move is RUNNING or REVERSING (R53). -/
def Context.closingInProgress (x : Context) : Bool :=
  (decide (x.state = .running) || decide (x.state = .reversing)) && decide (x.move.map (·.direction) = some .closing)

/-- The reversal count takes a value, the escape state follows it, and an entry to ESCAPE during a closing move sets the
escape mark (R53, R80). -/
def ClosureState.setReversals (c : ClosureState) (n : Nat) : ClosureState :=
  let inEscape := decide (n = c.desc.escapeMax)
  { c with
    verdict := { c.verdict with reversals := n, escape := inEscape }
    profile := { c.profile with
      escapeMark := c.profile.escapeMark || (inEscape && !c.verdict.escape && c.ctx.closingInProgress) } }

/-- The count set to 0 and the escape state OUT (R80). -/
def ClosureState.clearEscape (c : ClosureState) : ClosureState :=
  { c with verdict := { c.verdict with reversals := 0, escape := false } }

/-! Entry to SETTLING (R102). -/

/-- Entry to SETTLING, the closure's own part: end reason, ended-by seat, permit withdrawn, hold deadline absent,
reversal phase and target absent, brake timer stopped, settling timers started. -/
def ClosureState.settle (now : Nat) (reason : EndReason) (who : Option SeatId) (c : ClosureState) : ClosureState :=
  let w := c.withdraw
  { w with
    ctx := { w.ctx with
      state := .settling
      endReason := some reason
      endedBy := who
      holdDeadline := none
      quietTimer := some (now + Config.settleQuiet)
      limitTimer := some (now + Config.settleLimit)
      longRunOn := false }
    verdict := { w.verdict with phase := none, target := none, brakeTimer := none } }

/-- Entry to SETTLING with the release of the closure's slot (R102, R107), before the release's grant test. -/
def State.settle (s : State) (k : ClosureId) (reason : EndReason) (who : Option SeatId) : State :=
  (s.modClosure k (ClosureState.settle s.now reason who)).setSlot k false

/-! The unpark wait (R118, R158). -/

/-- The store begins the unpark write (R158): the image-valid marker is cleared first. -/
def State.startUnparkWrite (s : State) : State :=
  { s with
    store := { s.store with job := .unparking, image := { s.store.image with valid := false } }
    arbiter := { s.arbiter with unparkWait := .writing } }

/-- The unpark wait begins, if it has not (R118). -/
def State.askUnpark (s : State) : State :=
  match s.arbiter.unparkWait, s.store.job with
  | .none, .idle => s.startUnparkWrite
  | .none, .committing _ _ _ => s.modArbiter fun a => { a with unparkWait := .waitingForStore }
  | .none, .unparking | .waitingForStore, _ | .writing, _ => s

/-! Grants (R92, R111). -/

/-- A grant, the closure's own part: operations 1 to 5 of R92 with the context RUNNING. -/
def ClosureState.grant (now reading : Nat) (m : Move) (c : ClosureState) : ClosureState :=
  let zeroed := decide (m.kind = .normalise) && decide (c.counter.validity = .lost)
  let position := if zeroed then 0 else c.counter.position
  { c with
    ctx := { c.ctx with
      state := .running
      queueEntry := none
      startTime := some now
      startPos := some position
      stepCount := 0
      endedBy := none
      endReason := none }
    counter := { c.counter with phaseFaults := 0, position := position }
    est := { c.est with peak := none, minSupply := reading, trace := Vector.replicate 64 {} }
    verdict := { c.verdict with record := none, confirm := 0 }
    profile := { c.profile with
      escapeMark := if m.direction = .closing then c.verdict.escape else c.profile.escapeMark } }

/-- A grant of the queued closure `k` (R92): it takes a slot and leaves the queue; with the target already reached it
enters SETTLING and releases the slot at once, otherwise its permit becomes active. -/
def State.grant (s : State) (k : ClosureId) : State :=
  let taken := (s.leaveQueue k).setSlot k true
  match s.closures[k].ctx.move with
  | none => taken
  | some m =>
    let granted := taken.modClosure k (ClosureState.grant s.now s.front.reading m)
    if m.reached granted.closures[k].counter.position then granted.settle k .targetReached none
    else granted.modClosure k (ClosureState.activate s.now m.direction)

/-- A grant test, at most `fuel` grants (R111): while the queue is not empty and a slot is free, the head is granted, or
the unpark wait begins. -/
def State.grantLoop : Nat → State → State
  | 0, s => s
  | fuel + 1, s =>
    match s.arbiter.queue with
    | [] => s
    | head :: _ =>
      if s.arbiter.heldCount < s.arbiter.effective then
        if s.arbiter.unparkPending then s.askUnpark
        else if s.arbiter.unparkWait = .none then State.grantLoop fuel (s.grant head.closure)
        else s
      else s

/-- A grant test (R111); each grant shortens the queue. -/
def State.grantTest (s : State) : State := s.grantLoop s.arbiter.queue.length

/-- A move that is RUNNING or REVERSING ends: entry to SETTLING, then the grant test of the slot release (R102, R107,
R111). -/
def State.endMove (s : State) (k : ClosureId) (reason : EndReason) (who : Option SeatId) : State :=
  (s.settle k reason who).grantTest

/-! Outcomes and statistics (R105, R139 to R142). -/

/-- One more, saturating at 65,535 (R139). -/
def countUp (n : Nat) : Nat := satAdd Config.wordMax n 1

/-- The counter that an end reason raises at a settle end (R140, operation 2). -/
def StatCounters.countReason (c : StatCounters) : EndReason → StatCounters
  | .closed => { c with closed := countUp c.closed }
  | .pinchReversed | .stallReversed | .reversalBlocked => { c with reversals := countUp c.reversals }
  | .openObstructed => { c with obstructions := countUp c.obstructions }
  | .holdLapsed => { c with lapses := countUp c.lapses }
  | .directionFault => { c with dirFaults := countUp c.dirFaults }
  | .targetReached | .openEnd | .stopped | .allStopped | .cleared | .queueTimeout | .superseded | .supplyLow
  | .lockedOut | .positionLost | .learnDone | .learnIncomplete | .normalised => c

/-- Time added to the summed run time (R141): whole units of 100 ms and a remainder, which is held at 0 once the run
time has saturated (R139; DEDUCED, log entry 13). -/
def Stats.addTime (x : Stats) (timeMs : Nat) : Stats :=
  let total := x.remainder + timeMs
  let units := x.counters.runTime + total / 100
  if Config.runTimeMax ≤ units then { counters := { x.counters with runTime := Config.runTimeMax }, remainder := 0 }
  else { counters := { x.counters with runTime := units }, remainder := total % 100 }

/-- The statistics update of a settle end (R140). -/
def Stats.settleEnd (x : Stats) (o : OutcomeRecord) (timeMs : Nat) : Stats :=
  let counted := { x with counters := { x.counters.countReason o.reason with granted := countUp x.counters.granted } }
  let timed := counted.addTime timeMs
  { timed with counters := { timed.counters with peak := max timed.counters.peak o.peak.load } }

/-- The statistics update of a removal (R142). -/
def Stats.removal (x : Stats) (reason : EndReason) : Stats :=
  if reason = .holdLapsed then { x with counters := { x.counters with lapses := countUp x.counters.lapses } } else x

/-- The time from the grant to now, in ms (log entry 1). -/
def Context.runMs (x : Context) (now : Nat) : Nat := (now - x.startTime.getD now) / Config.ms

/-- The outcome record of a settle end (R103, R105), its follow-on-started mark given. -/
def ClosureState.settledOutcome (c : ClosureState) (k : ClosureId) (m : Move) (reason : EndReason) (now : Nat)
    (started : Bool) : OutcomeRecord :=
  let start := c.ctx.startPos.getD c.counter.position
  { closure := k
    move := m
    reason := reason
    endedBy := c.ctx.endedBy
    startPos := start
    endPos := c.counter.position
    peak := c.est.peak.getD { load := 0, pos := start }
    stepCount := c.ctx.stepCount
    travelTime := min Config.wordMax (c.ctx.runMs now)
    minSupply := c.est.minSupply
    verdict := c.verdict.record.map fun r => { load := r.load, pos := r.pos }
    longRunOn := c.ctx.longRunOn
    followOnStarted := started }

/-- The outcome record of a removal from the slot queue (R104, R105). -/
def ClosureState.removedOutcome (c : ClosureState) (k : ClosureId) (m : Move) (reason : EndReason)
    (who : Option SeatId) (reading : Nat) : OutcomeRecord :=
  { closure := k
    move := m
    reason := reason
    endedBy := who
    startPos := c.counter.position
    endPos := c.counter.position
    peak := { load := 0, pos := c.counter.position }
    stepCount := 0
    travelTime := 0
    minSupply := reading
    verdict := none
    longRunOn := false
    followOnStarted := false }

/-! Removal from the queue (R104). -/

/-- The context becomes IDLE: every field present only while it is not IDLE is gone, and the phase-fault count is 0. -/
def ClosureState.toIdle (c : ClosureState) : ClosureState :=
  { c with ctx := {}, counter := { c.counter with phaseFaults := 0 } }

/-- A QUEUED context is removed (R104). -/
def State.remove (s : State) (k : ClosureId) (reason : EndReason) (who : Option SeatId) : State :=
  let c := s.closures[k]
  match c.ctx.move with
  | none => s
  | some m =>
    let o := c.removedOutcome k m reason who s.front.reading
    let counted := (s.leaveQueue k).modClosure k fun x =>
      { x with stats := if x.desc.statsOn then x.stats.removal reason else x.stats, lastOutcome := some o }
    (counted.postOwner k m.seat (.moveEnded o)).modClosure k ClosureState.toIdle

/-! Joining the queue (R88). -/

/-- A context QUEUED with a move, at `now`, with its owner's hold window in units of 10 ms (R88, operations 1 to 3). -/
def queuedContext (now holdUnits : Nat) (m : Move) : Context :=
  { state := .queued
    move := some m
    holdDeadline := if m.kind.isHeld then some (now + holdUnits * (10 * Config.ms)) else none
    queueEntry := some now }

/-- An IDLE context (or one that settles with a follow-on) becomes QUEUED and joins the slot queue as a new arrival
(R88), before the arrival's grant test. -/
def State.enqueue (s : State) (k : ClosureId) (m : Move) : State :=
  (s.modCtx k fun _ => queuedContext s.now s.seats[m.seat].record.holdUnits m).arrive k

/-! Follow-ons (R91, R95, R98). -/

/-- A follow-on is dropped with a FOLLOW_ON_DROPPED notice to its seat; no effect when none is held. -/
def State.dropFollowOn (s : State) (k : ClosureId) (cause : DropCause) : State :=
  match s.closures[k].ctx.followOn with
  | none => s
  | some m => (s.modCtx k fun x => { x with followOn := none }).postSeat m.seat (.followOnDropped k cause m)

/-- A follow-on is stored; one already held is dropped as SUPERSEDED (R91). -/
def State.storeFollowOn (s : State) (k : ClosureId) (m : Move) : State :=
  (s.dropFollowOn k .superseded).modCtx k fun x => { x with followOn := some m }

/-! The end of settling (R103). -/

/-- What the profile memory does at a settle end (R51, R54, R55). -/
def ClosureState.profileAtEnd (c : ClosureState) (m : Move) (reason : EndReason) (roughness : Byte)
    (temperature : Int) : ClosureState :=
  if reason = .learnDone then c.learn
  else if c.adapts m reason roughness temperature then c.adapt
  else c

/-- The end of settling (R103): outcome, statistics, profile, notice, follow-on. -/
def State.settleEnd (s : State) (k : ClosureId) : State :=
  let c := s.closures[k]
  match c.ctx.move, c.ctx.endReason with
  | some m, some reason =>
    let counted := s.modClosure k fun x =>
      { x with stats :=
          if x.desc.statsOn then x.stats.settleEnd (x.settledOutcome k m reason s.now false) (x.ctx.runMs s.now)
          else x.stats }
    let learned := counted.modClosure k fun x => x.profileAtEnd m reason s.roughness s.front.temperature
    let follow := c.ctx.followOn.map fun f => (f, learned.followOnRefusal k f)
    let started := decide (follow.map (·.2) = some none)
    let o := c.settledOutcome k m reason s.now started
    let posted := (learned.postOwner k m.seat (.moveEnded o)).modClosure k fun x => { x with lastOutcome := some o }
    match follow with
    | none => posted.modClosure k ClosureState.toIdle
    | some (f, none) => (posted.enqueue k f).grantTest
    | some (f, some cause) =>
      (posted.postSeat f.seat (.followOnDropped k cause f)).modClosure k ClosureState.toIdle
  | _, _ => s

/-! Loss of position (R15, R101). -/

/-- The position becomes LOST; a loss on a VALID position is reported to the context, which ends or removes a move of
kind ONE_TOUCH, GLOBAL or LEARN with POSITION_LOST (R15, R101). -/
def State.losePosition (s : State) (k : ClosureId) : State :=
  let c := s.closures[k]
  match c.counter.validity with
  | .lost => s
  | .valid =>
    let lost := s.modCounter k fun x => { x with validity := .lost }
    match c.ctx.move with
    | none => lost
    | some m =>
      if m.kind.needsPosition then
        match c.ctx.state with
        | .running | .reversing => lost.endMove k .positionLost none
        | .queued => lost.remove k .positionLost none
        | .idle | .settling => lost
      else lost

/-! The applied threshold (R61 to R65). -/

/-- The temperature allowance (R63). -/
def temperatureAllowance (t : Int) : Nat := if t < -10 then min 120 (4 * (-10 - t).toNat) else 0

/-- The roughness allowance (R64). -/
def State.roughnessAllowance (s : State) (d : Description) : Nat :=
  if s.speedBand = 0 then 0 else s.roughness.toNat * d.roughStep

/-- The base of the applied threshold (R62). -/
def ClosureState.thresholdBase (c : ClosureState) (d : Direction) (path : Path) (pos : Int) : Nat :=
  match d, path with
  | .opening, _ => c.desc.thOpen
  | .closing, .fallback => c.desc.thFallback
  | .closing, .profile => if c.inPinchRegion pos then c.desc.thPinch else c.desc.thFree

/-- The applied threshold (R65). -/
def State.threshold (s : State) (k : ClosureId) (d : Direction) (path : Path) (pos : Int) : Nat :=
  let c := s.closures[k]
  let sum := min 2047
    (c.thresholdBase d path pos + temperatureAllowance s.front.temperature + s.roughnessAllowance c.desc)
  match d with
  | .opening => sum
  | .closing =>
    if c.inPinchRegion pos then if c.verdict.escape then c.desc.thCeiling else min c.desc.thCeiling sum else sum

/-- Whether a computed step is compared (R61): not a closing step at a VALID position in the end band. -/
def ClosureState.compares (c : ClosureState) (pos : Int) : Bool :=
  match c.ctx.state with
  | .running =>
    decide (c.ctx.move.map (·.direction) = some .opening) || decide (c.counter.validity = .lost) || !c.inEndBand pos
  | .reversing => decide (c.verdict.phase = some .reverse)
  | .idle | .queued | .settling => false

/-! Verdict and reversal (R67, R71, R72, R74, R78). -/

/-- The region of a verdict's position (R67): PINCH while LOST, else by R6; `none` in the end band, where R6 gives
neither. -/
def ClosureState.verdictRegion (c : ClosureState) (pos : Int) : Option Region :=
  if c.inPinchRegion pos then some .pinch else if c.inEndBand pos then none else some .free

/-- The reversal target (R74). -/
def ClosureState.reversalTarget (c : ClosureState) (pos : Int) : Int :=
  match c.counter.validity, c.desc.reversalMode with
  | .valid, .distance => min (c.desc.travel : Int) (max (pos + c.desc.reversalDistance) c.desc.pinchLimit)
  | .valid, .full => c.desc.travel
  | .lost, _ => min c.desc.highestPosition (pos + c.desc.reversalDistance)

/-- The closure at a closing verdict: operation 3 of R72, the reversal target (R74), and REVERSING with its brake phase
begun (R75). -/
def ClosureState.beginReversal (now : Nat) (pos : Int) (c : ClosureState) : ClosureState :=
  let w := (c.setReversals (min c.desc.escapeMax (c.verdict.reversals + 1))).withdraw
  { w with
    ctx := { w.ctx with state := .reversing, holdDeadline := none }
    verdict := { w.verdict with
      phase := some .brake
      target := some (c.reversalTarget pos)
      brakeTimer := some (now + c.desc.brakeTime * Config.ms) } }

/-- The verdict record is filled and the last applied threshold takes its threshold (R67). -/
def ClosureState.fillRecord (r : VerdictRecord) (c : ClosureState) : ClosureState :=
  { c with verdict := { c.verdict with record := some r, confirm := 0, lastThreshold := r.threshold } }

/-- A verdict on a RUNNING closing move (R72): record, PINCH notice, count, target, REVERSING. -/
def State.startReversal (s : State) (k : ClosureId) (m : Move) (r : VerdictRecord) : State :=
  ((s.modClosure k (ClosureState.fillRecord r)).postOwner k m.seat (.pinch k r)).modClosure k
    (ClosureState.beginReversal s.now r.pos)

/-- A verdict record at a position: the region that R6 leaves open is a free value (log entry 9). -/
def State.recordAt (s : State) (k : ClosureId) (cause : VerdictCause) (pos : Int) (load threshold : Nat) :
    State × VerdictRecord :=
  match s.closures[k].verdictRegion pos with
  | some region => (s, { cause := cause, pos := pos, load := load, threshold := threshold, region := region })
  | none =>
    ({ s with freeCount := s.freeCount + 1 },
      { cause := cause, pos := pos, load := load, threshold := threshold, region := Config.endBandRegion s.freeCount })

/-- A verdict with cause LOAD at a compared step (R66, R67): a closing move reverses (R72), an opening move ends (R71),
and in the reverse phase it is a second failure (R78). -/
def State.loadVerdict (s : State) (k : ClosureId) (pos : Int) (load threshold : Nat) : State :=
  let c := s.closures[k]
  match c.ctx.state, c.ctx.move with
  | .reversing, _ => s.endMove k .reversalBlocked none
  | .running, some m =>
    let (t, r) := s.recordAt k .load pos load threshold
    match m.direction with
    | .closing => t.startReversal k m r
    | .opening => (t.modClosure k (ClosureState.fillRecord r)).endMove k .openObstructed none
  | _, _ => s

/-- A computed step is handed to the verdict unit (R38, operation 4; R61, R65, R66). -/
def State.judgeStep (s : State) (k : ClosureId) (d : Direction) (path : Path) (pos : Int) (load : Nat) : State :=
  let c := s.closures[k]
  if c.compares pos then
    let threshold := s.threshold k d path pos
    let applied := s.modVerdict k fun v => { v with lastThreshold := threshold }
    if threshold < load then
      let n := c.verdict.confirm + 1
      if c.desc.confirmSteps ≤ n then
        (applied.modVerdict k fun v => { v with confirm := 0 }).loadVerdict k pos load threshold
      else applied.modVerdict k fun v => { v with confirm := n }
    else applied.modVerdict k fun v => { v with confirm := 0 }
  else s.modVerdict k fun v => { v with confirm := 0 }

/-! Steps (R12, R23, R27, R38). -/

/-- A completed step of period `period` reaches the front end, and, when it is a measured step, the context's step count
and the estimator; a computed step is handed on to the verdict unit. -/
def State.stepCompleted (s : State) (k : ClosureId) (d : Direction) (period : Nat) : State :=
  let c := s.closures[k]
  let current := c.sense.mean
  let pos := c.counter.position
  let supply := s.front.reading
  let reopened := s.modClosure k fun x => { x with sense := x.sense.open_ }
  if c.ctx.permit = .drive d then
    let measured := reopened.modClosure k fun x =>
      { x with
        sense := { x.sense with lastMean := current }
        ctx := { x.ctx with stepCount := satAdd Config.wordMax x.ctx.stepCount 1 } }
    if 0 < c.est.blankingCount then measured.modClosure k fun x => x.blankStep period current supply pos
    else
      (measured.modClosure k fun x => x.computedStep period current supply pos).judgeStep k d c.path pos
        (c.stepLoad period current supply pos)
  else reopened

/-! Stalls (R68 to R70). -/

/-- The end reason of a closed-end stall (R69, operation 2; R51). -/
def ClosureState.closedEndReason (c : ClosureState) (kind : Kind) : EndReason :=
  match kind with
  | .normalise => .normalised
  | .learn => if c.est.complete then .learnDone else .learnIncomplete
  | .held | .oneTouch | .global => .closed

/-- The closure at a closed-end stall (R69, operations 1 and 3). -/
def ClosureState.closedEnd (kind : Kind) (c : ClosureState) : ClosureState :=
  let zeroed := { c with counter := { c.counter with
    position := 0
    validity := if kind = .normalise then .valid else c.counter.validity } }
  if c.closedEndReason kind = .closed ∧ c.verdict.record.isNone then zeroed.clearEscape else zeroed

/-- A closed-end stall (R69). -/
def State.closedEndStall (s : State) (k : ClosureId) (m : Move) : State :=
  (s.modClosure k (ClosureState.closedEnd m.kind)).endMove k (s.closures[k].closedEndReason m.kind) none

/-- The load that a stall verdict records: the published load, when a step has been computed under the present permit,
else 0 (R67). The raw list is emptied at each activation and filled by each computed step. -/
def ClosureState.stallLoad (c : ClosureState) : Nat := if c.est.rawList.isEmpty then 0 else c.est.published

/-- A stall verdict (R67, R68, R72). -/
def State.stallVerdict (s : State) (k : ClosureId) (m : Move) : State :=
  let c := s.closures[k]
  let pos := c.counter.position
  let (t, r) := s.recordAt k .stall pos c.stallLoad (s.threshold k .closing c.path pos)
  t.startReversal k m r

/-- Whether a stall under permit CLOSE is a closed-end stall (R68). -/
def ClosureState.atClosedEnd (c : ClosureState) (kind : Kind) : Bool :=
  c.inEndBand c.counter.position && (decide (c.counter.validity = .valid) || decide (kind = .normalise))

/-- Whether a stall under permit OPEN is an open-end stall (R68). -/
def ClosureState.atOpenEnd (c : ClosureState) : Bool :=
  decide ((c.desc.travel : Int) - c.desc.endBand ≤ c.counter.position)

/-- A stall expiry is classified (R68). -/
def State.classifyStall (s : State) (k : ClosureId) : State :=
  let c := s.closures[k]
  match c.ctx.state, c.ctx.move with
  | .running, some m =>
    match m.direction with
    | .closing => if c.atClosedEnd m.kind then s.closedEndStall k m else s.stallVerdict k m
    | .opening => s.endMove k (if c.atOpenEnd then .openEnd else .openObstructed) none
  | .reversing, _ => if c.verdict.phase = some .reverse then s.endMove k .reversalBlocked none else s
  | _, _ => s

end Sys2Proof.Machine
end

