-- ==== Sys2Proof/Machine/TravelEvents.lean ====
section
/-! DEFINITION. The events of the travel counters: HALL_EDGE, PHASE_FAULT, STALL_EXPIRY, UNDRIVEN_QUIET_EXPIRY. -/
namespace Sys2Proof.Machine

/-! Hall edges (R8, R10, R11, R14, R18). -/

/-- The phase state after a change of one phase (R8, operation 1). -/
def Counter.toggle (x : Counter) : Phase → Counter
  | .a => { x with phaseA := !x.phaseA }
  | .b => { x with phaseB := !x.phaseB }

/-- Whether a change of one phase moves the phase state forward along the cycle (A-leading order), from the phase state
before it (R8). -/
def Counter.aLeading (x : Counter) : Phase → Bool
  | .a => x.phaseA == x.phaseB
  | .b => x.phaseA != x.phaseB

/-- The direction of an edge, read through the hall polarity (R8). -/
def edgeDirection (polarity : Polarity) (aLeading : Bool) : Direction :=
  match polarity, aLeading with
  | .normal, true | .swapped, false => .opening
  | .normal, false | .swapped, true => .closing

/-- Whether an edge would carry the position past a limit (R10). -/
def ClosureState.atLimit (c : ClosureState) : Direction → Bool
  | .closing => decide (c.counter.position ≤ Config.lowestPosition)
  | .opening => decide (c.desc.highestPosition ≤ c.counter.position)

/-- A pulse or a refused edge restarts the stall timer while a permit line is active (R10, R13). -/
def ClosureState.restartStall (now : Nat) (c : ClosureState) : ClosureState :=
  match c.ctx.permit with
  | .hold => c
  | .drive _ => { c with counter := { c.counter with stallTimer := some (now + c.desc.stallTime) } }

/-- A pulse or a refused edge restarts the settling quiet timer (R10, R102). -/
def ClosureState.restartQuiet (now : Nat) (c : ClosureState) : ClosureState :=
  match c.ctx.state with
  | .settling => { c with ctx := { c.ctx with quietTimer := some (now + Config.settleQuiet) } }
  | .idle | .queued | .running | .reversing => c

/-- An edge refused at a limit (R10): the position is LOST; the stall timer and a settling restart. -/
def State.refuseEdge (s : State) (k : ClosureId) : State :=
  (s.losePosition k).modClosure k fun c => (c.restartStall s.now).restartQuiet s.now

/-- The position after a pulse (R8, operation 3). -/
def pulsed (p : Int) : Direction → Int
  | .closing => p - 1
  | .opening => p + 1

/-- Operations 3 and 4 of R8 with the direction change of R11: the position moves, the last pulse direction is taken,
and a change of direction empties the step record. -/
def ClosureState.countPulse (d : Direction) (c : ClosureState) : ClosureState :=
  let turned := if c.counter.lastDir = none ∨ c.counter.lastDir = some d then c else c.emptyStep
  { turned with counter := { turned.counter with position := pulsed c.counter.position d, lastDir := some d } }

/-- The direction-fault run after a counted pulse (R14). -/
def Counter.runAfter (x : Counter) (permit : Permit) (d : Direction) : Nat :=
  match permit with
  | .hold => x.dirFaultRun
  | .drive e => if d = e then 0 else x.dirFaultRun + 1

/-- A direction fault (R14): the position is LOST, a RUNNING or REVERSING move ends, the run is 0. -/
def State.directionFault (s : State) (k : ClosureId) : State :=
  let lost := s.modCounter k fun x => { x with validity := .lost, dirFaultRun := 0 }
  match s.closures[k].ctx.state with
  | .running | .reversing => lost.endMove k .directionFault none
  | .idle | .queued | .settling => lost

/-- Operation 5 of R8: under an active permit the stall timer restarts and the direction-fault run is updated. -/
def State.superviseDirection (s : State) (k : ClosureId) (d : Direction) : State :=
  let c := s.closures[k]
  let run := c.counter.runAfter c.ctx.permit d
  let t := s.modClosure k fun x =>
    { x.restartStall s.now with counter := { (x.restartStall s.now).counter with dirFaultRun := run } }
  if c.ctx.permit ≠ .hold ∧ Config.runLength ≤ run then t.directionFault k else t

/-- The step period between two rising edges, clamped to 200 to 65,535 µs (R11). -/
def stepPeriod (from_ to_ : Nat) : Nat := clampNat 200 65535 (to_ - from_)

/-- The step logic at a counted rising edge of phase A (R11): the step record takes the edge; an edge in the same
direction as the recorded one completes a step. -/
def State.stepLogic (s : State) (k : ClosureId) (d : Direction) : State :=
  let c := s.closures[k]
  let taken := s.modCounter k fun x => { x with stepRecord := some { time := s.now, dir := d } }
  match c.counter.stepRecord with
  | some e =>
    if e.dir = d then
      (taken.modCounter k fun x => { x with overspeed := decide (s.now - e.time < 200) }).stepCompleted k d
        (stepPeriod e.time s.now)
    else taken.modClosure k fun x => { x with sense := x.sense.open_ }
  | none => taken.modClosure k fun x => { x with sense := x.sense.open_ }

/-- At the eighth undriven pulse of a burst, outside the start-up load: MOVED_UNDRIVEN to the subscribed seats (R18),
and the unpark write may be asked for (R158). -/
def State.movedUndriven (s : State) (k : ClosureId) : State :=
  let posted := s.postTo (s.subscribes k) (.movedUndriven k)
  if posted.arbiter.unparkPending && decide (posted.arbiter.unparkWait = .none) then posted.askUnpark else posted

/-- An undriven pulse (R18). During the start-up load the notice falls due and waits for the end of the load (R130). -/
def State.undrivenPulse (s : State) (k : ClosureId) : State :=
  let before := s.closures[k].counter.burst
  let t := s.modCounter k fun x =>
    { x with burst := min Config.runLength (x.burst + 1), undrivenTimer := some (s.now + Config.undrivenQuiet) }
  if before + 1 = Config.runLength then
    if t.loading then { t with deferred := t.deferred ++ [.movedUndriven k] } else t.movedUndriven k
  else t

/-- Whether the position has reached the reversal target (R76, R77). -/
def ClosureState.reversalReached (c : ClosureState) : Bool :=
  match c.verdict.target with
  | some t => decide (t ≤ c.counter.position)
  | none => false

/-- The end reason of a reversal at its target or at the brake expiry (R76, R77). -/
def ClosureState.reversalReason (c : ClosureState) : EndReason :=
  if c.verdict.record.map (·.cause) = some .stall then .stallReversed else .pinchReversed

/-- The counted pulse is reported to the motion context (R8, operation 8): run-on while SETTLING (R102), the target
test while RUNNING (R93), the reversal target in the reverse phase (R77). -/
def State.reportPulse (s : State) (k : ClosureId) : State :=
  let c := s.closures[k]
  match c.ctx.state, c.ctx.move with
  | .settling, _ => s.modClosure k (ClosureState.restartQuiet s.now)
  | .running, some m => if m.reached c.counter.position then s.endMove k .targetReached none else s
  | .reversing, _ =>
    if c.verdict.phase = some .reverse ∧ c.reversalReached then s.endMove k c.reversalReason none else s
  | _, _ => s

/-- A counted pulse: operations 3 to 8 of R8. `rising` says that the edge is a rising edge of phase A. -/
def State.takePulse (s : State) (k : ClosureId) (d : Direction) (rising : Bool) : State :=
  let counted := (s.modClosure k (ClosureState.countPulse d)).superviseDirection k d
  let stepped := if rising then counted.stepLogic k d else counted
  let noted := if stepped.closures[k].ctx.state = .idle then stepped.undrivenPulse k else stepped
  noted.reportPulse k

/-- A hall edge of a closure in use (R8). -/
def State.hallEdge (s : State) (k : ClosureId) (ph : Phase) : State :=
  let c := s.closures[k]
  let d := edgeDirection c.desc.polarity (c.counter.aLeading ph)
  let rising := decide (ph = .a) && !c.counter.phaseA
  let sampled := s.modCounter k fun x => x.toggle ph
  if c.atLimit d then sampled.refuseEdge k else sampled.takePulse k d rising

/-- HALL_EDGE (R8): on a closure in use it wakes a sleeping part (R160) and is counted; on an UNUSED one the phase state
takes the sample and nothing more happens (R19). -/
def execHallEdge (dt : Nat) (k : ClosureId) (ph : Phase) (s : State) : Host.Outcome State Fault Refusal :=
  let t := s.advance dt
  .next
    (if !t.powered then t
     else if t.closures[k].desc.cls = .unused then (t.modCounter k fun x => x.toggle ph).sleepTest
     else (t.wake.hallEdge k ph).sleepTest)

/-! Phase faults (R9). -/

/-- The phase faults of a move: one more, up to 4; the fourth makes the position LOST and ends a RUNNING or REVERSING
move of any kind with POSITION_LOST (R9, R101). -/
def State.moveFault (s : State) (k : ClosureId) : State :=
  let c := s.closures[k]
  let t := s.modCounter k fun x => { x with phaseFaults := min Config.faultLimit (x.phaseFaults + 1) }
  if c.counter.phaseFaults + 1 = Config.faultLimit then
    let lost := t.modCounter k fun x => { x with validity := .lost }
    match c.ctx.state with
    | .running | .reversing => lost.endMove k .positionLost none
    | .idle | .queued | .settling => lost
  else t

/-- A phase fault of a closure in use (R9): the phase state takes the sample, the step record is emptied; the rest
depends on the state of the context. -/
def State.phaseFault (s : State) (k : ClosureId) : State :=
  let emptied := s.modClosure k ClosureState.emptyStep
  match s.closures[k].ctx.state with
  | .running | .reversing | .settling => emptied.moveFault k
  | .idle | .queued => emptied.losePosition k

/-- PHASE_FAULT (R9): also in sleep, which it does not end (R21, R160; log entry 22); on an UNUSED closure the phase state
takes the sample and nothing more happens (R19). -/
def execPhaseFault (dt : Nat) (k : ClosureId) (s : State) : Host.Outcome State Fault Refusal :=
  let t := s.advance dt
  .next
    (if !t.powered then t
     else
       let sampled := t.modCounter k fun x => (x.toggle .a).toggle .b
       if t.closures[k].desc.cls = .unused then sampled.sleepTest else (sampled.phaseFault k).sleepTest)

/-! Expiries (R13, R18). -/

/-- STALL_EXPIRY (R13): the timer, running and due, stops, and the stall is classified (R68). -/
def execStallExpiry (dt : Nat) (k : ClosureId) (s : State) : Host.Outcome State Fault Refusal :=
  .next (s.onEvent dt fun t =>
    if isDue t.closures[k].counter.stallTimer t.now then
      (t.modCounter k fun x => { x with stallTimer := none }).classifyStall k
    else t)

/-- UNDRIVEN_QUIET_EXPIRY (R18): the burst count returns to 0 and the timer stops. -/
def execUndrivenQuietExpiry (dt : Nat) (k : ClosureId) (s : State) : Host.Outcome State Fault Refusal :=
  .next (s.onEvent dt fun t =>
    if isDue t.closures[k].counter.undrivenTimer t.now then
      t.modCounter k fun x => { x with burst := 0, undrivenTimer := none }
    else t)

end Sys2Proof.Machine
end

