-- ==== Sys2Proof/Machine/TimerEvents.lean ====
section
/-! DEFINITION. The expiries of a move's timers: BRAKE_TIMER_EXPIRY, QUIET_TIMER_EXPIRY, LIMIT_TIMER_EXPIRY,
HOLD_DEADLINE_EXPIRY, QUEUE_TIMEOUT; of the retained window, of a seat's stale deadline, and of the link-quiet timer. -/
namespace Sys2Proof.Machine

/-- The end of the brake phase (R76): at or above its target the reversal ends; below it the reverse phase begins. -/
def State.endBrake (s : State) (k : ClosureId) : State :=
  let c := s.closures[k]
  if c.reversalReached then s.endMove k c.reversalReason none
  else
    (s.modVerdict k fun v => { v with phase := some .reverse, brakeTimer := none }).modClosure k
      (ClosureState.activate s.now .opening)

/-- BRAKE_TIMER_EXPIRY (R76): the brake timer, running and due, with the context REVERSING in its brake phase. -/
def execBrakeTimerExpiry (dt : Nat) (k : ClosureId) (s : State) : Host.Outcome State Fault Refusal :=
  .next (s.onEvent dt fun t =>
    let c := t.closures[k]
    if isDue c.verdict.brakeTimer t.now ∧ c.ctx.state = .reversing ∧ c.verdict.phase = some .brake then t.endBrake k
    else t)

/-- QUIET_TIMER_EXPIRY (R102): settling ends (R103). -/
def execQuietTimerExpiry (dt : Nat) (k : ClosureId) (s : State) : Host.Outcome State Fault Refusal :=
  .next (s.onEvent dt fun t =>
    let c := t.closures[k]
    if isDue c.ctx.quietTimer t.now ∧ c.ctx.state = .settling then t.settleEnd k else t)

/-- LIMIT_TIMER_EXPIRY (R102): the long run-on mark is set and settling ends (R103). -/
def execLimitTimerExpiry (dt : Nat) (k : ClosureId) (s : State) : Host.Outcome State Fault Refusal :=
  .next (s.onEvent dt fun t =>
    let c := t.closures[k]
    if isDue c.ctx.limitTimer t.now ∧ c.ctx.state = .settling then
      (t.modCtx k fun x => { x with longRunOn := true }).settleEnd k
    else t)

/-- HOLD_DEADLINE_EXPIRY (R94): a RUNNING context enters SETTLING and a QUEUED one is removed, with HOLD_LAPSED. -/
def execHoldDeadlineExpiry (dt : Nat) (k : ClosureId) (s : State) : Host.Outcome State Fault Refusal :=
  .next (s.onEvent dt fun t =>
    let c := t.closures[k]
    if isDue c.ctx.holdDeadline t.now then
      match c.ctx.state with
      | .running => t.endMove k .holdLapsed none
      | .queued => t.remove k .holdLapsed none
      | .idle | .reversing | .settling => t
    else t)

/-- The class 1 or 2 move of a QUEUED context has a queue timeout (R114): its expiry time. -/
def Context.queueDeadline (x : Context) : Option Nat :=
  match x.state, x.move with
  | .queued, some m => if m.kind.grantClass = 0 then none else x.queueEntry.map (· + Config.queueWait)
  | _, _ => none

/-- A QUEUED context's queue timeout has passed (R114). -/
def Context.isOverdue (now : Nat) (x : Context) : Bool :=
  match x.queueDeadline with
  | some due => decide (due < now)
  | none => false

/-- QUEUE_TIMEOUT (R114): the queued move is removed with QUEUE_TIMEOUT. -/
def execQueueTimeout (dt : Nat) (k : ClosureId) (s : State) : Host.Outcome State Fault Refusal :=
  .next (s.onEvent dt fun t =>
    if isDue t.closures[k].ctx.queueDeadline t.now then t.remove k .queueTimeout none else t)

/-- RETAINED_WINDOW_EXPIRY (R127): the window closes. -/
def execRetainedWindowExpiry (dt : Nat) (s : State) : Host.Outcome State Fault Refusal :=
  .next (s.onEvent dt fun t => if isDue t.window t.now then { t with window := none } else t)

/-- STALE_EXPIRY (R135): the causes are tested and the line follows (R134). -/
def execStaleExpiry (dt : Nat) (n : SeatId) (s : State) : Host.Outcome State Fault Refusal :=
  .next (s.onEvent dt fun t =>
    if isDue t.seats[n].staleDeadline t.now then t.modSeat n fun x => x.retest t.now else t)

/-- LINK_QUIET_EXPIRY (R159): 2 s have passed since the last start or stop on the link; the part may enter sleep. -/
def execLinkQuietExpiry (dt : Nat) (s : State) : Host.Outcome State Fault Refusal :=
  .next (s.onEvent dt fun t =>
    if isDue t.link.quietTimer t.now then t.modLink fun l => { l with quietTimer := none } else t)

end Sys2Proof.Machine
end

