-- ==== Sys2Proof/Machine/MotionCommands.lean ====
section
/-! DEFINITION. The answers to the commands that ask for, renew and halt motion: MOVE, RENEW, STOP, GLOBAL, CLEAR,
ALL_STOP. -/
namespace Sys2Proof.Machine

/-! Move requests (R86 to R91). -/

/-- A move with its target clamped to 0 to L_full (R86). -/
def Description.clampTarget (d : Description) (m : Move) : Move :=
  { m with target := m.target.map (clampInt 0 d.travel) }

/-- A queued or running move replaced in place: kind, origin and target take the new values and the hold deadline is
set from the arrival time (R89, R90); the owner and the direction are the same. -/
def Context.replace (now holdUnits : Nat) (m : Move) (x : Context) : Context :=
  { x with move := some m, holdDeadline := (queuedContext now holdUnits m).holdDeadline }

/-- Replaced in place at a QUEUED context (R89); a move replaced into class 1 or 2 after more than 8,000 ms in the queue
is removed with QUEUE_TIMEOUT at once (R114; log entry 18). -/
def State.replaceQueued (s : State) (k : ClosureId) (m : Move) : State :=
  let t := (s.modCtx k (Context.replace s.now s.seats[m.seat].record.holdUnits m)).replaceInQueue k
  if t.closures[k].ctx.isOverdue t.now then t.remove k .queueTimeout none else t

/-- What becomes of a move request: a refusal, or the state after it, with the grant test of its arrival or of the slot
release that it makes (R111), the target taken, and the way. -/
inductive Submitted where
  | refused (r : Result)
  | taken (t : State) (target : Option Int) (way : Way)

/-- Replaced in place at a RUNNING context (R90): the target is tested at once (R93). -/
def State.replaceRunning (s : State) (k : ClosureId) (m : Move) : Submitted :=
  let t := s.modCtx k (Context.replace s.now s.seats[m.seat].record.holdUnits m)
  .taken (if m.reached t.closures[k].counter.position then t.endMove k .targetReached none else t) m.target .replaced

/-- A move request that has passed its checks, by what it meets at the context (R88 to R91). -/
def State.takeMove (s : State) (k : ClosureId) (m : Move) : Submitted :=
  match s.closures[k].ctx.meet m with
  | .refused r => .refused r
  | .enqueue => .taken (s.enqueue k m).grantTest m.target .queued
  | .replaceQueued => .taken (s.replaceQueued k m) m.target .replaced
  | .supersedeQueued => .taken ((s.remove k .superseded (some m.seat)).enqueue k m).grantTest m.target .queued
  | .replaceRunning => s.replaceRunning k m
  | .supersedeRunning =>
    .taken ((s.endMove k .superseded (some m.seat)).storeFollowOn k m) m.target .followOn
  | .store => .taken (s.storeFollowOn k m) m.target .followOn

/-- A move request at a closure numbered 0 to 7 (R86): checks 1 to 9, then contention, then taken. -/
def State.submit (s : State) (k : ClosureId) (asked : Move) : Submitted :=
  let m := s.closures[k].desc.clampTarget asked
  match s.moveRefusal k m with
  | some r => .refused r
  | none => s.takeMove k m

/-- The kind, direction and origin that three bytes code (R86, check 2). -/
def moveOf (seat : SeatId) (kind direction origin : Byte) (target : Option Int) : Option Move :=
  match kindOf kind, directionOf direction, originOf origin with
  | some x, some d, some o => some { seat := seat, kind := x, direction := d, origin := o, target := target }
  | _, _, _ => none

/-- MOVE with its four coded bytes and its target (R86). -/
def State.moveCommand (s : State) (seat : SeatId) (closure kind direction origin : Byte) (target : Option Int) :
    Answer :=
  match closureOf closure with
  | none => s.refuse .badClosure
  | some k =>
    match moveOf seat kind direction origin target with
    | none => s.refuse (if s.closures[k].desc.cls = .unused then .badClosure else .badArgument)
    | some m =>
      match s.submit k m with
      | .refused r => s.refuse r
      | .taken t taken way => t.accept (byteOf k.val :: targetBytes taken ++ [byteOf way.code])

/-- MOVE (R86). -/
def State.answerMove (t : State) (seat : SeatId) (args : List Byte) : Answer :=
  match args with
  | [k, kind, dir, origin] => t.moveCommand seat k kind dir origin none
  | [k, kind, dir, origin, hi, lo] => t.moveCommand seat k kind dir origin (targetOf hi lo)
  | _ => t.refuse .badArgument

/-! Renewing (R94). -/

/-- Whether a seat may renew a context's move (R94, check 2). -/
def Context.renewable (x : Context) (seat : SeatId) : Bool :=
  (decide (x.state = .queued) || decide (x.state = .running))
  && match x.move with
     | some m => m.kind.isHeld && decide (m.seat = seat)
     | none => false

/-- RENEW (R94). -/
def State.answerRenew (t : State) (seat : SeatId) (args : List Byte) : Answer :=
  match args with
  | [closure] =>
    match closureOf closure with
    | none => t.refuse .badClosure
    | some k =>
      if t.closures[k].ctx.renewable seat then
        let deadline := t.now + t.seats[seat].record.holdUnits * (10 * Config.ms)
        (t.modCtx k fun x => { x with holdDeadline := some deadline }).accept []
      else t.refuse .noMove
  | _ => t.refuse .badArgument

/-! Halting (R95, R97, R98). -/

/-- A closure is halted, whoever owns its move (R95): the move ends or is removed with `reason`, and a held follow-on
is dropped with `cause`. -/
def State.halt (s : State) (k : ClosureId) (reason : EndReason) (cause : DropCause) (who : SeatId) : State :=
  match s.closures[k].ctx.state with
  | .running => s.endMove k reason (some who)
  | .reversing => (s.endMove k reason (some who)).dropFollowOn k cause
  | .queued => s.remove k reason (some who)
  | .settling => s.dropFollowOn k cause
  | .idle => s

/-- STOP (R95). -/
def State.answerStop (t : State) (seat : SeatId) (args : List Byte) : Answer :=
  match args with
  | [closure] =>
    match closureOf closure with
    | none => t.refuse .badClosure
    | some k =>
      if hasMember t.seats[seat].record.moveMask k.val then (t.halt k .stopped .stopped seat).accept []
      else t.refuse .notPermitted
  | _ => t.refuse .badArgument

/-- CLEAR (R98): the closure is halted with CLEARED, its reversal count and phase-fault count become 0 and it leaves
ESCAPE. -/
def State.answerClear (t : State) (seat : SeatId) (args : List Byte) : Answer :=
  match args with
  | [closure] =>
    match closureOf closure with
    | none => t.refuse .badClosure
    | some k =>
      if t.seats[seat].record.grants .service then
        (((t.halt k .cleared .cleared seat).modClosure k ClosureState.clearEscape).modCounter k
          fun x => { x with phaseFaults := 0 }).accept []
      else t.refuse .notPermitted
  | _ => t.refuse .badArgument

/-- A follow-on is dropped without a notice (R97). -/
def ClosureState.withoutFollowOn (c : ClosureState) : ClosureState := { c with ctx := { c.ctx with followOn := none } }

/-- Whether a context is RUNNING or REVERSING. -/
def Context.moving (x : Context) : Bool := decide (x.state = .running) || decide (x.state = .reversing)

/-- Every closure is halted (R97): QUEUED moves are removed in ascending order (R104), then RUNNING and REVERSING moves
enter SETTLING, each with the grant test of its slot release (R111; log entry 14), and every follow-on is dropped without
a notice. -/
def State.allStop (s : State) (who : Option SeatId) : State :=
  let removed := allClosures.foldl
    (fun t k => if t.closures[k].ctx.state = .queued then t.remove k .allStopped who else t) s
  let moving := allClosures.filter fun k => removed.closures[k].ctx.moving
  let settled := moving.foldl (fun t k => t.endMove k .allStopped who) removed
  settled.mapClosures fun _ c => c.withoutFollowOn

/-- ALL_STOP through a seat (R97). -/
def State.answerAllStop (t : State) (seat : SeatId) (args : List Byte) : Answer :=
  match args with
  | [] => (t.allStop (some seat)).accept []
  | _ => t.refuse .badArgument

/-- ALL_STOP through the broadcast address (R97): no reply and no ended-by seat; with arguments it is discarded
(R151). -/
def State.broadcastAllStop (t : State) (args : List Byte) : State :=
  match args with
  | [] => t.allStop none
  | _ => t

/-! GLOBAL (R96). -/

/-- A GLOBAL command under way (R96): the state, the mask of closures taken so far, and the first refusal. -/
structure GlobalRun where
  state : State
  taken : Nat := 0
  first : Option Result := none

/-- Whether a request that passes its checks removes the QUEUED move that it meets: superseded (R89), or replaced too late
(R114). -/
def State.removesQueued (s : State) (k : ClosureId) (m : Move) : Bool :=
  (s.moveRefusal k m).isNone &&
    match s.closures[k].ctx.meet m with
    | .supersedeQueued => true
    | .replaceQueued => (s.closures[k].ctx.replace s.now s.seats[m.seat].record.holdUnits m).isOverdue s.now
    | .refused _ | .enqueue | .replaceRunning | .supersedeRunning | .store => false

/-- Whether a request that passes its checks ends a RUNNING move and so releases its slot (R90). -/
def State.releasesSlot (s : State) (k : ClosureId) (m : Move) : Bool :=
  (s.moveRefusal k m).isNone && decide (s.closures[k].ctx.meet m = .supersedeRunning)

/-- Before a slot release of a GLOBAL command, the closures whose QUEUED moves it removes leave the slot queue (R104,
operation 1; R111; log entry 14). -/
def State.clearQueue (s : State) (ask : Move) (closures : List ClosureId) : State :=
  (closures.filter fun k => s.removesQueued k ask).foldl State.leaveQueue s

/-- One closure of a GLOBAL command (R96), of those that it asks. -/
def GlobalRun.take (ask : Move) (asked : List ClosureId) (x : GlobalRun) (k : ClosureId) : GlobalRun :=
  let s := if x.state.releasesSlot k ask then x.state.clearQueue ask (asked.filter (k < ·)) else x.state
  match s.submit k ask with
  | .refused r => { x with first := some (x.first.getD r) }
  | .taken t _ _ => { x with state := t, taken := x.taken + 2 ^ k.val }

/-- GLOBAL (R96): the closures of the mask in ascending order, each checked and taken or refused as a MOVE, with the grant
test of its arrival or of its slot release (R111). -/
def State.answerGlobal (t : State) (seat : SeatId) (args : List Byte) : Answer :=
  match args with
  | [mask, direction, origin] =>
    match directionOf direction, originOf origin with
    | some d, some o =>
      if mask = 0 then t.refuse .badArgument
      else if t.seats[seat].record.grants .global then
        let ask : Move := { seat := seat, kind := .global, direction := d, origin := o, target := none }
        let asked := allClosures.filter fun k => hasMember mask k.val
        let run := asked.foldl (GlobalRun.take ask asked) { state := t }
        run.state.accept [byteOf run.taken, byteOf (run.first.getD .accepted).code]
      else t.refuse .notPermitted
    | _, _ => t.refuse .badArgument
  | _ => t.refuse .badArgument

end Sys2Proof.Machine
end

