-- ==== Sys2Proof/Machine/NoticeCommands.lean ====
section
/-! DEFINITION. The answers to the notice commands: TAKE_NOTICE, READ_SEAT_STATUS. -/
namespace Sys2Proof.Machine

/-- The oldest notice leaves a queue: the stale deadline follows the new oldest and the causes are tested (R132). -/
def SeatState.takeOldest (now : Nat) (n : SeatState) : SeatState :=
  let t := { n with queue := n.queue.tail }
  { t with staleDeadline := t.deadline }.retest now

/-- TAKE_NOTICE (R132): the oldest notice, or one byte 0x00 when the queue is empty. -/
def State.answerTakeNotice (t : State) (seat : SeatId) (args : List Byte) : Answer :=
  match args with
  | [] =>
    match t.seats[seat].queue with
    | [] => t.accept [0]
    | oldest :: _ => (t.modSeat seat fun x => x.takeOldest t.now).accept (noticeItems t.now oldest)
  | _ => t.refuse .badArgument

/-- The items of a seat status reply (R133, R154). -/
def State.statusItems (s : State) (n : SeatId) : List Byte :=
  let x := s.seats[n]
  [byteOf x.queue.length, flagByte (x.queue.any fun y => y.body.urgent), byteOf x.lossCount, byteOf x.cause.code,
    byteOf s.store.job.code, byteOf s.store.source.code]

/-- A seat status reply has taken the loss count, which becomes 0 (R133). -/
def State.clearLoss (s : State) (n : SeatId) : State := s.modSeat n fun x => { x with lossCount := 0 }

/-- READ_SEAT_STATUS (R133). -/
def State.answerReadSeatStatus (t : State) (seat : SeatId) (args : List Byte) : Answer :=
  match args with
  | [] => (t.clearLoss seat).accept (t.statusItems seat)
  | _ => t.refuse .badArgument

end Sys2Proof.Machine
end

