-- ==== Sys2Proof/Machine/ProfileCommands.lean ====
section
/-! DEFINITION. The answers to the profile commands: READ_PROFILE, WRITE_PROFILE_ZONE, MARK_LEARNED. -/
namespace Sys2Proof.Machine

/-- The items of READ PROFILE (R56): status, dirty flag, then one record for each zone from `first`. -/
def profileItems (p : Profile) (first count : Nat) : List Byte :=
  [byteOf p.status.code, flagByte p.dirty]
  ++ ((List.finRange 64).filter fun z => decide (first ≤ z.val ∧ z.val < first + count)).flatMap
    fun z => zoneItems z p.zones[z]

/-- READ_PROFILE (R56). -/
def State.answerReadProfile (t : State) (args : List Byte) : Answer :=
  match args with
  | [closure, first, count] =>
    match closureOf closure with
    | none => t.refuse .badClosure
    | some k =>
      if count = 0 ∨ 4 < count.toNat ∨ 63 < first.toNat ∨ 64 < first.toNat + count.toNat then t.refuse .badArgument
      else t.accept (profileItems t.closures[k].profile first.toNat count.toNat)
  | _ => t.refuse .badArgument

/-- The zone entry that WRITE PROFILE ZONE writes: the clamped values, the anchors equal to the references (R57,
operations 1 and 2). -/
def writtenZone (tRef iRef vRef : Nat) : ZoneEntry :=
  let t := clampNat 200 65535 tRef
  let i := clampNat 0 40000 iRef
  { tRef := t, iRef := i, vRef := clampNat 6000 18000 vRef, tAnchor := t, iAnchor := i }

/-- WRITE_PROFILE_ZONE (R57). -/
def State.answerWriteProfileZone (t : State) (seat : SeatId) (args : List Byte) : Answer :=
  match args with
  | [closure, zone, tHi, tLo, iHi, iLo, vHi, vLo] =>
    match closureOf closure with
    | none => t.refuse .badClosure
    | some k =>
      if !t.seats[seat].record.grants .settings then t.refuse .notPermitted
      else if h : zone.toNat < 64 then
        if t.closures[k].ctx.state = .idle then
          let e := writtenZone (word16 tHi tLo).toNat (word16 iHi iLo).toNat (word16 vHi vLo).toNat
          (t.modProfile k fun p => { p with zones := p.zones.set zone.toNat e }.changed).accept
            (zone :: (be16 e.tRef ++ be16 e.iRef ++ be16 e.vRef))
        else t.refuse .notIdle
      else t.refuse .badArgument
  | _ => t.refuse .badArgument

/-- A profile declared learned (R58): nothing changes when it already is. -/
def Profile.markLearned (p : Profile) : Profile :=
  match p.status with
  | .learned => p
  | .unlearned => { p with status := .learned }.changed

/-- MARK_LEARNED (R58). -/
def State.answerMarkLearned (t : State) (seat : SeatId) (args : List Byte) : Answer :=
  match args with
  | [closure] =>
    match closureOf closure with
    | none => t.refuse .badClosure
    | some k =>
      if t.seats[seat].record.grants .settings then (t.modProfile k Profile.markLearned).accept []
      else t.refuse .notPermitted
  | _ => t.refuse .badArgument

end Sys2Proof.Machine
end

