-- ==== Sys2Proof/Machine/ReadCommands.lean ====
section
/-! DEFINITION. The answers to the closure and statistics commands: READ_CLOSURE, READ_OUTCOME, READ_STATS, CLEAR_STATS. -/
namespace Sys2Proof.Machine

/-- The closure status body (R20, R154), 13 bytes. -/
def closureBody (k : ClosureId) (c : ClosureState) (outOfRange : Bool) : List Byte :=
  byteOf k.val :: beInt16 c.counter.position
  ++ [byteOf c.counter.validity.code, byteOf c.readiness.code,
    byteOf (markBit c.counter.overspeed 1 + markBit outOfRange 2 + markBit c.verdict.escape 4),
    byteOf c.verdict.reversals, byteOf c.ctx.state.code, seatByte (c.ctx.move.map (·.seat))]
  ++ be16 c.est.published ++ be16 c.verdict.lastThreshold

/-- READ_CLOSURE (R20). -/
def State.answerReadClosure (t : State) (args : List Byte) : Answer :=
  match args with
  | [closure] =>
    match closureOf closure with
    | none => t.refuse .badClosure
    | some k => t.accept (closureBody k t.closures[k] t.front.outOfRange)
  | _ => t.refuse .badArgument

/-- READ_OUTCOME (R138): the record, or one byte 0x00 for "no outcome". -/
def State.answerReadOutcome (t : State) (args : List Byte) : Answer :=
  match args with
  | [closure] =>
    match closureOf closure with
    | none => t.refuse .badClosure
    | some k =>
      match t.closures[k].lastOutcome with
      | some o => t.accept (outcomeBody o)
      | none => t.accept [0]
  | _ => t.refuse .badArgument

/-- READ_STATS (R143). -/
def State.answerReadStats (t : State) (args : List Byte) : Answer :=
  match args with
  | [closure] =>
    match closureOf closure with
    | none => t.refuse .badClosure
    | some k => t.accept (statsItems t.closures[k].stats.counters t.closures[k].desc.statsOn)
  | _ => t.refuse .badArgument

/-- CLEAR_STATS (R144). -/
def State.answerClearStats (t : State) (seat : SeatId) (args : List Byte) : Answer :=
  match args with
  | [closure] =>
    match closureOf closure with
    | none => t.refuse .badClosure
    | some k =>
      if t.seats[seat].record.grants .service then (t.modClosure k fun c => { c with stats := {} }).accept []
      else t.refuse .notPermitted
  | _ => t.refuse .badArgument

end Sys2Proof.Machine
end

