-- ==== Sys2Proof/Machine/SettingCommands.lean ====
section
/-! DEFINITION. The answers to the setting commands: READ_SETTING, READ_DEVICE_SETTING, READ_SLOT_STATE, WRITE_SETTING,
WRITE_DEVICE_SETTING, WRITE_T_RET; and the seat record commands: READ_SEAT_RECORD, WRITE_SEAT_RECORD. -/
namespace Sys2Proof.Machine

/-! Closure fields by identifier (R1, R154). -/

/-- The value of a closure field by its identifier 0x00 to 0x15 (R4, R154). -/
def Description.read (d : Description) (id : Nat) : Option Nat :=
  match id with
  | 0x00 => some d.cls.code
  | 0x01 => some d.polarity.code
  | 0x02 => some d.travel
  | 0x03 => some d.endBand
  | 0x04 => some d.pinchLimit
  | 0x05 => some d.reversalMode.code
  | 0x06 => some d.reversalDistance
  | 0x07 => some d.speedGain
  | 0x08 => some d.currentGain
  | 0x09 => some d.blend
  | 0x0A => some d.thPinch
  | 0x0B => some d.thFree
  | 0x0C => some d.thFallback
  | 0x0D => some d.thOpen
  | 0x0E => some d.thCeiling
  | 0x0F => some d.roughStep
  | 0x10 => some d.blanking
  | 0x11 => some d.confirmSteps
  | 0x12 => some d.stallUnits
  | 0x13 => some d.brakeTime
  | 0x14 => some d.escapeMax
  | 0x15 => some (if d.statsOn then 1 else 0)
  | _ => none

/-- Zp clamped to Zs + 4 to L_full (R2, R3). -/
def Description.clampPinch (d : Description) (v : Nat) : Nat := clampNat (d.endBand + 4) d.travel v

/-- A closure field takes a value, clamped to its range of R1, with the description's own dependent adjustments (R3):
the class default of the reversal mode, Zp and Θ_pinch clamped again, each only when the value differs. `none` for a
value that is not one of an enumerated field's values, or an identifier that is no closure field (R2). -/
def Description.write (d : Description) (id v : Nat) : Option Description :=
  match id with
  | 0x00 => (classOf v).map fun x =>
      if x = d.cls then d else { d with cls := x, reversalMode := x.defaultMode }
  | 0x01 => (polarityOf v).map fun x => { d with polarity := x }
  | 0x02 =>
      let n := clampNat 512 16000 v
      let e := { d with travel := n }
      some (if n = d.travel then d else { e with pinchLimit := e.clampPinch d.pinchLimit })
  | 0x03 =>
      let n := clampNat 4 64 v
      let e := { d with endBand := n }
      some (if n = d.endBand then d else { e with pinchLimit := e.clampPinch d.pinchLimit })
  | 0x04 => some { d with pinchLimit := d.clampPinch v }
  | 0x05 => (reversalModeOf v).map fun x => { d with reversalMode := x }
  | 0x06 => some { d with reversalDistance := clampNat 40 2000 v }
  | 0x07 => some { d with speedGain := clampNat 0 255 v }
  | 0x08 => some { d with currentGain := clampNat 0 255 v }
  | 0x09 => some { d with blend := clampNat 0 16 v }
  | 0x0A => some { d with thPinch := clampNat 40 d.thCeiling v }
  | 0x0B => some { d with thFree := clampNat 40 2047 v }
  | 0x0C => some { d with thFallback := clampNat 40 2047 v }
  | 0x0D => some { d with thOpen := clampNat 40 2047 v }
  | 0x0E =>
      let n := clampNat 200 400 v
      some (if n = d.thCeiling then d else { d with thCeiling := n, thPinch := clampNat 40 n d.thPinch })
  | 0x0F => some { d with roughStep := clampNat 0 60 v }
  | 0x10 => some { d with blanking := clampNat 2 15 v }
  | 0x11 => some { d with confirmSteps := clampNat 1 4 v }
  | 0x12 => some { d with stallUnits := clampNat 4 40 v }
  | 0x13 => some { d with brakeTime := clampNat 5 50 v }
  | 0x14 => some { d with escapeMax := clampNat 1 7 v }
  | 0x15 => (onOffOf v).map fun x => { d with statsOn := x }
  | _ => none

/-- Whether an identifier names a closure field: 0x00 to 0x15 (R2, R154). -/
def isFieldId (id : Byte) : Bool := decide (id.toNat ≤ 0x15)

/-- The structural fields, whose write needs an IDLE context: class, hall polarity, L_full, Zs, Zp (R2, check 4). -/
def isStructural (id : Nat) : Bool := decide (id ≤ 0x04)

/-- The position limited to L_full + 64, LOST when it was above (R3, R21, R161). -/
def ClosureState.limitPosition (c : ClosureState) : ClosureState :=
  if c.desc.highestPosition < c.counter.position then
    { c with counter := { c.counter with position := c.desc.highestPosition, validity := .lost } }
  else c

/-- The profile made UNLEARNED, its dirty flag set and its capture mark cleared (R3, R47, R59). -/
def ClosureState.unlearn (c : ClosureState) : ClosureState :=
  { c with profile := { c.profile with status := .unlearned }.changed }

/-- The effects of a description write outside the description (R3): a class or L_full change makes the profile
UNLEARNED, an L_full change limits the position, an R_max change sets the count and the escape state (R80). -/
def ClosureState.adjustAfterWrite (before : Description) (c : ClosureState) : ClosureState :=
  if c.desc.cls ≠ before.cls then c.unlearn
  else if c.desc.travel ≠ before.travel then c.unlearn.limitPosition
  else if c.desc.escapeMax ≠ before.escapeMax then c.setReversals (min c.desc.escapeMax c.verdict.reversals)
  else c

/-- A description write taken (R2, R3): the working description, the adjustments outside it, and the loss of position
of a polarity change, reported to the context (R15). -/
def State.writeDescription (s : State) (k : ClosureId) (d : Description) : State :=
  let before := s.closures[k].desc
  let t := s.modClosure k fun c => ClosureState.adjustAfterWrite before { c with desc := d }
  if d.polarity ≠ before.polarity then t.losePosition k else t

/-- The items of a setting reply: identifier, value (R154). -/
def settingItems (id : Byte) (v : Nat) : List Byte := id :: be16 v

/-- WRITE SETTING of a closure field (R2). -/
def State.writeField (s : State) (seat : SeatId) (closure id : Byte) (v : Nat) : Answer :=
  if !isFieldId id then s.refuse .badArgument
  else match closureOf closure with
    | none => s.refuse .badClosure
    | some k =>
      if !s.seats[seat].record.grants .settings then s.refuse .notPermitted
      else match s.closures[k].desc.write id.toNat v with
        | none => s.refuse .badArgument
        | some d =>
          if isStructural id.toNat && decide (s.closures[k].ctx.state ≠ .idle) then s.refuse .notIdle
          else (s.writeDescription k d).accept (settingItems id ((d.read id.toNat).getD 0))

/-! Device settings (R106, R108, R127). -/

/-- The value of a device setting. -/
def Settings.read (x : Settings) : DeviceSetting → Nat
  | .supply .slots => x.slots
  | .supply .vLow => x.vLow
  | .supply .vResume => x.vResume
  | .supply .vMin => x.vMin
  | .tRet => x.tRet

/-- V_resume and V_min clamped again to their ranges from the working V_low (R108, operation 2). -/
def Settings.reclamp (x : Settings) : Settings :=
  { x with vResume := clampNat (x.vLow + 200) 13000 x.vResume, vMin := clampNat 7000 (x.vLow - 500) x.vMin }

/-- A supply setting takes a value clamped to its range (R108, operations 1 and 2). -/
def Settings.write (x : Settings) (v : Nat) : SupplySetting → Settings
  | .slots => { x with slots := clampNat 1 4 v }
  | .vLow => { x with vLow := clampNat 9000 12000 v }.reclamp
  | .vResume => { x with vResume := clampNat (x.vLow + 200) 13000 v }
  | .vMin => { x with vMin := clampNat 7000 (x.vLow - 500) v }

/-- Whether any context is QUEUED, RUNNING or REVERSING (R108, check 2). -/
def State.anyHoldsOrWaits (s : State) : Bool :=
  allClosures.any fun k =>
    match s.closures[k].ctx.state with
    | .queued | .running | .reversing => true
    | .idle | .settling => false

/-- WRITE SETTING of K_slots, V_low, V_resume or V_min (R108). -/
def State.writeSupplySetting (s : State) (seat : SeatId) (id : SupplySetting) (v : Nat) : Answer :=
  if !s.seats[seat].record.grants .settings then s.refuse .notPermitted
  else if decide (id = .slots) && s.anyHoldsOrWaits then s.refuse .notIdle
  else
    let settings := s.settings.write v id
    let effective :=
      if id = .slots ∧ s.arbiter.derating = false then settings.slots else s.arbiter.effective
    ({ s with settings := settings, arbiter := { s.arbiter with effective := effective } }).accept
      (settingItems (DeviceSetting.supply id).id (settings.read (.supply id)))

/-- WRITE SETTING of T_ret (R127). -/
def State.writeRetention (s : State) (seat : SeatId) (v : Nat) : Answer :=
  if !s.seats[seat].record.grants .settings then s.refuse .notPermitted
  else
    let settings := { s.settings with tRet := clampNat 0 255 v }
    ({ s with settings := settings }).accept (settingItems DeviceSetting.tRet.id settings.tRet)

/-- The items of the slot state (R109, R154). -/
def slotStateItems (a : Arbiter) : List Byte :=
  [byteOf a.effective, flagByte a.derating, byteOf a.supplyState.code, maskOf a.held]
  ++ queueBytes a.queue ++ [flagByte a.unparkPending, byteOf a.unparkWait.code]

/-- READ SETTING of a device setting (R108): the closure byte is not read. -/
def State.readDevice (s : State) (d : DeviceSetting) : Answer := s.accept (settingItems d.id (s.settings.read d))

/-- READ_SETTING (R4): the identifier decides the rule that takes the command. -/
def State.answerReadSetting (t : State) (args : List Byte) : Answer :=
  match args with
  | [closure, id] =>
    match deviceSettingOf id with
    | some d => t.readDevice d
    | none =>
      if id = slotStateId then t.accept (slotStateItems t.arbiter)
      else if !isFieldId id then t.refuse .badArgument
      else match closureOf closure with
        | none => t.refuse .badClosure
        | some k => t.accept (settingItems id ((t.closures[k].desc.read id.toNat).getD 0))
  | _ => t.refuse .badArgument

/-- READ_SLOT_STATE (R109). -/
def State.answerReadSlotState (t : State) : Answer :=
  t.accept (slotStateItems t.arbiter)

/-- WRITE_SETTING (R2): the identifier decides the rule that takes the command; the slot state and an identifier that
names nothing are refused before any other check. -/
def State.answerWriteSetting (t : State) (seat : SeatId) (args : List Byte) : Answer :=
  match args with
  | [closure, id, hi, lo] =>
    match deviceSettingOf id with
    | some (.supply x) => t.writeSupplySetting seat x (word16 hi lo).toNat
    | some .tRet => t.writeRetention seat (word16 hi lo).toNat
    | none => t.writeField seat closure id (word16 hi lo).toNat
  | _ => t.refuse .badArgument

/-! Seat records (R120 to R122). -/

/-- A seat record from its seven bytes, clamped or reduced (R122). -/
def recordOf (moveMask rights wordMask subscription hold trigger stale : Byte) : SeatRecord :=
  { moveMask := moveMask
    rights := rights &&& 0x0F
    wordMask := wordMask &&& 0x3F
    subscription := subscription
    holdUnits := clampNat 6 50 hold.toNat
    trigger := clampNat 1 16 trigger.toNat
    staleUnits := clampNat 5 255 stale.toNat }

/-- A seat takes a record; the notice unit sets the stale deadline afresh and tests the causes (R122, R136). -/
def SeatState.takeRecord (now : Nat) (r : SeatRecord) (n : SeatState) : SeatState :=
  let t := { n with record := r }
  { t with staleDeadline := t.deadline }.retest now

/-- READ_SEAT_RECORD (R122). -/
def State.answerReadSeatRecord (t : State) (args : List Byte) : Answer :=
  match args with
  | [target] =>
    match seatOf target with
    | none => t.refuse .badArgument
    | some n => t.accept (recordItems n t.seats[n].record)
  | _ => t.refuse .badArgument

/-- WRITE_SEAT_RECORD (R122). -/
def State.answerWriteSeatRecord (t : State) (seat : SeatId) (args : List Byte) : Answer :=
  match args with
  | [target, moveMask, rights, wordMask, subscription, hold, trigger, stale] =>
    match seatOf target with
    | none => t.refuse .badArgument
    | some n =>
      if t.seats[seat].record.grants .settings then
        let r := recordOf moveMask rights wordMask subscription hold trigger stale
        (t.modSeat n fun x => x.takeRecord t.now r).accept (recordItems n r)
      else t.refuse .notPermitted
  | _ => t.refuse .badArgument

end Sys2Proof.Machine
end

