-- ==== Sys2Proof/Machine/StoreCommands.lean ====
section
/-! DEFINITION. The retained store: the answer to COMMIT, and COMMIT_COMPLETION, COMMIT_FAILURE,
UNPARK_WRITE_COMPLETION, UNPARK_WRITE_FAILURE. -/
namespace Sys2Proof.Machine

/-- The copy that a commit captures of the working state (R155, R156). The image's markers are not part of it. -/
def State.capture (s : State) : Image :=
  { descriptions := Vector.ofFn fun k : ClosureId => s.closures[k].desc
    settings := s.settings
    records := Vector.ofFn fun n : SeatId => s.seats[n].record
    profiles := Vector.ofFn fun k : ClosureId =>
      { status := s.closures[k].profile.status, zones := s.closures[k].profile.zones }
    stats := Vector.ofFn fun k : ClosureId => s.closures[k].stats.counters
    positions := Vector.ofFn fun k : ClosureId =>
      { pos := s.closures[k].counter.position, validity := s.closures[k].counter.validity } }

/-- A commit accepted (R156): the copy is captured, every capture mark set (R47), unpark pending set for a parking
commit (R117), and the store is COMMITTING; the image stays as it is until the commit ends (log entry 20). -/
def State.acceptCommit (s : State) (seat : SeatId) (park : Bool) : State :=
  let marked := s.mapClosures fun _ c => { c with profile := { c.profile with capture := true } }
  { marked with
    arbiter := { marked.arbiter with unparkPending := park || marked.arbiter.unparkPending }
    store := { marked.store with job := .committing seat park s.capture } }

/-- The park argument a byte codes (R156, check 1). -/
def parkOf (b : Byte) : Option Bool := onOffOf b.toNat

/-- Whether every context is IDLE (R156, check 4). -/
def State.allIdle (s : State) : Bool := allClosures.all fun k => decide (s.closures[k].ctx.state = .idle)

/-- COMMIT (R156). -/
def State.answerCommit (t : State) (seat : SeatId) (args : List Byte) : Answer :=
  match args with
  | [parkByte] =>
    match parkOf parkByte with
    | none => t.refuse .badArgument
    | some park =>
      if !t.seats[seat].record.grants .commit then t.refuse .notPermitted
      else if t.store.job ≠ .idle then t.refuse .storeBusy
      else if park && !t.allIdle then t.refuse .notIdle
      else (t.acceptCommit seat park).accept []
  | _ => t.refuse .badArgument

/-- The store operation of a commit (R128). -/
def commitOp (park : Bool) : StoreOp := if park then .parkingCommit else .commit

/-- The image that a completed commit leaves (R157): the captured parts; the captured positions and the parked marker
set for a parking commit, otherwise the stored positions as they were and the parked marker clear; the image-valid
marker set. -/
def Image.committed (old captured : Image) (park : Bool) : Image :=
  { captured with positions := if park then captured.positions else old.positions, parked := park, valid := true }

/-- The image that a commit leaves which did not complete (R157): the image-valid marker clear; the stored positions as
they were unless it parked; the rest a free value (log entry 8). -/
def Image.torn (old : Image) (park : Bool) (i : Nat) : Image :=
  let t := Config.tornImage i
  { t with positions := if park then t.positions else old.positions, valid := false }

/-- An unpark wait at the end of a commit (R118): when the flag is clear the wait ends with a grant test; while it is
set the unpark write is asked for at once. -/
def State.commitEnded (s : State) : State :=
  match s.arbiter.unparkWait with
  | .waitingForStore =>
    if s.arbiter.unparkPending then s.startUnparkWrite
    else (s.modArbiter fun a => { a with unparkWait := .none }).grantTest
  | .none | .writing => s

/-- The captured profiles' dirty flags cleared and every capture mark cleared (R47). -/
def Profile.retained (p : Profile) : Profile :=
  { p with dirty := p.dirty && !p.capture, capture := false }

/-- A commit completes (R157): the image, STORE_DONE to the told seat, the dirty flags (R47), unpark pending (R117), the
store IDLE, and an unpark wait (R118). -/
def State.completeCommit (s : State) (seat : SeatId) (park : Bool) (captured : Image) : State :=
  let posted := s.postSeat seat (.storeDone (commitOp park))
  let clean := posted.mapClosures fun _ c => { c with profile := c.profile.retained }
  ({ clean with
      arbiter := { clean.arbiter with unparkPending := park && clean.arbiter.unparkPending }
      store := { clean.store with job := .idle, image := clean.store.image.committed captured park } }).commitEnded

/-- COMMIT_COMPLETION (R157). -/
def execCommitCompletion (dt : Nat) (s : State) : Host.Outcome State Fault Refusal :=
  .next (s.onEvent dt fun t =>
    match t.store.job with
    | .committing seat park captured => t.completeCommit seat park captured
    | .idle | .unparking => t)

/-- A commit fails (R157): the image-valid marker left clear, STORE_FAILED to the told seat, every capture mark cleared
(R47), unpark pending clear (R117), the store IDLE, and an unpark wait (R118). -/
def State.failCommit (s : State) (seat : SeatId) (park : Bool) : State :=
  let posted := s.postSeat seat (.storeFailed (commitOp park))
  let unmarked := posted.mapClosures fun _ c => { c with profile := { c.profile with capture := false } }
  ({ unmarked with
      arbiter := { unmarked.arbiter with unparkPending := false }
      store := { unmarked.store with job := .idle, image := unmarked.store.image.torn park s.freeCount }
      freeCount := s.freeCount + 1 }).commitEnded

/-- COMMIT_FAILURE (R157). -/
def execCommitFailure (dt : Nat) (s : State) : Host.Outcome State Fault Refusal :=
  .next (s.onEvent dt fun t =>
    match t.store.job with
    | .committing seat park _ => t.failCommit seat park
    | .idle | .unparking => t)

/-- The end of an unpark write (R118, R158): the notice to every seat that holds the COMMIT right, the store IDLE,
unpark pending and the wait cleared, a grant test. -/
def State.endUnpark (s : State) (body : NoticeBody) (image : Image) : State :=
  let posted := s.postTo (fun n => s.seats[n].record.grants .commit) body
  ({ posted with
      arbiter := { posted.arbiter with unparkPending := false, unparkWait := .none }
      store := { posted.store with job := .idle, image := image } }).grantTest

/-- UNPARK_WRITE_COMPLETION (R158): the parked marker cleared, the image-valid marker set. -/
def execUnparkWriteCompletion (dt : Nat) (s : State) : Host.Outcome State Fault Refusal :=
  .next (s.onEvent dt fun t =>
    match t.store.job with
    | .unparking => t.endUnpark (.storeDone .unparkWrite) { t.store.image with parked := false, valid := true }
    | .idle | .committing _ _ _ => t)

/-- The image that an unpark write leaves which did not complete (R158): the image-valid marker clear; the parked marker
a free value (log entry 8). -/
def Image.halfUnparked (x : Image) (i : Nat) : Image := { x with valid := false, parked := Config.tornMarker i }

/-- UNPARK_WRITE_FAILURE (R158). -/
def execUnparkWriteFailure (dt : Nat) (s : State) : Host.Outcome State Fault Refusal :=
  .next (s.onEvent dt fun t =>
    match t.store.job with
    | .unparking =>
      ({ t with freeCount := t.freeCount + 1 }).endUnpark (.storeFailed .unparkWrite)
        (t.store.image.halfUnparked t.freeCount)
    | .idle | .committing _ _ _ => t)

end Sys2Proof.Machine
end

