-- ==== Sys2Proof/Machine/FrontEndEvents.lean ====
section
/-! DEFINITION. The current, supply and temperature front end: CURRENT_SAMPLE, SUPPLY_SAMPLE, SUPPLY_REFRESH,
TEMPERATURE_MEASUREMENT; with the supply's effect on the slot arbiter and the motion contexts. -/
namespace Sys2Proof.Machine

/-- CURRENT_SAMPLE (R22): the sample joins the closure's accumulator while it is open. The eight senses sampled at one
instant are eight commands (log entry 16). -/
def execCurrentSample (dt : Nat) (k : ClosureId) (mA : Int) (s : State) : Host.Outcome State Fault Refusal :=
  .next (s.onEvent dt fun t => t.modClosure k fun c => { c with sense := c.sense.add mA })

/-- The samples of the last 1 ms: the newest 20 (R24). -/
def windowAfter (window : List Nat) (mV : Nat) : List Nat :=
  let grown := window ++ [mV]
  grown.drop (grown.length - 20)

/-- SUPPLY_SAMPLE (R24): the sample joins the supply window. -/
def execSupplySample (dt : Nat) (mV : Nat) (s : State) : Host.Outcome State Fault Refusal :=
  .next (s.onEvent dt fun t => { t with front := { t.front with window := windowAfter t.front.window mV } })

/-- Derating, tested at each refresh (R113). -/
def State.testDerating (s : State) : State :=
  if s.arbiter.derating then
    if s.settings.vResume ≤ s.front.reading then
      (s.modArbiter fun a => { a with derating := false, effective := s.settings.slots }).grantTest
    else s
  else if s.front.reading < s.settings.vLow then s.modArbiter fun a => { a with derating := true, effective := 1 }
  else s

/-- A supply notice is posted to every seat (R115, R116); during the start-up load it falls due and waits for the end
of the load (R106, R130). -/
def State.postSupply (s : State) (due : DueNotice) (body : NoticeBody) : State :=
  if s.loading then { s with deferred := s.deferred ++ [due] } else s.postTo (fun _ => true) body

/-- Whether a context's move closes (R100). -/
def Context.closes (x : Context) (state : CtxState) : Bool :=
  decide (x.state = state) && decide (x.move.map (·.direction) = some .closing)

/-- The closing moves end at a fall of the supply (R100): every QUEUED one is removed, in ascending order, then every
RUNNING one enters SETTLING, with the grant test of its slot release (R111; log entry 14). -/
def State.endClosings (s : State) : State :=
  let removed := allClosures.foldl
    (fun t k => if t.closures[k].ctx.closes .queued then t.remove k .supplyLow none else t) s
  let running := allClosures.filter fun k => removed.closures[k].ctx.closes .running
  running.foldl (fun t k => t.endMove k .supplyLow none) removed

/-- The supply monitor's test at each refresh (R115): below V_min after ABOVE is a fall. -/
def State.testSupply (s : State) : State :=
  if s.front.reading < s.settings.vMin then
    match s.arbiter.supplyState with
    | .below => s
    | .above =>
      let below := s.modArbiter fun a => { a with supplyState := .below }
      let noted :=
        if below.arbiter.supplyNotice then below
        else (below.postSupply (.supplyLowEntered s.front.reading) (.supplyLowEntered s.front.reading)).modArbiter
          fun a => { a with supplyNotice := true }
      noted.endClosings
  else s.modArbiter fun a => { a with supplyState := .above }

/-- The recovery notice, tested at each refresh (R116). -/
def State.testRecovery (s : State) : State :=
  if s.arbiter.supplyNotice && decide (s.settings.vMin + 500 ≤ s.front.reading) then
    (s.postSupply (.supplyRecovered s.front.reading) (.supplyRecovered s.front.reading)).modArbiter
      fun a => { a with supplyNotice := false }
  else s

/-- The supply reading published from a window of 20 samples: their mean truncated, clamped to 6,000 to 18,000 mV; the
mark is set when the mean had to be clamped (R24). -/
def FrontEnd.publish (x : FrontEnd) : FrontEnd :=
  let mean := x.window.sum / 20
  { x with reading := clampNat 6000 18000 mean, outOfRange := decide (mean < 6000 ∨ 18000 < mean) }

/-- SUPPLY_REFRESH (R24): the reading is published and tested by the slot arbiter and its supply monitor. A window that
has not refilled publishes nothing (R26; log entry 12). DESIGN CHOICE (log entry 24): the test of derating comes before
the supply monitor's, so a refresh that starts derating and is a fall grants under the effective count 1. -/
def execSupplyRefresh (dt : Nat) (s : State) : Host.Outcome State Fault Refusal :=
  .next (s.onEvent dt fun t =>
    if t.front.window.length < 20 then t
    else ((({ t with front := t.front.publish }).testDerating).testSupply).testRecovery)

/-- TEMPERATURE_MEASUREMENT (R25): clamped to -40 to 150 °C and published. -/
def execTemperatureMeasurement (dt : Nat) (celsius : Int) (s : State) : Host.Outcome State Fault Refusal :=
  .next (s.onEvent dt fun t => { t with front := { t.front with temperature := clampInt (-40) 150 celsius } })

end Sys2Proof.Machine
end

