-- ==== Sys2Proof/Machine/WordCommands.lean ====
section
/-! DEFINITION. The shared words and the retained window: the answers to READ_WORDS, WRITE_WORD, SET_BITS,
CLEAR_BITS, COMPARE_AND_WRITE. -/
namespace Sys2Proof.Machine

/-- A value reduced to a word's range (R123). -/
def reduceWord (w : Fin 6) (v : Byte) : Byte :=
  match w with
  | 0 => v
  | 1 => if 2 < v.toNat then 2 else v
  | 2 => v &&& 3
  | 3 => if 3 < v.toNat then 3 else v
  | 4 => if 3 < v.toNat then 3 else v
  | 5 => if 1 < v.toNat then 1 else v

/-- Whether a context holds a move of origin LOCAL in a state (R99). -/
def Context.isLocal (x : Context) (state : CtxState) : Bool :=
  decide (x.state = state) && decide (x.move.map (·.origin) = some .seatSwitch)

/-- Closures newly set in CHILD LOCK (R99, R126): a QUEUED LOCAL move is removed, in ascending order, then a RUNNING one
enters SETTLING, with LOCKED_OUT and the grant test of its slot release (R111; log entry 14). -/
def State.lockOut (s : State) (added : Byte) : State :=
  let locked := allClosures.filter fun k => hasMember added k.val
  let removed := locked.foldl (fun t k => if t.closures[k].ctx.isLocal .queued then t.remove k .lockedOut none else t) s
  let running := locked.filter fun k => removed.closures[k].ctx.isLocal .running
  running.foldl (fun t k => t.endMove k .lockedOut none) removed

/-- The retained window opens for T_ret; it stays CLOSED when T_ret is 0 (R127). -/
def State.openWindow (s : State) : State :=
  if s.settings.tRet = 0 then s else { s with window := some (s.now + s.settings.tRet * (1000 * Config.ms)) }

/-- A change of a word from `old` to `new` is handed to the blocks that act on it (R126). -/
def State.wordChanged (s : State) (w : Fin 6) (old new : Byte) : State :=
  match w with
  | 0 => s.lockOut (new &&& ~~~old)
  | 1 =>
    if new = 0 then s.openWindow
    else if old = 0 then { s with window := none }
    else s
  | 2 => if new &&& ~~~old = 0 then s else { s with window := none }
  | 3 | 4 | 5 => s

/-- A word takes a candidate value (R124, operations 1 to 4). -/
def State.takeWord (s : State) (w : Fin 6) (candidate : Byte) : Answer :=
  let old := s.words[w]
  let new := reduceWord w candidate
  let written := { s with words := s.words.set w new }
  let handed := if new = old then written else written.wordChanged w old new
  handed.accept [byteOf w.val, old, new]

/-- A word operation's checks 1 and 2 (R124), then what `act` does with the word. -/
def State.wordCommand (s : State) (seat : SeatId) (word : Byte) (act : Fin 6 → Answer) : Answer :=
  match wordOf word with
  | none => s.refuse .badArgument
  | some w => if hasMember s.seats[seat].record.wordMask w.val then act w else s.refuse .notPermitted

/-- The time until the retained window expires, in units of 100 ms rounded up; 0 while CLOSED (R125, R154). -/
def State.windowUnits (s : State) : Nat :=
  match s.window with
  | some t => (t - s.now + (100 * Config.ms - 1)) / (100 * Config.ms)
  | none => 0

/-- READ_WORDS (R125). -/
def State.answerReadWords (t : State) (args : List Byte) : Answer :=
  match args with
  | [] => t.accept (t.words.toList ++ flagByte t.window.isSome :: be16 t.windowUnits)
  | _ => t.refuse .badArgument

/-- WRITE_WORD (R124). -/
def State.answerWriteWord (t : State) (seat : SeatId) (args : List Byte) : Answer :=
  match args with
  | [word, value] => t.wordCommand seat word fun w => t.takeWord w value
  | _ => t.refuse .badArgument

/-- SET_BITS (R124). -/
def State.answerSetBits (t : State) (seat : SeatId) (args : List Byte) : Answer :=
  match args with
  | [word, members] => t.wordCommand seat word fun w => t.takeWord w (t.words[w] ||| members)
  | _ => t.refuse .badArgument

/-- CLEAR_BITS (R124). -/
def State.answerClearBits (t : State) (seat : SeatId) (args : List Byte) : Answer :=
  match args with
  | [word, members] => t.wordCommand seat word fun w => t.takeWord w (t.words[w] &&& ~~~members)
  | _ => t.refuse .badArgument

/-- COMPARE_AND_WRITE (R124): MISMATCH carries the present value. -/
def State.answerCompareAndWrite (t : State) (seat : SeatId) (args : List Byte) : Answer :=
  match args with
  | [word, expected, value] =>
    t.wordCommand seat word fun w =>
      if t.words[w] = expected then t.takeWord w value
      else { state := t, result := .mismatch, items := [t.words[w]] }
  | _ => t.refuse .badArgument

end Sys2Proof.Machine
end

