-- ==== Sys2Proof/Machine/Frames.lean ====
section
/-! DEFINITION. Frames on the closure link: what a write frame and a read frame do at their end, how a start ends the
frame in progress, and what every frame does to the link (R146 to R151). -/
namespace Sys2Proof.Machine

/-! The effect of a frame at its end (R147, R148, R150, R151). -/

/-- An answer's reply stands in the seat's pending reply (R149). -/
def Answer.placed (a : Answer) (n : SeatId) (code : Byte) : State := a.state.placeReply n code a.result a.items

/-- Every seat's pending reply is emptied (R153). -/
def State.emptyReplies (s : State) : State :=
  { s with seats := Vector.ofFn fun n => { s.seats[n] with reply := none } }

/-- A discarded frame's effect (R147): FRAME_ERROR in a seat target's pending reply, with the command code received, or
0x00 when the frame ended before one (R149); nothing for the broadcast address. -/
def State.frameError (s : State) (target : Target) (bytes : List Byte) : State :=
  match target with
  | .seat n => s.placeReply n (bytes.headD 0) .frameError []
  | .broadcast => s

/-- The effect of a write frame at its end, by the command that it spells: taken at its seat and answered, taken at the
broadcast address, or discarded (R147, R148, R151). -/
def State.frameEffect (s : State) (c : Instr) : State :=
  match c with
  | .move f args => (s.answerMove f.seat args).placed f.seat Code.move
  | .renew f args => (s.answerRenew f.seat args).placed f.seat Code.renew
  | .stop f args => (s.answerStop f.seat args).placed f.seat Code.stop
  | .global f args => (s.answerGlobal f.seat args).placed f.seat Code.global
  | .clear f args => (s.answerClear f.seat args).placed f.seat Code.clear
  | .allStop _ (.seat n) _ args => (s.answerAllStop n args).placed n Code.allStop
  | .allStop _ .broadcast _ args => s.broadcastAllStop args
  | .readClosure f args => (s.answerReadClosure args).placed f.seat Code.readClosure
  | .readOutcome f args => (s.answerReadOutcome args).placed f.seat Code.readOutcome
  | .readStats f args => (s.answerReadStats args).placed f.seat Code.readStats
  | .clearStats f args => (s.answerClearStats f.seat args).placed f.seat Code.clearStats
  | .readProfile f args => (s.answerReadProfile args).placed f.seat Code.readProfile
  | .writeProfileZone f args => (s.answerWriteProfileZone f.seat args).placed f.seat Code.writeProfileZone
  | .markLearned f args => (s.answerMarkLearned f.seat args).placed f.seat Code.markLearned
  | .readSetting f args => (s.answerReadSetting args).placed f.seat Code.readSetting
  | .readDeviceSetting f _ id => (s.readDevice id).placed f.seat Code.readSetting
  | .readSlotState f _ => s.answerReadSlotState.placed f.seat Code.readSetting
  | .writeSetting f args => (s.answerWriteSetting f.seat args).placed f.seat Code.writeSetting
  | .writeDeviceSetting f _ id v => (s.writeSupplySetting f.seat id v.toNat).placed f.seat Code.writeSetting
  | .writeTRet f _ v => (s.writeRetention f.seat v.toNat).placed f.seat Code.writeSetting
  | .readSeatRecord f args => (s.answerReadSeatRecord args).placed f.seat Code.readSeatRecord
  | .writeSeatRecord f args => (s.answerWriteSeatRecord f.seat args).placed f.seat Code.writeSeatRecord
  | .readWords f args => (s.answerReadWords args).placed f.seat Code.readWords
  | .writeWord f args => (s.answerWriteWord f.seat args).placed f.seat Code.writeWord
  | .setBits f args => (s.answerSetBits f.seat args).placed f.seat Code.setBits
  | .clearBits f args => (s.answerClearBits f.seat args).placed f.seat Code.clearBits
  | .compareAndWrite f args => (s.answerCompareAndWrite f.seat args).placed f.seat Code.compareAndWrite
  | .takeNotice f args => (s.answerTakeNotice f.seat args).placed f.seat Code.takeNotice
  | .readSeatStatus f args => (s.answerReadSeatStatus f.seat args).placed f.seat Code.readSeatStatus
  | .commit f args => (s.answerCommit f.seat args).placed f.seat Code.commit
  | .linkReset _ _ => s.emptyReplies
  | .unknownCommand f code _ => (s.refuse .unknownCommand).placed f.seat code
  | .frameDiscard _ target _ bytes => s.frameError target bytes
  | .broadcastFrameDiscarded _ _ _ _ | .readFrame _ _ | .stuckLinkRecovery _ _ | .hallEdge _ _ _ | .phaseFault _ _
  | .stallExpiry _ _ | .undrivenQuietExpiry _ _ | .brakeTimerExpiry _ _ | .quietTimerExpiry _ _ | .limitTimerExpiry _ _
  | .holdDeadlineExpiry _ _ | .queueTimeout _ _ | .currentSample _ _ _ | .supplySample _ _ | .supplyRefresh _
  | .temperatureMeasurement _ _ | .retainedWindowExpiry _ | .staleExpiry _ _ | .commitCompletion _ | .commitFailure _
  | .unparkWriteCompletion _ | .unparkWriteFailure _ | .linkQuietExpiry _ | .resetInput _ _ | .coldStart _ _ _ _
  | .startUpLoadEnd _ | .powerLoss _ | .frameNotAcknowledged _ _ _ => s

/-- The reply that a read frame at a seat sends (R150): the pending reply, or a seat status reply composed for an empty
slot, which is sent and not placed (log entry 11). -/
def State.replySent (s : State) (n : SeatId) : Reply :=
  match s.seats[n].reply with
  | some r => r
  | none =>
    { result := .accepted, command := Code.readSeatStatus, overwritten := false, items := s.statusItems n }

/-- The reply that a read frame in progress at a seat is sending. -/
def Link.sendingAt (l : Link) (n : SeatId) : Option Reply :=
  match l.receiver with
  | .reading m _ => if m = n then l.sending else none
  | .idle | .address | .writing _ _ _ | .passive => none

/-- The reply stands complete at the read's address (R150): the one being sent already, or the one that the seat sends;
composing a status reply sets the loss count to 0 (R133). -/
def State.openReply (s : State) (n : SeatId) : State :=
  match s.link.sendingAt n with
  | some _ => s
  | none =>
    let composed := if s.seats[n].reply.isNone then s.clearLoss n else s
    composed.modLink fun l => { l with sending := some (s.replySent n) }

/-- The bytes that the part sends in a read frame (R150): as many of the reply's as the controller clocked, then 0xFF
for each byte beyond its check byte. -/
def sentBytes (reply : List Byte) (sent : Nat) : List Byte :=
  reply.take sent ++ List.replicate (sent - reply.length) 0xFF

/-- `sent` bytes of the open reply have been sent (R150). -/
def State.sendBytes (s : State) (sent : Nat) : State :=
  match s.link.sending with
  | some r => s.modLink fun l => { l with lastRead := sentBytes r.frame sent }
  | none => s

/-- A reply whose check byte has been sent is consumed at the end of the read frame (R150). -/
def State.consumeReply (s : State) (n : SeatId) (sent : Nat) : State :=
  match s.link.sending with
  | some r => if r.frame.length ≤ sent then s.modSeat n fun x => { x with reply := none } else s
  | none => s

/-- The effect of a read frame at its end (R150): its reply stands complete at its address, `sent` bytes have been sent,
and it is consumed when its check byte is one of them. -/
def State.readEffect (s : State) (n : SeatId) (sent : Nat) : State :=
  ((s.openReply n).sendBytes sent).consumeReply n sent

/-! Starts (R146). -/

/-- A frame that a command reports: a write frame with its bytes so far, a read frame with the bytes sent so far, or a
frame that the part does not acknowledge. -/
inductive Heard where
  | write (target : Target) (bytes : List Byte)
  | read (seat : SeatId) (sent : Nat)
  | other
  deriving DecidableEq, Repr

/-- Whether a reported frame is the one in progress, further on: the same target and the bytes received before, or the
same seat and no fewer bytes sent (log entry 4). -/
def Link.continues (l : Link) (heard : Heard) : Bool :=
  match l.receiver, heard with
  | .writing t before _, .write target bytes => decide (t = target) && before.isPrefixOf bytes
  | .reading m before, .read n sent => decide (m = n) && decide (before ≤ sent)
  | _, _ => false

/-- The receiver has left the frame in progress for the address of the next one (R146). -/
def State.awaitAddress (s : State) : State := s.modLink fun l => { l with receiver := .address, sending := none }

/-- The start of a reported frame ends another frame in progress as a stop would, and the receiver enters ADDRESS (R146):
a write frame is taken or discarded (R147), a read frame's reply is consumed or stays (R150). During the start-up load
every address is refused and no frame is in progress. -/
def State.endOther (s : State) (heard : Heard) : State :=
  if s.loading || s.link.continues heard then s
  else match s.link.receiver with
    | .writing target bytes discard =>
      (if discard then s.frameError target bytes
       else s.frameEffect (decodeWriteFrame 0 target .repeatedStart bytes)).awaitAddress
    | .reading n sent => (s.readEffect n sent).awaitAddress
    | .idle | .address | .passive => s

/-- Whether a reported frame's start has not been seen before: the receiver does not await its address, and the frame is
not the one in progress. -/
def Link.startsAfresh (l : Link) (heard : Heard) : Bool := decide (l.receiver ≠ .address) && !l.continues heard

/-! What every frame does. -/

/-- A frame is on the link and has not ended: the receiver's state so far, the 35 ms timer restarted (R152), the
acknowledge bits given so far; `fresh` says that its start had not been seen before, which restarts the link-quiet timer
(R159). -/
def State.frameUnderWay (s : State) (fresh : Bool) (receiver : Receiver) (acks : List Bool) : State :=
  s.modLink fun l =>
    { l with
      receiver := receiver
      quietTimer := if fresh then some (s.now + Config.linkQuiet) else l.quietTimer
      stuckTimer := s.now + Config.linkStuck
      lastAcks := acks }

/-- A frame whose address the part acknowledges, outside the start-up load, where its address is refused (R146): its
start wakes the part (R160) and ends another frame in progress, it is taken whole at its end, and the receiver leaves
it. -/
def State.onFrame (s : State) (dt : Nat) (heard : Heard) (fin : FrameEnd) (acks : List Bool) (act : State → State) :
    State :=
  let t := s.advance dt
  if !t.powered then t
  else if t.loading then t.frameSeen (receiverAfter fin) [false]
  else ((act (t.wake.endOther heard)).frameSeen (receiverAfter fin) acks).sleepTest

/-- A frame whose address the part acknowledges, so far received, with the receiver's state so far (R146): its start
wakes the part (R160) and ends another frame in progress. During the start-up load its address is refused, and the
receiver is PASSIVE. -/
def State.onFrameUnderWay (s : State) (dt : Nat) (heard : Heard) (receiver : Receiver) (acks : List Bool)
    (act : State → State) : State :=
  let t := s.advance dt
  let fresh := t.link.startsAfresh heard
  if !t.powered then t
  else if t.loading then t.frameUnderWay fresh .passive [false]
  else (act (t.wake.endOther heard)).frameUnderWay fresh receiver acks

/-- A write frame at the broadcast address, all its bytes acknowledged (R147, R151). -/
def State.broadcastCommand (s : State) (dt : Nat) (fin : FrameEnd) (code : Byte) (args : List Byte)
    (act : State → State) : State :=
  s.onFrame dt (.write .broadcast (encodeFrame code args)) fin (List.replicate (args.length + 4) true) act

/-- A command taken at a seat (R148): its answer's reply goes to the seat's pending reply (R149). The part acknowledged
the address, code, length, argument and check bytes (R147). -/
def State.seatCommand (s : State) (f : SeatFrame) (code : Byte) (args : List Byte) (body : State → Answer) : State :=
  s.onFrame f.dt (.write (.seat f.seat) (encodeFrame code args)) f.fin (List.replicate (args.length + 4) true) fun t =>
    (body t).placed f.seat code

end Sys2Proof.Machine
end

