-- ==== Sys2Proof/Machine/LinkCommands.lean ====
section
/-! DEFINITION. The commands taken at a seat (R148): each is the frame that carries it, with the answer that the rule
that owns the command gives. -/
namespace Sys2Proof.Machine

/-- MOVE (R86). -/
def execMove (f : SeatFrame) (args : List Byte) (s : State) : Host.Outcome State Fault Refusal :=
  .next (s.seatCommand f Code.move args fun t => t.answerMove f.seat args)

/-- RENEW (R94). -/
def execRenew (f : SeatFrame) (args : List Byte) (s : State) : Host.Outcome State Fault Refusal :=
  .next (s.seatCommand f Code.renew args fun t => t.answerRenew f.seat args)

/-- STOP (R95). -/
def execStop (f : SeatFrame) (args : List Byte) (s : State) : Host.Outcome State Fault Refusal :=
  .next (s.seatCommand f Code.stop args fun t => t.answerStop f.seat args)

/-- GLOBAL (R96). -/
def execGlobal (f : SeatFrame) (args : List Byte) (s : State) : Host.Outcome State Fault Refusal :=
  .next (s.seatCommand f Code.global args fun t => t.answerGlobal f.seat args)

/-- CLEAR (R98). -/
def execClear (f : SeatFrame) (args : List Byte) (s : State) : Host.Outcome State Fault Refusal :=
  .next (s.seatCommand f Code.clear args fun t => t.answerClear f.seat args)

/-- ALL_STOP (R97), through a seat or the broadcast address (R151). -/
def execAllStop (dt : Nat) (target : Target) (fin : FrameEnd) (args : List Byte) (s : State) :
    Host.Outcome State Fault Refusal :=
  .next
    (match target with
     | .seat n =>
       s.seatCommand { dt := dt, seat := n, fin := fin } Code.allStop args fun t => t.answerAllStop n args
     | .broadcast => s.broadcastCommand dt fin Code.allStop args fun t => t.broadcastAllStop args)

/-- READ_CLOSURE (R20). -/
def execReadClosure (f : SeatFrame) (args : List Byte) (s : State) : Host.Outcome State Fault Refusal :=
  .next (s.seatCommand f Code.readClosure args fun t => t.answerReadClosure args)

/-- READ_OUTCOME (R138). -/
def execReadOutcome (f : SeatFrame) (args : List Byte) (s : State) : Host.Outcome State Fault Refusal :=
  .next (s.seatCommand f Code.readOutcome args fun t => t.answerReadOutcome args)

/-- READ_STATS (R143). -/
def execReadStats (f : SeatFrame) (args : List Byte) (s : State) : Host.Outcome State Fault Refusal :=
  .next (s.seatCommand f Code.readStats args fun t => t.answerReadStats args)

/-- CLEAR_STATS (R144). -/
def execClearStats (f : SeatFrame) (args : List Byte) (s : State) : Host.Outcome State Fault Refusal :=
  .next (s.seatCommand f Code.clearStats args fun t => t.answerClearStats f.seat args)

/-- READ_PROFILE (R56). -/
def execReadProfile (f : SeatFrame) (args : List Byte) (s : State) : Host.Outcome State Fault Refusal :=
  .next (s.seatCommand f Code.readProfile args fun t => t.answerReadProfile args)

/-- WRITE_PROFILE_ZONE (R57). -/
def execWriteProfileZone (f : SeatFrame) (args : List Byte) (s : State) : Host.Outcome State Fault Refusal :=
  .next (s.seatCommand f Code.writeProfileZone args fun t => t.answerWriteProfileZone f.seat args)

/-- MARK_LEARNED (R58). -/
def execMarkLearned (f : SeatFrame) (args : List Byte) (s : State) : Host.Outcome State Fault Refusal :=
  .next (s.seatCommand f Code.markLearned args fun t => t.answerMarkLearned f.seat args)

/-- READ_SETTING (R4). -/
def execReadSetting (f : SeatFrame) (args : List Byte) (s : State) : Host.Outcome State Fault Refusal :=
  .next (s.seatCommand f Code.readSetting args fun t => t.answerReadSetting args)

/-- READ_DEVICE_SETTING (R108). -/
def execReadDeviceSetting (f : SeatFrame) (closure : Byte) (id : DeviceSetting) (s : State) :
    Host.Outcome State Fault Refusal :=
  .next (s.seatCommand f Code.readSetting [closure, id.id] fun t => t.readDevice id)

/-- READ_SLOT_STATE (R109). -/
def execReadSlotState (f : SeatFrame) (closure : Byte) (s : State) : Host.Outcome State Fault Refusal :=
  .next (s.seatCommand f Code.readSetting [closure, slotStateId] fun t => t.answerReadSlotState)

/-- WRITE_SETTING (R2). -/
def execWriteSetting (f : SeatFrame) (args : List Byte) (s : State) : Host.Outcome State Fault Refusal :=
  .next (s.seatCommand f Code.writeSetting args fun t => t.answerWriteSetting f.seat args)

/-- WRITE_DEVICE_SETTING (R108). -/
def execWriteDeviceSetting (f : SeatFrame) (closure : Byte) (id : SupplySetting) (value : BitVec 16) (s : State) :
    Host.Outcome State Fault Refusal :=
  .next (s.seatCommand f Code.writeSetting (closure :: (DeviceSetting.supply id).id :: bytesOf16 value) fun t =>
    t.writeSupplySetting f.seat id value.toNat)

/-- WRITE_T_RET (R127). -/
def execWriteTRet (f : SeatFrame) (closure : Byte) (value : BitVec 16) (s : State) :
    Host.Outcome State Fault Refusal :=
  .next (s.seatCommand f Code.writeSetting (closure :: DeviceSetting.tRet.id :: bytesOf16 value) fun t =>
    t.writeRetention f.seat value.toNat)

/-- READ_SEAT_RECORD (R122). -/
def execReadSeatRecord (f : SeatFrame) (args : List Byte) (s : State) : Host.Outcome State Fault Refusal :=
  .next (s.seatCommand f Code.readSeatRecord args fun t => t.answerReadSeatRecord args)

/-- WRITE_SEAT_RECORD (R122). -/
def execWriteSeatRecord (f : SeatFrame) (args : List Byte) (s : State) : Host.Outcome State Fault Refusal :=
  .next (s.seatCommand f Code.writeSeatRecord args fun t => t.answerWriteSeatRecord f.seat args)

/-- READ_WORDS (R125). -/
def execReadWords (f : SeatFrame) (args : List Byte) (s : State) : Host.Outcome State Fault Refusal :=
  .next (s.seatCommand f Code.readWords args fun t => t.answerReadWords args)

/-- WRITE_WORD (R124). -/
def execWriteWord (f : SeatFrame) (args : List Byte) (s : State) : Host.Outcome State Fault Refusal :=
  .next (s.seatCommand f Code.writeWord args fun t => t.answerWriteWord f.seat args)

/-- SET_BITS (R124). -/
def execSetBits (f : SeatFrame) (args : List Byte) (s : State) : Host.Outcome State Fault Refusal :=
  .next (s.seatCommand f Code.setBits args fun t => t.answerSetBits f.seat args)

/-- CLEAR_BITS (R124). -/
def execClearBits (f : SeatFrame) (args : List Byte) (s : State) : Host.Outcome State Fault Refusal :=
  .next (s.seatCommand f Code.clearBits args fun t => t.answerClearBits f.seat args)

/-- COMPARE_AND_WRITE (R124). -/
def execCompareAndWrite (f : SeatFrame) (args : List Byte) (s : State) : Host.Outcome State Fault Refusal :=
  .next (s.seatCommand f Code.compareAndWrite args fun t => t.answerCompareAndWrite f.seat args)

/-- TAKE_NOTICE (R132). -/
def execTakeNotice (f : SeatFrame) (args : List Byte) (s : State) : Host.Outcome State Fault Refusal :=
  .next (s.seatCommand f Code.takeNotice args fun t => t.answerTakeNotice f.seat args)

/-- READ_SEAT_STATUS (R133). -/
def execReadSeatStatus (f : SeatFrame) (args : List Byte) (s : State) : Host.Outcome State Fault Refusal :=
  .next (s.seatCommand f Code.readSeatStatus args fun t => t.answerReadSeatStatus f.seat args)

/-- COMMIT (R156). -/
def execCommit (f : SeatFrame) (args : List Byte) (s : State) : Host.Outcome State Fault Refusal :=
  .next (s.seatCommand f Code.commit args fun t => t.answerCommit f.seat args)

end Sys2Proof.Machine
end

