-- ==== Sys2Proof/Machine/LinkEvents.lean ====
section
/-! DEFINITION. The link events that are no commands of the catalogue: LINK_RESET, UNKNOWN_COMMAND, FRAME_DISCARD,
READ_FRAME, STUCK_LINK_RECOVERY, FRAME_NOT_ACKNOWLEDGED, BROADCAST_FRAME_DISCARDED. -/
namespace Sys2Proof.Machine

/-- LINK_RESET (R153): every pending reply emptied, nothing else changed. -/
def execLinkReset (dt : Nat) (fin : FrameEnd) (s : State) : Host.Outcome State Fault Refusal :=
  .next (s.broadcastCommand dt fin Code.linkReset [] State.emptyReplies)

/-- UNKNOWN_COMMAND (R148, operation 1): refused UNKNOWN_COMMAND. -/
def execUnknownCommand (f : SeatFrame) (code : Byte) (args : List Byte) (s : State) :
    Host.Outcome State Fault Refusal :=
  .next (s.seatCommand f code args fun t => t.refuse .unknownCommand)

/-- FRAME_DISCARD (R147). A write frame so far received stands in WRITING with its target, its bytes and its discard
mark, which the first byte not acknowledged sets (R146). -/
def execFrameDiscard (dt : Nat) (target : Target) (ended : Option FrameEnd) (bytes : List Byte) (s : State) :
    Host.Outcome State Fault Refusal :=
  let acks := frameAcks bytes
  .next
    (match ended with
     | some fin => s.onFrame dt (.write target bytes) fin (true :: acks) fun t => t.frameError target bytes
     | none =>
       s.onFrameUnderWay dt (.write target bytes) (.writing target bytes (acks.any (!·))) (true :: acks) fun t => t)

/-- READ_FRAME (R150): its reply stands complete at its address and is consumed at its end, when its check byte has been
sent. A read frame that has not ended stands in READING (R146). -/
def execReadFrame (f : ReadSpan) (sent : Nat) (s : State) : Host.Outcome State Fault Refusal :=
  .next
    (match f.ended with
     | some fin => s.onFrame f.dt (.read f.seat sent) fin [true] fun t => t.readEffect f.seat sent
     | none =>
       s.onFrameUnderWay f.dt (.read f.seat sent) (.reading f.seat sent) [true] fun t =>
         (t.openReply f.seat).sendBytes sent)

/-- The frame in progress is cut off (R152): a write frame is discarded, with FRAME_ERROR at a seat; a read frame is
ended with its reply in the slot. -/
def State.cutFrame (s : State) : State :=
  match s.link.receiver with
  | .writing target bytes _ => s.frameError target bytes
  | .idle | .address | .reading _ _ | .passive => s

/-- Stuck-link recovery (R152): the frame in progress is cut off, the receiver returns to IDLE, and the timer starts
again. -/
def State.recoverLink (s : State) : State :=
  s.cutFrame.modLink fun l => { l with receiver := .idle, sending := none, stuckTimer := s.now + Config.linkStuck }

/-- Neither line has changed for some µs: the 35 ms timer was restarted no earlier than by the change before them, which
may be one that no frame shows (R152; log entry 25). -/
def State.linesUnchanged (s : State) (since : Nat) : State :=
  s.modLink fun l => { l with stuckTimer := max l.stuckTimer (s.now + Config.linkStuck - since) }

/-- STUCK_LINK_RECOVERY (R152): a line is held low and neither has changed for the time given; the recovery is performed
when that makes the 35 ms timer due. In sleep every timer is stopped (R159). -/
def execStuckLinkRecovery (dt : Nat) (held : HeldLine) (s : State) : Host.Outcome State Fault Refusal :=
  .next (s.onEvent dt fun t =>
    let u := t.linesUnchanged held.unchanged
    if u.link.stuckTimer ≤ u.now then u.recoverLink else u)

/-- Whether the part acknowledges an address byte (R146). -/
def State.acknowledges (s : State) (address : Byte) : Bool :=
  !s.loading && decide (addressedBy s.link.seatBase address ≠ .other)

/-- Whether a frame with this address byte is one that the part acknowledges now: the frame that holds the receiver
PASSIVE is not (R146). -/
def State.takesAddress (s : State) (address : Option Byte) (ended : Option FrameEnd) : Bool :=
  address.any s.acknowledges && !(decide (s.link.receiver = .passive) && ended.isSome)

/-- FRAME_NOT_ACKNOWLEDGED (R146): from its start to the end of its address byte the receiver is in ADDRESS, then PASSIVE
until the frame's end, which returns it to IDLE or, by a repeated start, to ADDRESS. Its start wakes the part, ends the
frame in progress and restarts the link-quiet timer. With no address and no end it is a start or repeated start alone. An
address that the part acknowledges makes no such frame: nothing but time passes (log entry 15). -/
def execFrameNotAcknowledged (dt : Nat) (address : Option Byte) (ended : Option FrameEnd) (s : State) :
    Host.Outcome State Fault Refusal :=
  let t := s.advance dt
  .next
    (if !t.powered || t.takesAddress address ended then t
     else
       let u := t.wake.endOther .other
       match address, ended with
       | none, none => u.frameUnderWay true .address []
       | some _, none => u.frameUnderWay (t.link.startsAfresh .other) .passive [false]
       | none, some fin => (u.frameSeen (receiverAfter fin) []).sleepTest
       | some _, some fin => (u.frameSeen (receiverAfter fin) [false]).sleepTest)

/-- BROADCAST_FRAME_DISCARDED (R151): no reply, nothing changed. -/
def execBroadcastFrameDiscarded (dt : Nat) (code : Byte) (args : List Byte) (fin : FrameEnd) (s : State) :
    Host.Outcome State Fault Refusal :=
  .next (s.broadcastCommand dt fin code args fun t => t)

end Sys2Proof.Machine
end

