-- ==== Sys2Proof/Machine/PowerEvents.lean ====
section
/-! DEFINITION. Power and reset: RESET_INPUT, COLD_START, START_UP_LOAD_END, POWER_LOSS. -/
namespace Sys2Proof.Machine

/-- A store operation in flight is ended by the reset input or the loss of power: the image-valid marker is left clear,
and no notice is posted (R157, R158). -/
def State.cutStore (s : State) : State :=
  match s.store.job with
  | .idle => s
  | .committing _ park _ =>
    { s with
      store := { s.store with job := .idle, image := s.store.image.torn park s.freeCount }
      freeCount := s.freeCount + 1 }
  | .unparking =>
    { s with
      store := { s.store with job := .idle, image := s.store.image.halfUnparked s.freeCount }
      freeCount := s.freeCount + 1 }

/-- The image a start-up load reads: the retained one when its image-valid marker is set, else the blank-store defaults
(R161, operation 3). -/
def Image.atStart (x : Image) : Image := if x.valid then x else {}

/-- The travel counter after a cold start (R21): the stored position and validity when both markers are set, else 0 and
LOST; every other part afresh, the phase state the first sample. -/
def Counter.cold (image : Image) (k : ClosureId) (a b : Bool) : Counter :=
  let trusted := image.valid && image.parked
  { position := if trusted then image.positions[k].pos else 0
    validity := if trusted then image.positions[k].validity else .lost
    phaseA := a
    phaseB := b }

/-- The travel counter after the reset input (R21): position, phases, last direction and undriven burst kept; LOST when
the restored polarity differs from the one in use. -/
def Counter.reset (x : Counter) (samePolarity : Bool) : Counter :=
  { x with
    validity := if samePolarity then x.validity else .lost
    stepRecord := none
    stallTimer := none
    dirFaultRun := 0
    phaseFaults := 0
    overspeed := false }

/-- A closure at the end of a start-up load's operation 5: description, profile and statistics from the image or blank,
its counter given, every other block at its reset values; the position limited to the restored travel (R161). -/
def Image.closure (x : Image) (k : ClosureId) (counter : Counter) : ClosureState :=
  let y := x.atStart
  let c : ClosureState :=
    { desc := y.descriptions[k]
      counter := counter
      profile := { status := y.profiles[k].status, zones := y.profiles[k].zones, dirty := !x.valid }
      stats := { counters := y.stats[k] } }
  c.limitPosition

/-- The start-up load begins (R161, operations 1 to 6, at one instant: log entry 6), with the travel counters given; the
link-quiet timer and the 35 ms timer start with it (log entries 19 and 25), and the unpark pending flag, which R117 gives
at the load's end alone, is clear until then (DESIGN CHOICE, log entry 6). Every block not named keeps nothing of its
state: the words, the window, the queues, the contexts, the verdict units, the last outcomes and the pending replies
take their reset values. -/
def State.startUp (s : State) (straps : Fin 4) (counters : ClosureId → Counter) : State :=
  let image := s.store.image
  let y := image.atStart
  { pending := s.pending
    now := s.now
    powered := true
    loading := true
    asleepSince := none
    closures := Vector.ofFn fun k => image.closure k (counters k)
    seats := Vector.ofFn fun n : SeatId => { record := y.records[n] }
    front := FrontEnd.atStart
    arbiter := { effective := y.settings.slots }
    settings := y.settings
    words := Vector.replicate 6 0
    window := none
    link :=
      { receiver := .idle
        sending := none
        seatBase := 0x30 + 4 * straps.val
        quietTimer := some (s.now + Config.linkQuiet)
        stuckTimer := s.now + Config.linkStuck
        lastRead := []
        lastAcks := [] }
    store := { image := image, job := .idle, source := if image.valid then .restored else .defaults }
    deferred := []
    freeCount := s.freeCount }

/-- The travel counters at a cold start: the first samples of the phases, closure k at bit k (R21). -/
def State.coldCounters (s : State) (phasesA phasesB : Byte) (k : ClosureId) : Counter :=
  Counter.cold s.store.image k (hasMember phasesA k.val) (hasMember phasesB k.val)

/-- The travel counters at the reset input (R21): the polarity in use is compared with the one that the load restores. -/
def State.resetCounters (s : State) (k : ClosureId) : Counter :=
  s.closures[k].counter.reset
    (decide (s.store.image.atStart.descriptions[k].polarity = s.closures[k].desc.polarity))

/-- RESET_INPUT (R161): a sleeping part wakes (R160), a store operation in flight ends, and the start-up load begins,
again from its beginning when one is in progress; notices that fell due in it are dropped (log entry 6). -/
def execResetInput (dt : Nat) (straps : Fin 4) (s : State) : Host.Outcome State Fault Refusal :=
  let t := s.advance dt
  .next
    (if !t.powered then t
     else
       let u := t.wake.cutStore
       u.startUp straps u.resetCounters)

/-- COLD_START (R161): power had been lost, which ends a store operation in flight, and the start-up load begins. -/
def execColdStart (dt : Nat) (straps : Fin 4) (phasesA phasesB : Byte) (s : State) : Host.Outcome State Fault Refusal :=
  let t := (s.advance dt).cutStore
  .next (t.startUp straps (t.coldCounters phasesA phasesB))

/-- A notice that fell due in the load is posted at its end (R130); an undriven burst may then ask for the unpark write
(R158). -/
def State.postDue (s : State) : DueNotice → State
  | .movedUndriven k => s.movedUndriven k
  | .supplyLowEntered mV => s.postTo (fun _ => true) (.supplyLowEntered mV)
  | .supplyRecovered mV => s.postTo (fun _ => true) (.supplyRecovered mV)

/-- START_UP_LOAD_END (R161, operations 6 and 7): unpark pending is set when the image read holds both markers (R117),
the due notices are posted in order, and the part acknowledges its addresses. -/
def execStartUpLoadEnd (dt : Nat) (s : State) : Host.Outcome State Fault Refusal :=
  .next (s.onEvent dt fun t =>
    if t.loading then
      let image := t.store.image
      let ready :=
        { t with
          loading := false
          deferred := []
          arbiter := { t.arbiter with unparkPending := image.valid && image.parked } }
      t.deferred.foldl State.postDue ready
    else t)

/-- POWER_LOSS (R157, R158): a store operation in flight ends with the image-valid marker clear, and the part has no
power: nothing but the image is left (R155), and no line is driven. DESIGN CHOICE (log entry 7): what a part without power
holds besides is written as its reset values, which the next cold start replaces. -/
def execPowerLoss (dt : Nat) (s : State) : Host.Outcome State Fault Refusal :=
  let t := (s.advance dt).cutStore
  .next
    (if !t.powered then t
     else { t.startUp 0 (t.coldCounters 0 0) with powered := false, loading := false })

end Sys2Proof.Machine
end

