-- ==== Sys2Proof/Machine/Dispatch.lean ====
section
/-! DEFINITION. One arm for each command of spec/opcode_table.json, in the table's order. -/
namespace Sys2Proof.Machine

/-- The effect of a command on everything but the queue. -/
def exec (i : Instr) (s : State) : Host.Outcome State Fault Refusal :=
  match i with
  | .move f args => Sys2Proof.Machine.execMove f args s
  | .renew f args => Sys2Proof.Machine.execRenew f args s
  | .stop f args => Sys2Proof.Machine.execStop f args s
  | .global f args => Sys2Proof.Machine.execGlobal f args s
  | .clear f args => Sys2Proof.Machine.execClear f args s
  | .allStop dt target fin args => Sys2Proof.Machine.execAllStop dt target fin args s
  | .readClosure f args => Sys2Proof.Machine.execReadClosure f args s
  | .readOutcome f args => Sys2Proof.Machine.execReadOutcome f args s
  | .readStats f args => Sys2Proof.Machine.execReadStats f args s
  | .clearStats f args => Sys2Proof.Machine.execClearStats f args s
  | .readProfile f args => Sys2Proof.Machine.execReadProfile f args s
  | .writeProfileZone f args => Sys2Proof.Machine.execWriteProfileZone f args s
  | .markLearned f args => Sys2Proof.Machine.execMarkLearned f args s
  | .readSetting f args => Sys2Proof.Machine.execReadSetting f args s
  | .readDeviceSetting f closure id => Sys2Proof.Machine.execReadDeviceSetting f closure id s
  | .readSlotState f closure => Sys2Proof.Machine.execReadSlotState f closure s
  | .writeSetting f args => Sys2Proof.Machine.execWriteSetting f args s
  | .writeDeviceSetting f closure id value => Sys2Proof.Machine.execWriteDeviceSetting f closure id value s
  | .writeTRet f closure value => Sys2Proof.Machine.execWriteTRet f closure value s
  | .readSeatRecord f args => Sys2Proof.Machine.execReadSeatRecord f args s
  | .writeSeatRecord f args => Sys2Proof.Machine.execWriteSeatRecord f args s
  | .readWords f args => Sys2Proof.Machine.execReadWords f args s
  | .writeWord f args => Sys2Proof.Machine.execWriteWord f args s
  | .setBits f args => Sys2Proof.Machine.execSetBits f args s
  | .clearBits f args => Sys2Proof.Machine.execClearBits f args s
  | .compareAndWrite f args => Sys2Proof.Machine.execCompareAndWrite f args s
  | .takeNotice f args => Sys2Proof.Machine.execTakeNotice f args s
  | .readSeatStatus f args => Sys2Proof.Machine.execReadSeatStatus f args s
  | .commit f args => Sys2Proof.Machine.execCommit f args s
  | .linkReset dt fin => Sys2Proof.Machine.execLinkReset dt fin s
  | .unknownCommand f code args => Sys2Proof.Machine.execUnknownCommand f code args s
  | .frameDiscard dt target ended bytes => Sys2Proof.Machine.execFrameDiscard dt target ended bytes s
  | .readFrame f sent => Sys2Proof.Machine.execReadFrame f sent s
  | .stuckLinkRecovery dt held => Sys2Proof.Machine.execStuckLinkRecovery dt held s
  | .hallEdge dt k ph => Sys2Proof.Machine.execHallEdge dt k ph s
  | .phaseFault dt k => Sys2Proof.Machine.execPhaseFault dt k s
  | .stallExpiry dt k => Sys2Proof.Machine.execStallExpiry dt k s
  | .undrivenQuietExpiry dt k => Sys2Proof.Machine.execUndrivenQuietExpiry dt k s
  | .brakeTimerExpiry dt k => Sys2Proof.Machine.execBrakeTimerExpiry dt k s
  | .quietTimerExpiry dt k => Sys2Proof.Machine.execQuietTimerExpiry dt k s
  | .limitTimerExpiry dt k => Sys2Proof.Machine.execLimitTimerExpiry dt k s
  | .holdDeadlineExpiry dt k => Sys2Proof.Machine.execHoldDeadlineExpiry dt k s
  | .queueTimeout dt k => Sys2Proof.Machine.execQueueTimeout dt k s
  | .currentSample dt k mA => Sys2Proof.Machine.execCurrentSample dt k mA s
  | .supplySample dt mV => Sys2Proof.Machine.execSupplySample dt mV s
  | .supplyRefresh dt => Sys2Proof.Machine.execSupplyRefresh dt s
  | .temperatureMeasurement dt celsius => Sys2Proof.Machine.execTemperatureMeasurement dt celsius s
  | .retainedWindowExpiry dt => Sys2Proof.Machine.execRetainedWindowExpiry dt s
  | .staleExpiry dt n => Sys2Proof.Machine.execStaleExpiry dt n s
  | .commitCompletion dt => Sys2Proof.Machine.execCommitCompletion dt s
  | .commitFailure dt => Sys2Proof.Machine.execCommitFailure dt s
  | .unparkWriteCompletion dt => Sys2Proof.Machine.execUnparkWriteCompletion dt s
  | .unparkWriteFailure dt => Sys2Proof.Machine.execUnparkWriteFailure dt s
  | .linkQuietExpiry dt => Sys2Proof.Machine.execLinkQuietExpiry dt s
  | .resetInput dt straps => Sys2Proof.Machine.execResetInput dt straps s
  | .coldStart dt straps phasesA phasesB => Sys2Proof.Machine.execColdStart dt straps phasesA phasesB s
  | .startUpLoadEnd dt => Sys2Proof.Machine.execStartUpLoadEnd dt s
  | .powerLoss dt => Sys2Proof.Machine.execPowerLoss dt s
  | .frameNotAcknowledged dt address ended => Sys2Proof.Machine.execFrameNotAcknowledged dt address ended s
  | .broadcastFrameDiscarded dt code args fin => Sys2Proof.Machine.execBroadcastFrameDiscarded dt code args fin s

end Sys2Proof.Machine
end

