-- ==== Sys2Proof/Safety.lean ====
section
/-! DEFINITION. What a good state of the part is, in the terms the statements use: the laws the spec states of every
state, the part that takes commands, and the state in which a command leaves the link. -/
/-- The time from the command before to a command, which every command carries (log entry 1). -/
def Sys2Proof.Instr.dt : Sys2Proof.Instr → Nat
  | .move f _ => f.dt
  | .renew f _ => f.dt
  | .stop f _ => f.dt
  | .global f _ => f.dt
  | .clear f _ => f.dt
  | .allStop dt _ _ _ => dt
  | .readClosure f _ => f.dt
  | .readOutcome f _ => f.dt
  | .readStats f _ => f.dt
  | .clearStats f _ => f.dt
  | .readProfile f _ => f.dt
  | .writeProfileZone f _ => f.dt
  | .markLearned f _ => f.dt
  | .readSetting f _ => f.dt
  | .readDeviceSetting f _ _ => f.dt
  | .readSlotState f _ => f.dt
  | .writeSetting f _ => f.dt
  | .writeDeviceSetting f _ _ _ => f.dt
  | .writeTRet f _ _ => f.dt
  | .readSeatRecord f _ => f.dt
  | .writeSeatRecord f _ => f.dt
  | .readWords f _ => f.dt
  | .writeWord f _ => f.dt
  | .setBits f _ => f.dt
  | .clearBits f _ => f.dt
  | .compareAndWrite f _ => f.dt
  | .takeNotice f _ => f.dt
  | .readSeatStatus f _ => f.dt
  | .commit f _ => f.dt
  | .linkReset dt _ => dt
  | .unknownCommand f _ _ => f.dt
  | .frameDiscard dt _ _ _ => dt
  | .readFrame f _ => f.dt
  | .stuckLinkRecovery dt _ => dt
  | .hallEdge dt _ _ => dt
  | .phaseFault dt _ => dt
  | .stallExpiry dt _ => dt
  | .undrivenQuietExpiry dt _ => dt
  | .brakeTimerExpiry dt _ => dt
  | .quietTimerExpiry dt _ => dt
  | .limitTimerExpiry dt _ => dt
  | .holdDeadlineExpiry dt _ => dt
  | .queueTimeout dt _ => dt
  | .currentSample dt _ _ => dt
  | .supplySample dt _ => dt
  | .supplyRefresh dt => dt
  | .temperatureMeasurement dt _ => dt
  | .retainedWindowExpiry dt => dt
  | .staleExpiry dt _ => dt
  | .commitCompletion dt => dt
  | .commitFailure dt => dt
  | .unparkWriteCompletion dt => dt
  | .unparkWriteFailure dt => dt
  | .linkQuietExpiry dt => dt
  | .resetInput dt _ => dt
  | .coldStart dt _ _ _ => dt
  | .startUpLoadEnd dt => dt
  | .powerLoss dt => dt
  | .frameNotAcknowledged dt _ _ => dt
  | .broadcastFrameDiscarded dt _ _ _ => dt

namespace Sys2Proof.Machine

/-! The part at work. -/

/-- A frame is in progress: the receiver is in WRITING or READING (R146). -/
def Link.midFrame (l : Link) : Bool :=
  match l.receiver with
  | .writing _ _ _ | .reading _ _ => true
  | .idle | .address | .passive => false

/-- The part has power, its start-up load has ended, it does not sleep and no other frame is in progress: it takes
commands and events. A frame that finds another in progress ends it first (R146; LinkEvents). -/
abbrev State.Awake (s : State) : Prop :=
  s.powered = true ∧ s.loading = false ∧ s.asleepSince = none ∧ s.link.midFrame = false

/-- The frame in progress as a repeated start `dt` µs later would end it (R146). -/
def Link.endedBy (l : Link) (dt : Nat) : Option Instr :=
  match l.receiver with
  | .writing target bytes _ => some (decodeWriteFrame dt target .repeatedStart bytes)
  | .reading n sent => some (.readFrame { dt := dt, seat := n, ended := some .repeatedStart } sent)
  | .idle | .address | .passive => none

/-- The part has power, does not sleep, and has heard a start or stop on the link within the last 2 s, so that no event
of its own lets it enter sleep (R159). Its own events are taken in the start-up load as well. -/
abbrev State.Attentive (s : State) : Prop := s.powered = true ∧ s.asleepSince = none ∧ s.link.quietTimer.isSome = true

/-- The time passes; nothing else changes. -/
def State.later (s : State) (dt : Nat) : State := { s with now := s.now + dt }

/-- The state in which a frame ends at a part that is awake: the time moved on by `dt`, the receiver where the frame's
end leaves it, the link-quiet timer restarted with 2 s and the 35 ms timer with 35 ms, `acks` acknowledged (R146, R147,
R152, R159). -/
def State.afterFrame (s : State) (dt : Nat) (fin : FrameEnd) (acks : List Bool) : State :=
  { s with
    now := s.now + dt
    link :=
      { s.link with
        receiver := match fin with | .stop => .idle | .repeatedStart => .address
        sending := none
        quietTimer := some (s.now + dt + 2000000)
        stuckTimer := s.now + dt + 35000
        lastAcks := acks } }

/-- A reply stands in a seat's pending reply slot, the overwritten mark set when the slot held one (R149). -/
def State.withReply (s : State) (n : SeatId) (code : Byte) (result : Result) (items : List Byte) : State :=
  let r : Reply := { result := result, command := code, overwritten := s.seats[n].reply.isSome, items := items }
  { s with seats := s.seats.set n { s.seats[n] with reply := some r } }

/-- A command that came in a frame of `argc` arguments, all bytes acknowledged, has been answered: `s` is the state with
the command's effect, before the frame's time is counted. -/
def State.answered (s : State) (f : SeatFrame) (code : Byte) (argc : Nat) (result : Result) (items : List Byte) : State :=
  (s.afterFrame f.dt f.fin (List.replicate (argc + 4) true)).withReply f.seat code result items

/-- A command that changed more than closures and slots has been answered: the reply, the link, the clock and the queue of
commands are those of `answered`, and no other seat's reply has changed. -/
abbrev State.Answers (s t : State) (f : SeatFrame) (code : Byte) (argc : Nat) (result : Result) (items : List Byte) : Prop :=
  let u := s.answered f code argc result items
  (∀ n : SeatId, t.seats[n].reply = u.seats[n].reply) ∧ t.link = u.link ∧ t.now = u.now ∧ t.pending = u.pending

/-- One closure replaced. -/
def State.withClosure (s : State) (k : ClosureId) (c : ClosureState) : State :=
  { s with closures := s.closures.set k c }

/-- A part that slept since `since`, woken `dt` µs later: step records, accumulators and the supply window emptied, the
undriven quiet timers resumed with what they had left, the link timers started (R18, R21, R26, R160; log entry 25). -/
def State.wokenAt (s : State) (dt since : Nat) : State :=
  { s with
    asleepSince := none
    front := { s.front with window := [] }
    link := { s.link with quietTimer := some (s.now + dt + 2000000), stuckTimer := s.now + dt + 35000 }
    closures := Vector.ofFn fun k : ClosureId =>
      { s.closures[k] with
        sense := { s.closures[k].sense with isOpen := false, sum := 0, count := 0 }
        counter := { s.closures[k].counter with
          stepRecord := none
          undrivenTimer := s.closures[k].counter.undrivenTimer.map (· + (s.now + dt - since)) } } }

/-- A notice reached the seats that `chosen` names, if their queues had room, and no other seat's queue or line (R130,
R131). -/
abbrev State.Told (s t : State) (chosen : SeatId → Prop) (body : NoticeBody) (time : Nat) : Prop :=
  ∀ n : SeatId,
    (chosen n → s.seats[n].queue.length < 16 →
      t.seats[n].queue = s.seats[n].queue ++ [{ body := body, time := time }] ∧
      t.seats[n].lossCount = s.seats[n].lossCount) ∧
    (¬ chosen n →
      t.seats[n].queue = s.seats[n].queue ∧ t.seats[n].lossCount = s.seats[n].lossCount ∧
      t.seats[n].line = s.seats[n].line)

/-- The seats that hear of a move's end and of a pinch: the owner and the subscribers (R130). -/
abbrev State.Hears (s : State) (k : ClosureId) (owner n : SeatId) : Prop :=
  n = owner ∨ hasMember s.seats[n].record.subscription k.val = true

/-! Pulses and steps, spelled field by field. -/

/-- The direction of an edge of one phase (R8). -/
def ClosureState.edgeToward (c : ClosureState) (ph : Phase) : Direction :=
  if ((ph == .a) == (c.counter.phaseA == c.counter.phaseB)) == (c.desc.polarity == .normal) then .opening else .closing

/-- An edge is a rising edge of phase A. -/
abbrev ClosureState.Rising (c : ClosureState) (ph : Phase) : Prop := ph = .a ∧ c.counter.phaseA = false

/-- An edge of one phase is a counted pulse: the closure is in use, and the edge does not carry it past a limit (R8,
R10). -/
abbrev ClosureState.Counts (c : ClosureState) (ph : Phase) : Prop :=
  c.desc.cls ≠ .unused ∧ (c.edgeToward ph = .closing → -64 < c.counter.position) ∧
  (c.edgeToward ph = .opening → c.counter.position < c.desc.travel + 64)

/-- A closure after a counted pulse, before its step logic (R8, operations 1 to 5; R11, R13, R14). -/
def ClosureState.pulsedAt (c : ClosureState) (ph : Phase) (now : Nat) : ClosureState :=
  let d := c.edgeToward ph
  let turned := c.counter.lastDir.isSome && decide (c.counter.lastDir ≠ some d)
  { c with
    counter := { c.counter with
      phaseA := if ph = .a then !c.counter.phaseA else c.counter.phaseA
      phaseB := if ph = .b then !c.counter.phaseB else c.counter.phaseB
      position := if d = .opening then c.counter.position + 1 else c.counter.position - 1
      lastDir := some d
      stepRecord := if turned then none else c.counter.stepRecord
      stallTimer := if c.ctx.permit = .hold then c.counter.stallTimer else some (now + c.desc.stallUnits * 10000)
      dirFaultRun := match c.ctx.permit with
        | .hold => c.counter.dirFaultRun
        | .drive e => if e = d then 0 else c.counter.dirFaultRun + 1 }
    sense := if turned then { c.sense with isOpen := false, sum := 0, count := 0 } else c.sense }

/-- A closure whose rising edge of phase A the step record takes (R11), its accumulator opened (R22). -/
def ClosureState.edgeTaken (c : ClosureState) (now : Nat) (d : Direction) : ClosureState :=
  { c with
    counter := { c.counter with stepRecord := some { time := now, dir := d } }
    sense := { c.sense with isOpen := true, sum := 0, count := 0 } }

/-- The period and the mean current of a step that a recorded edge opened (R11, R23). -/
def ClosureState.stepMeasure (c : ClosureState) (e : StepEdge) (now : Nat) : Nat × Nat :=
  (max 200 (min 65535 (now - e.time)), if c.sense.count = 0 then c.sense.lastMean else c.sense.sum / c.sense.count)

/-- The path of a driven step (R27). -/
def ClosureState.pathToward (c : ClosureState) (d : Direction) : Path :=
  if d = .closing ∧ c.counter.validity = .valid ∧ c.profile.status = .learned ∧ c.ctx.move.map (·.kind) ≠ some .learn then
    .profile
  else .fallback

/-- The raw load of a step that ends at `pos` (R28, R30 to R34, R37). -/
def ClosureState.rawLoadAt (c : ClosureState) (d : Direction) (period current supply : Nat) (pos : Int) : Int :=
  let z := c.profile.zones[c.desc.zone (max 0 (min (c.desc.travel : Int) pos))]
  match c.pathToward d with
  | .profile =>
    blendLoad c.desc.blend (currentLoad c.desc.currentGain current z.iRef)
      (speedLoad c.desc.speedGain (excessPeriod period (expectedPeriod z supply)))
  | .fallback => (current * c.desc.currentGain / 256 : Nat)

/-- The move trace after a measured step toward `d` that ends at `pos` (R41). -/
def ClosureState.tracedAt (c : ClosureState) (d : Direction) (computed : Bool) (period current supply : Nat) (pos : Int) :
    Vector TraceEntry 64 :=
  let z := c.desc.zone (max 0 (min (c.desc.travel : Int) pos))
  let e := c.est.trace[z]
  let learns := c.ctx.move.map (·.kind) = some .learn
  if d = .closing ∧ c.counter.validity = .valid ∧ c.ctx.move.isSome = true ∧ (learns ∨ computed = true) ∧ e.count < 255 then
    c.est.trace.set z
      (if learns then
        { period := e.period + period, supply := e.supply + supply, current := e.current + current, count := e.count + 1 }
      else
        { e with
          period := e.period + min 65535 (period * supply / c.profile.zones[z].vRef)
          current := e.current + current
          count := e.count + 1 })
  else c.est.trace

/-- A driven closure after a measured step that ended at `now` (R11, R12, R22, R23, R40): `c` is the closure after the
pulse. -/
def ClosureState.measuredAt (c : ClosureState) (e : StepEdge) (now supply : Nat) (d : Direction) : ClosureState :=
  { c.edgeTaken now d with
    counter := { (c.edgeTaken now d).counter with overspeed := decide (now - e.time < 200) }
    sense := { isOpen := true, sum := 0, count := 0, lastMean := (c.stepMeasure e now).2 }
    ctx := { c.ctx with stepCount := min 65535 (c.ctx.stepCount + 1) }
    est := { c.est with minSupply := min c.est.minSupply supply } }

/-- A driven closure after a blanking step (R29). -/
def ClosureState.blankedAt (c : ClosureState) (e : StepEdge) (now supply : Nat) (d : Direction) : ClosureState :=
  let (period, current) := c.stepMeasure e now
  let x := c.measuredAt e now supply d
  { x with est := { x.est with
      blankingCount := c.est.blankingCount - 1
      trace := c.tracedAt d false period current supply c.counter.position } }

/-- The filtered load of a computed step (R35, R36). -/
def ClosureState.loadAt (c : ClosureState) (e : StepEdge) (now supply : Nat) (d : Direction) : Nat :=
  let (period, current) := c.stepMeasure e now
  filteredLoad (c.est.joined (c.pathToward d) (c.rawLoadAt d period current supply c.counter.position))

/-- A driven closure after a computed step, before its comparison (R35, R36, R38, R39, R41). -/
def ClosureState.computedAt (c : ClosureState) (e : StepEdge) (now supply : Nat) (d : Direction) : ClosureState :=
  let (period, current) := c.stepMeasure e now
  let load := c.loadAt e now supply d
  let pos := c.counter.position
  let x := c.measuredAt e now supply d
  { x with est := { x.est with
      rawList := c.est.joined (c.pathToward d) (c.rawLoadAt d period current supply pos)
      listPath := some (c.pathToward d)
      published := load
      peak := match c.est.peak with
        | some p => if p.load < load then some { load := load, pos := pos } else some p
        | none => some { load := load, pos := pos }
      trace := c.tracedAt d true period current supply pos } }

/-- A computed step that ends at `pos` is compared: every one but a closing one at a VALID position in the end band (R61),
and the steps of the reverse phase (R78). -/
abbrev ClosureState.ComparedAt (c : ClosureState) (pos : Int) : Prop :=
  (c.ctx.state = .running ∧
    (c.ctx.move.map (·.direction) = some .opening ∨ c.counter.validity = .lost ∨ (c.desc.endBand : Int) < pos)) ∨
  (c.ctx.state = .reversing ∧ c.verdict.phase = some .reverse)

/-- The step that a rising edge of phase A completes, given the closure after the pulse: the edge that opened it, in the
direction of this one (R11). -/
def ClosureState.completes (c : ClosureState) (ph : Phase) (p : ClosureState) : Option StepEdge :=
  if c.Rising ph then p.counter.stepRecord.filter fun e => decide (e.dir = c.edgeToward ph) else none

/-- `x`, which `c` has become after a pulse, once the step record has taken the edge, and the overspeed mark the step that
it completes without a measurement (R11, R12, R22). -/
def ClosureState.edgeNotedAt (c x : ClosureState) (ph : Phase) (now : Nat) : ClosureState :=
  let taken := if c.Rising ph then x.edgeTaken now (c.edgeToward ph) else x
  match c.completes ph x with
  | some e => { taken with counter := { taken.counter with overspeed := decide (now - e.time < 200) } }
  | none => taken

/-- A closure after a pulse and what its step comes to, when that is no verdict (R11, R12, R29, R38, R61, R66): an edge
that completes no step, a step against the permit, a blanking step, a step that is not compared, and one that is; `none`
at a verdict. -/
def State.steppedAt (s : State) (k : ClosureId) (ph : Phase) (now : Nat) : Option ClosureState :=
  let c := s.closures[k]
  let d := c.edgeToward ph
  let p := c.pulsedAt ph now
  match c.completes ph p with
  | none => some (c.edgeNotedAt p ph now)
  | some e =>
    if c.ctx.permit ≠ .drive d then some (c.edgeNotedAt p ph now)
    else if 0 < c.est.blankingCount then some (p.blankedAt e now s.front.reading d)
    else
      let x := p.computedAt e now s.front.reading d
      let threshold := s.threshold k d (p.pathToward d) p.counter.position
      if p.ComparedAt p.counter.position then
        if p.loadAt e now s.front.reading d ≤ threshold then
          some { x with verdict := { x.verdict with lastThreshold := threshold, confirm := 0 } }
        else if c.verdict.confirm + 1 < c.desc.confirmSteps then
          some { x with verdict := { x.verdict with lastThreshold := threshold, confirm := c.verdict.confirm + 1 } }
        else none
      else some { x with verdict := { x.verdict with confirm := 0 } }

/-- A closure at a closing verdict (R67, R72, R74, R80, R85): the record filled, the reversal count raised, REVERSING in
the brake phase with both permit lines inactive. -/
def ClosureState.reversedAt (c : ClosureState) (r : VerdictRecord) (now : Nat) : ClosureState :=
  let n := min c.desc.escapeMax (c.verdict.reversals + 1)
  let enters := decide (n = c.desc.escapeMax)
  { c with
    ctx := { c.ctx with state := .reversing, permit := .hold, holdDeadline := none }
    counter := { c.counter with stallTimer := none, dirFaultRun := 0 }
    verdict :=
      { confirm := 0, reversals := n, escape := enters, record := some r, phase := some .brake
        target := some (c.reversalTarget r.pos), brakeTimer := some (now + c.desc.brakeTime * 1000)
        lastThreshold := r.threshold }
    profile := { c.profile with escapeMark := c.profile.escapeMark || (enters && !c.verdict.escape) } }

/-! A move's stations, spelled field by field. -/

/-- A closure as entry to SETTLING leaves it (R102, operations 1 to 3; R13, R14 and R66 at the permit withdrawal). -/
def ClosureState.settledAt (c : ClosureState) (now : Nat) (reason : EndReason) (who : Option SeatId) : ClosureState :=
  { c with
    ctx := { c.ctx with
      state := .settling
      endReason := some reason
      endedBy := who
      permit := .hold
      holdDeadline := none
      quietTimer := some (now + 30000)
      limitTimer := some (now + 300000)
      longRunOn := false }
    counter := { c.counter with stallTimer := none, dirFaultRun := 0 }
    verdict := { c.verdict with confirm := 0, phase := none, target := none, brakeTimer := none } }

/-- The move of a closure whose context holds one ends and no closure waits: SETTLING, and the slot released (R102,
R107). -/
def State.moveEnded (s : State) (k : ClosureId) (now : Nat) (reason : EndReason) (who : Option SeatId) : State :=
  { s with
    closures := s.closures.set k (s.closures[k].settledAt now reason who)
    arbiter := { s.arbiter with held := s.arbiter.held.set k false } }

/-- The outcome of a removal (R104, R105). -/
def ClosureState.removal (c : ClosureState) (k : ClosureId) (m : Move) (reason : EndReason) (who : Option SeatId)
    (reading : Nat) : OutcomeRecord :=
  { closure := k, move := m, reason := reason, endedBy := who, startPos := c.counter.position,
    endPos := c.counter.position, peak := { load := 0, pos := c.counter.position }, stepCount := 0, travelTime := 0,
    minSupply := reading, verdict := none, longRunOn := false, followOnStarted := false }

/-- A closure whose QUEUED move is removed (R104, R105, R142). -/
def ClosureState.removedAt (c : ClosureState) (k : ClosureId) (m : Move) (reason : EndReason) (who : Option SeatId)
    (reading : Nat) : ClosureState :=
  { c with
    ctx := {}
    counter := { c.counter with phaseFaults := 0 }
    stats :=
      if c.desc.statsOn = true ∧ reason = .holdLapsed then
        { c.stats with counters := { c.stats.counters with lapses := min 65535 (c.stats.counters.lapses + 1) } }
      else c.stats
    lastOutcome := some (c.removal k m reason who reading) }

/-- The slot queue without a closure (R110). -/
def Arbiter.without (a : Arbiter) (k : ClosureId) : Arbiter :=
  { a with queue := a.queue.filter fun e => decide (e.closure ≠ k) }

/-- What a command that moves closures, slots and notices leaves alone: settings, words, window, store, front end and every
seat's record. -/
abbrev State.SameElsewhere (s t : State) : Prop :=
  t.settings = s.settings ∧ t.words = s.words ∧ t.window = s.window ∧ t.store = s.store ∧ t.front = s.front ∧
  ∀ n : SeatId, t.seats[n].record = s.seats[n].record

/-- One QUEUED move was removed at `now`, and its end told (R104); nothing else has changed but replies and the link. -/
abbrev State.RemovedMove (s t : State) (k : ClosureId) (m : Move) (reason : EndReason) (who : Option SeatId) (now : Nat) :
    Prop :=
  t.closures = s.closures.set k (s.closures[k].removedAt k m reason who s.front.reading) ∧
  t.arbiter = s.arbiter.without k ∧
  s.Told t (s.Hears k m.seat) (.moveEnded (s.closures[k].removal k m reason who s.front.reading)) now ∧
  s.SameElsewhere t

/-- The statistics block after a settle end (R139 to R141): `ms` is the time from the grant. A saturated run time keeps no
remainder (log entry 13). -/
def Stats.afterEnd (x : Stats) (reason : EndReason) (peak ms : Nat) : Stats :=
  let y := x.counters
  let up := fun n : Nat => min 65535 (n + 1)
  let units := y.runTime + (x.remainder + ms) / 100
  { counters :=
      { granted := up y.granted
        closed := if reason = .closed then up y.closed else y.closed
        reversals :=
          if reason = .pinchReversed ∨ reason = .stallReversed ∨ reason = .reversalBlocked then up y.reversals
          else y.reversals
        obstructions := if reason = .openObstructed then up y.obstructions else y.obstructions
        lapses := if reason = .holdLapsed then up y.lapses else y.lapses
        dirFaults := if reason = .directionFault then up y.dirFaults else y.dirFaults
        runTime := min 4294967295 units
        peak := max y.peak peak }
    remainder := if 4294967295 ≤ units then 0 else (x.remainder + ms) % 100 }

/-- A learning run taken into the profile at LEARN_DONE (R51): every sampled zone from its own trace, every zone above the
highest sampled one from that one's; LEARNED and dirty, the reversal count 0 and the closure out of ESCAPE. -/
abbrev ClosureState.LearnedFrom (x c : ClosureState) : Prop :=
  let from_ := fun e : TraceEntry =>
    ({ tRef := e.period / e.count, iRef := e.current / e.count, vRef := e.supply / e.count
       tAnchor := e.period / e.count, iAnchor := e.current / e.count } : ZoneEntry)
  x.profile.status = .learned ∧ x.profile.dirty = true ∧ x.profile.capture = false ∧
  x.profile.escapeMark = c.profile.escapeMark ∧ x.verdict = { c.verdict with reversals := 0, escape := false } ∧
  (∀ z : Fin 64, 1 ≤ c.est.trace[z].count → x.profile.zones[z] = from_ c.est.trace[z]) ∧
  (∀ h : Fin 64, 1 ≤ c.est.trace[h].count → (∀ y : Fin 64, h < y → c.est.trace[y].count = 0) →
    ∀ z : Fin 64, h < z → x.profile.zones[z] = from_ c.est.trace[h])

/-- An adaptation of a profile (R55): every zone adapted from its trace, the dirty flag set and the capture mark cleared
when any of them has changed. -/
abbrev ClosureState.AdaptedFrom (x c : ClosureState) : Prop :=
  (∀ z : Fin 64, x.profile.zones[z] = c.profile.zones[z].adapt c.est.trace[z]) ∧
  x.profile.status = c.profile.status ∧ x.profile.escapeMark = c.profile.escapeMark ∧ x.verdict = c.verdict ∧
  ((∃ z : Fin 64, x.profile.zones[z] ≠ c.profile.zones[z]) → x.profile.dirty = true ∧ x.profile.capture = false) ∧
  ((∀ z : Fin 64, x.profile.zones[z] = c.profile.zones[z]) →
    x.profile.dirty = c.profile.dirty ∧ x.profile.capture = c.profile.capture)

/-- The checks of a follow-on at the end of settling, in their order (R103, operation 5): the cause of the first that
fails. `x` is the closure after operation 3. -/
def State.followOnCause (s : State) (k : ClosureId) (x : ClosureState) (f : Move) : Option DropCause :=
  let full := x.counter.validity = .valid ∧ x.profile.status = .learned
  let checks : List (DropCause × Bool) :=
    [(.childLocked, f.origin = .seatSwitch ∧ hasMember s.words[0] k.val),
      (.notReady, ((f.kind = .oneTouch ∨ f.kind = .global) ∧ ¬ full)
        ∨ (f.kind = .learn ∧ x.counter.validity = .lost)),
      (.escapeActive, x.verdict.escape ∧ f.direction = .closing ∧ (f.kind = .oneTouch ∨ f.kind = .global)),
      (.supplyLow, f.direction = .closing ∧ s.front.reading < s.settings.vMin)]
  (checks.find? fun y => y.2).map (·.1)

/-- The gates of adaptation (R54). -/
abbrev State.AdaptsAt (s : State) (c : ClosureState) (m : Move) (reason : EndReason) : Prop :=
  m.direction = .closing ∧ (m.kind = .oneTouch ∨ m.kind = .held ∨ m.kind = .global) ∧ reason = .closed ∧
  c.verdict.record = none ∧ c.profile.escapeMark = false ∧ c.counter.validity = .valid ∧ c.profile.status = .learned ∧
  s.words[4].toNat ≤ 1 ∧ -10 ≤ s.front.temperature ∧ s.front.temperature ≤ 50

/-- The context of a closure at its arrival in the slot queue (R88, operations 1 to 3): `window` is the owner seat's
hold window in units of 10 ms. -/
def Context.arrived (m : Move) (now window : Nat) : Context :=
  { state := .queued
    move := some m
    holdDeadline := if m.kind = .held ∨ m.kind = .normalise then some (now + window * 10000) else none
    queueEntry := some now }

/-- A closure as a permit activation leaves it (R11, R13, R14, R22, R29, R66). -/
def ClosureState.drivenAt (c : ClosureState) (now : Nat) (d : Direction) : ClosureState :=
  { c with
    ctx := { c.ctx with permit := .drive d }
    counter := { c.counter with
      stepRecord := none, stallTimer := some (now + c.desc.stallUnits * 10000), dirFaultRun := 0 }
    sense := { c.sense with isOpen := false, sum := 0, count := 0 }
    est := { c.est with blankingCount := c.desc.blanking, rawList := [], listPath := none }
    verdict := { c.verdict with confirm := 0 } }

/-- The position from which a granted move starts (R92, R17). -/
def ClosureState.grantPosition (c : ClosureState) (m : Move) : Int :=
  if m.kind = .normalise ∧ c.counter.validity = .lost then 0 else c.counter.position

/-- A closure whose waiting move `m` is granted, before its permit becomes active (R92, operations 1 to 5). -/
def ClosureState.grantedAt (c : ClosureState) (m : Move) (now reading : Nat) : ClosureState :=
  { c with
    ctx := { c.ctx with
      state := .running
      queueEntry := none
      startTime := some now
      startPos := some (c.grantPosition m)
      stepCount := 0
      endedBy := none
      endReason := none }
    counter := { c.counter with phaseFaults := 0, position := c.grantPosition m }
    est := { c.est with peak := none, minSupply := reading, trace := Vector.replicate 64 {} }
    verdict := { c.verdict with record := none, confirm := 0 }
    profile := { c.profile with
      escapeMark := if m.direction = .closing then c.verdict.escape else c.profile.escapeMark } }

/-- The head of the slot queue granted, with its target still ahead (R92, R111). -/
def State.granted (s : State) (k : ClosureId) (m : Move) (now : Nat) : State :=
  { s.withClosure k ((s.closures[k].grantedAt m now s.front.reading).drivenAt now m.direction) with
    arbiter := { s.arbiter.without k with held := s.arbiter.held.set k true } }

/-- A queued move that runs on at its grant: it is no NORMALISE or LEARN move and names no target, so that its position
stays and no target is reached (R93). -/
abbrev Move.Runs (m : Move) : Prop := (m.kind = .held ∨ m.kind = .oneTouch ∨ m.kind = .global) ∧ m.target = none

/-- A MOVE's argument bytes (R154). -/
def moveArgs (k : ClosureId) (m : Move) : List Byte :=
  [byteOf k.val, byteOf m.kind.code, byteOf m.direction.code, byteOf m.origin.code]
  ++ match m.target with
     | none => []
     | some p => beInt16 p

/-- Nothing keeps the head of the slot queue from a grant: a slot is free, and no unpark write is awaited (R111). -/
abbrev State.SlotFree (s : State) : Prop :=
  s.arbiter.heldCount < s.arbiter.effective ∧ s.arbiter.unparkPending = false ∧ s.arbiter.unparkWait = .none

/-! The laws of every state. -/

/-- The permit that the state of a context and the reversal phase decide (R85). -/
def ClosureState.lawfulPermit (c : ClosureState) : Permit :=
  match c.ctx.state with
  | .running =>
    match c.ctx.move with
    | some m => .drive m.direction
    | none => .hold
  | .reversing => if c.verdict.phase = some .reverse then .drive .opening else .hold
  | .idle | .queued | .settling => .hold

/-- Every context drives its permit lines from its state and the reversal phase (R85). -/
abbrev State.PermitLaw (s : State) : Prop := ∀ k : ClosureId, s.closures[k].ctx.permit = s.closures[k].lawfulPermit

/-- A context has an owner seat exactly when it is not IDLE, and holds a follow-on only while SETTLING or REVERSING
(R84). -/
abbrev State.OwnerLaw (s : State) : Prop :=
  ∀ k : ClosureId,
    (s.closures[k].ctx.move.isSome = true ↔ s.closures[k].ctx.state ≠ .idle) ∧
    (s.closures[k].ctx.followOn.isSome = true →
      s.closures[k].ctx.state = .settling ∨ s.closures[k].ctx.state = .reversing)

/-- The held slots are the closures that are RUNNING or REVERSING (R107), and the slot queue holds exactly the closures
that are QUEUED, each once (R110). -/
abbrev State.SlotLaw (s : State) : Prop :=
  (∀ k : ClosureId,
    (s.arbiter.held[k] = true ↔ s.closures[k].ctx.state = .running ∨ s.closures[k].ctx.state = .reversing) ∧
    (k ∈ s.arbiter.queue.map (·.closure) ↔ s.closures[k].ctx.state = .queued)) ∧
  (s.arbiter.queue.map (·.closure)).Nodup

/-- The held slots number at most K_slots, and so does the effective slot count; it is 1 while derating (R106, R107).
K_slots is at least 1 wherever it was written (R108); `max 1` makes the law hold of an image that says otherwise too. -/
abbrev State.CountLaw (s : State) : Prop :=
  s.arbiter.heldCount ≤ max 1 s.settings.slots ∧ s.arbiter.effective ≤ max 1 s.settings.slots ∧
  (s.arbiter.derating = true → s.arbiter.effective ≤ 1)

/-- How many closures have a permit line active. -/
def State.drivenCount (s : State) : Nat := (allClosures.filter fun k => decide (s.closures[k].ctx.permit ≠ .hold)).length

/-- The laws of motion together (R84, R85, R107, R110). -/
abbrev State.MotionLaw (s : State) : Prop := s.PermitLaw ∧ s.OwnerLaw ∧ s.SlotLaw ∧ s.CountLaw

/-- Each notice queue holds at most 16 notices and each loss count is at most 255 (R129). -/
abbrev State.NoticeLaw (s : State) : Prop :=
  ∀ n : SeatId, s.seats[n].queue.length ≤ 16 ∧ s.seats[n].lossCount ≤ 255

/-- The attention line of each seat is active exactly when its attention cause is not NONE; the cause is URGENT exactly
when the queue holds an urgent notice, LEVEL exactly when it holds none and its count is at or above the trigger level;
STALE only once the stale deadline is reached with neither of these; an empty queue has cause NONE. The stale deadline
is the oldest notice's time plus the stale time (R134, R135, R136). -/
abbrev State.LineLaw (s : State) : Prop :=
  ∀ n : SeatId,
    (s.seats[n].line = true ↔ s.seats[n].cause ≠ .none) ∧
    (s.seats[n].cause = .urgent ↔ ∃ x ∈ s.seats[n].queue, x.body.urgent = true) ∧
    (s.seats[n].cause = .level ↔
      (∀ x ∈ s.seats[n].queue, x.body.urgent = false) ∧ s.seats[n].record.trigger ≤ s.seats[n].queue.length) ∧
    (s.seats[n].cause = .stale → ∃ d ∈ s.seats[n].staleDeadline, d ≤ s.now) ∧
    (s.seats[n].queue = [] → s.seats[n].cause = .none) ∧
    s.seats[n].staleDeadline = s.seats[n].queue.head?.map (fun x => x.time + s.seats[n].record.staleUnits * 10000)

/-- A seat record's numbers lie within their ranges (R120). -/
abbrev SeatRecord.InRange (r : SeatRecord) : Prop :=
  6 ≤ r.holdUnits ∧ r.holdUnits ≤ 50 ∧ 1 ≤ r.trigger ∧ r.trigger ≤ 16 ∧ 5 ≤ r.staleUnits ∧ r.staleUnits ≤ 255

/-- The image is one that a start-up load takes, or that the end of an unpark write will mark valid again (R158, R161). -/
abbrev State.ImageTrusted (s : State) : Prop :=
  s.store.image.valid = true ∨ s.store.job = .unparking ∨ (s.store.job = .idle ∧ s.arbiter.unparkPending = true)

/-- Every working record, every captured one and, in a trusted image, every stored one is in range (R120, R122). -/
abbrev State.RecordLaw (s : State) : Prop :=
  (∀ n : SeatId, s.seats[n].record.InRange) ∧
  (s.ImageTrusted → ∀ n : SeatId, s.store.image.records[n].InRange) ∧
  (match s.store.job with
   | .committing _ _ captured => ∀ n : SeatId, captured.records[n].InRange
   | .idle | .unparking => True)

/-- The reversal count lies within 0 to R_max, and the closure is in ESCAPE exactly when the count equals R_max, for an
R_max of at least 1, which every written one is (R1, R80). -/
abbrev State.EscapeLaw (s : State) : Prop :=
  ∀ k : ClosureId,
    s.closures[k].verdict.reversals ≤ s.closures[k].desc.escapeMax ∧
    (1 ≤ s.closures[k].desc.escapeMax →
      (s.closures[k].verdict.escape = true ↔ s.closures[k].verdict.reversals = s.closures[k].desc.escapeMax))

/-- A stored position that a cold start would trust, or that a parking commit in flight has captured, is at least -64. -/
abbrev State.StoredPositionLaw (s : State) : Prop :=
  (s.store.image.valid = true → s.store.image.parked = true → ∀ k : ClosureId, -64 ≤ s.store.image.positions[k].pos) ∧
  (match s.store.job with
   | .committing _ true captured => ∀ k : ClosureId, -64 ≤ captured.positions[k].pos
   | .committing _ false _ | .idle | .unparking => True)

/-- Every position lies within -64 to L_full + 64 (R10). -/
abbrev State.PositionLaw (s : State) : Prop :=
  ∀ k : ClosureId,
    -64 ≤ s.closures[k].counter.position ∧ s.closures[k].counter.position ≤ s.closures[k].desc.travel + 64

/-- The published load of every closure lies within 0 to 2,047 LU (R36). -/
abbrev State.LoadLaw (s : State) : Prop := ∀ k : ClosureId, s.closures[k].est.published ≤ 2047

/-- A zone entry keeps its references in the anchor band (R48). -/
abbrev ZoneEntry.InBand (e : ZoneEntry) : Prop :=
  (3 * e.tAnchor / 4 ≤ e.tRef ∧ e.tRef ≤ 5 * e.tAnchor / 4 ∧ 200 ≤ e.tRef ∧ e.tRef ≤ 65535 ∧ 200 ≤ e.tAnchor
    ∧ e.tAnchor ≤ 65535) ∧
  (3 * e.iAnchor / 4 ≤ e.iRef ∧ e.iRef ≤ 5 * e.iAnchor / 4 ∧ e.iRef ≤ 40000 ∧ e.iAnchor ≤ 40000)

/-- Every zone of every working profile, of every captured one and, in a trusted image, of every stored one is in its
anchor band (R48). -/
abbrev State.ZoneLaw (s : State) : Prop :=
  (∀ (k : ClosureId) (z : Fin 64), s.closures[k].profile.zones[z].InBand) ∧
  (s.ImageTrusted → ∀ (k : ClosureId) (z : Fin 64), s.store.image.profiles[k].zones[z].InBand) ∧
  (match s.store.job with
   | .committing _ _ captured => ∀ (k : ClosureId) (z : Fin 64), captured.profiles[k].zones[z].InBand
   | .idle | .unparking => True)

/-- The trace of a LEARN run sums steps of 200 to 65,535 µs and 0 to 40,000 mA (R11, R22, R41), LEARN_DONE ends a LEARN
run alone (R51), and the current front end holds means of 0 to 40,000 mA (R22, R23): what ZoneLaw needs to stand after
a learning run. -/
abbrev State.TraceLaw (s : State) : Prop :=
  ∀ k : ClosureId,
    (s.closures[k].ctx.state ≠ .idle → s.closures[k].ctx.state ≠ .queued →
      s.closures[k].ctx.move.map (·.kind) = some .learn → ∀ z : Fin 64,
        200 * s.closures[k].est.trace[z].count ≤ s.closures[k].est.trace[z].period ∧
        s.closures[k].est.trace[z].period ≤ 65535 * s.closures[k].est.trace[z].count ∧
        s.closures[k].est.trace[z].current ≤ 40000 * s.closures[k].est.trace[z].count) ∧
    (s.closures[k].ctx.state = .settling → s.closures[k].ctx.endReason = some .learnDone →
      s.closures[k].ctx.move.map (·.kind) = some .learn) ∧
    s.closures[k].sense.sum ≤ 40000 * s.closures[k].sense.count ∧ s.closures[k].sense.lastMean ≤ 40000

/-- The slot queue is in grant order, by class and within a class by arrival number; the arrival numbers are distinct and
none is above the last one given (R110). -/
abbrev State.QueueLaw (s : State) : Prop :=
  (s.arbiter.queue.Pairwise fun x y =>
    s.classOf x.closure < s.classOf y.closure ∨
    (s.classOf x.closure = s.classOf y.closure ∧ x.arrival < y.arrival)) ∧
  (s.arbiter.queue.map (·.arrival)).Nodup ∧ ∀ e ∈ s.arbiter.queue, e.arrival ≤ s.arbiter.lastArrival

/-- Each shared word holds a value within its range (R123). -/
abbrev State.WordLaw (s : State) : Prop :=
  s.words[1].toNat ≤ 2 ∧ s.words[2].toNat ≤ 3 ∧ s.words[3].toNat ≤ 3 ∧ s.words[4].toNat ≤ 3 ∧ s.words[5].toNat ≤ 1

/-- A move of kind ONE_TOUCH, GLOBAL or LEARN that is QUEUED, RUNNING or REVERSING stands on a VALID position (R101). -/
abbrev State.TrustLaw (s : State) : Prop :=
  ∀ k : ClosureId, s.closures[k].counter.validity = .lost →
    ∀ m ∈ s.closures[k].ctx.move, m.kind = .oneTouch ∨ m.kind = .global ∨ m.kind = .learn →
      s.closures[k].ctx.state = .settling ∨ s.closures[k].ctx.state = .idle

/-- What R159 asks of sleep, condition by condition. -/
abbrev State.SleepConditions (s : State) : Prop :=
  s.words[5] = 1 ∧ s.words[1] = 0 ∧ s.window = none ∧ (∀ k : ClosureId, s.closures[k].ctx.state = .idle) ∧
  (∀ n : SeatId, s.seats[n].queue = []) ∧ s.store.job = .idle ∧ s.link.receiver = .idle ∧ s.link.quietTimer = none

/-- The part sleeps exactly when every condition of R159 holds; during the start-up load SLEEP PERMIT is 0 (R123). -/
abbrev State.SleepLaw (s : State) : Prop :=
  (s.asleepSince.isSome = true ↔ s.SleepConditions) ∧ (s.loading = true → s.words[5] = 0)

end Sys2Proof.Machine
end

