-- ==== Sys2Proof/WellFormed.lean ====
section
/-! DEFINITION. Which commands are well formed: the operands belong to the row that carries them. -/
namespace Sys2Proof

/-- A frame carries at most 32 argument bytes (R147). -/
def argsFit (args : List Byte) : Bool := decide (args.length ≤ maxArgs)

/-- The operands belong to the command's own row: a frame's arguments fit it, READ SETTING and WRITE SETTING name no
identifier of another row, an unknown command has no known code, a discarded frame is one that is discarded. What exec
does with a command that is not well formed: log entry 21. -/
def Instr.wellFormed : Instr → Bool
  | .move _ args | .renew _ args | .stop _ args | .global _ args | .clear _ args | .readClosure _ args
  | .readOutcome _ args | .readStats _ args | .clearStats _ args | .readProfile _ args | .writeProfileZone _ args
  | .markLearned _ args | .readSeatRecord _ args | .writeSeatRecord _ args | .readWords _ args | .writeWord _ args
  | .setBits _ args | .clearBits _ args | .compareAndWrite _ args | .takeNotice _ args | .readSeatStatus _ args
  | .commit _ args => argsFit args
  | .allStop _ t _ args => argsFit args && (decide (t ≠ .broadcast) || decide (args = []))
  | .readSetting f args => argsFit args && decide (readSettingRow f args = .readSetting f args)
  | .writeSetting f args => argsFit args && decide (writeSettingRow f args = .writeSetting f args)
  | .unknownCommand _ code args => argsFit args && !isSeatCode code
  | .frameDiscard _ _ ended bytes => ended.isNone || (parseFrame bytes).isNone
  | .broadcastFrameDiscarded dt code args fin =>
    argsFit args && decide (broadcastCommandOf dt fin code args = .broadcastFrameDiscarded dt code args fin)
  | .readDeviceSetting _ _ _ | .readSlotState _ _ | .writeDeviceSetting _ _ _ _ | .writeTRet _ _ _ | .linkReset _ _
  | .readFrame _ _ | .stuckLinkRecovery _ _ | .hallEdge _ _ _ | .phaseFault _ _ | .stallExpiry _ _
  | .undrivenQuietExpiry _ _ | .brakeTimerExpiry _ _ | .quietTimerExpiry _ _ | .limitTimerExpiry _ _
  | .holdDeadlineExpiry _ _ | .queueTimeout _ _ | .currentSample _ _ _ | .supplySample _ _ | .supplyRefresh _
  | .temperatureMeasurement _ _ | .retainedWindowExpiry _ | .staleExpiry _ _ | .commitCompletion _ | .commitFailure _
  | .unparkWriteCompletion _ | .unparkWriteFailure _ | .linkQuietExpiry _ | .resetInput _ _ | .coldStart _ _ _ _
  | .startUpLoadEnd _ | .powerLoss _ | .frameNotAcknowledged _ _ _ => true

end Sys2Proof
end

