-- ==== Sys2Proof/Certificates/Slice0/Obligations.lean ====
section
/-! DEFINITION. The statements for the provers. -/

open Sys2Proof Sys2Proof.Machine

/-! Steps, commands and the queue. -/

/-- One step runs the command at the front of the queue on the state with the queue's rest. The queue is the model's
choice (log entry 3). -/
def Obligations.StepRunsFrontCommand : Prop :=
  ∀ (c : Instr) (rest : List Instr) (s : State), s.pending = c :: rest → step s = exec c { s with pending := rest }

/-- Every command is carried out (none faults, none is refused by the model), leaves the queue alone, and moves the clock
on by its own time. The clock and the queue are the model's choice (log entries 1 and 3). -/
def Obligations.ExecAlwaysCompletes : Prop :=
  ∀ (c : Instr) (s : State), ∃ t, exec c s = .next t ∧ t.pending = s.pending ∧ t.now = s.now + c.dt

/-! Reset. -/

/-- What reset leaves, block by block, at the values the spec gives for a cold start on a blank store (R1, R21, R26,
R45, R60, R84, R106, R120, R123, R129, R139, R161). -/
def Obligations.ResetValues : Prop :=
  (∀ k : ClosureId,
    State.reset.closures[k].desc = { cls := .unused } ∧
    State.reset.closures[k].counter.position = 0 ∧ State.reset.closures[k].counter.validity = .lost ∧
    State.reset.closures[k].counter.burst = 0 ∧ State.reset.closures[k].sense = {} ∧
    State.reset.closures[k].profile.status = .unlearned ∧ State.reset.closures[k].profile.dirty = true ∧
    State.reset.closures[k].verdict = {} ∧ State.reset.closures[k].ctx = {} ∧
    State.reset.closures[k].est.published = 0 ∧
    State.reset.closures[k].lastOutcome = none ∧ State.reset.closures[k].stats = {}) ∧
  State.reset.settings = { slots := 3, vLow := 10500, vResume := 11000, vMin := 8000, tRet := 45 } ∧
  State.reset.arbiter.effective = 3 ∧ State.reset.arbiter.derating = false ∧ State.reset.arbiter.heldCount = 0 ∧
  State.reset.arbiter.queue = [] ∧ State.reset.arbiter.supplyState = .above ∧
  State.reset.arbiter.supplyNotice = false ∧ State.reset.arbiter.unparkPending = false ∧
  State.reset.arbiter.unparkWait = .none ∧
  State.reset.seats[0].record =
    { moveMask := 0xFF, rights := 0x0F, wordMask := 0x3F, subscription := 0xFF, holdUnits := 20, trigger := 1,
      staleUnits := 50 } ∧
  (∀ n : SeatId, n ≠ 0 → State.reset.seats[n].record =
    { moveMask := 0xFF, rights := 0x01, wordMask := 0x3E, subscription := 0x00, holdUnits := 20, trigger := 1,
      staleUnits := 50 }) ∧
  (∀ n : SeatId,
    State.reset.seats[n].queue = [] ∧ State.reset.seats[n].lossCount = 0 ∧ State.reset.seats[n].cause = .none ∧
    State.reset.seats[n].line = false ∧ State.reset.seats[n].reply = none) ∧
  (∀ w : Fin 6, State.reset.words[w] = 0) ∧ State.reset.window = none ∧
  State.reset.link.receiver = .idle ∧ State.reset.loading = true ∧ State.reset.store.job = .idle ∧
  State.reset.store.source = .defaults

/-- Every law of the model holds of the state right after reset. -/
def Obligations.ResetKeepsLaws : Prop :=
  State.reset.MotionLaw ∧ State.reset.NoticeLaw ∧ State.reset.LineLaw ∧ State.reset.RecordLaw ∧ State.reset.EscapeLaw ∧
  State.reset.PositionLaw ∧ State.reset.StoredPositionLaw ∧ State.reset.LoadLaw ∧ State.reset.WordLaw ∧
  State.reset.TrustLaw ∧ State.reset.SleepLaw ∧ State.reset.ZoneLaw ∧ State.reset.TraceLaw ∧ State.reset.QueueLaw

/-! Laws that every step keeps. -/

/-- R85: a permit line is active only as the state of its context and the reversal phase say. -/
def Obligations.PermitLawKept : Prop :=
  ∀ s t : State, s.PermitLaw → step s = .next t → t.PermitLaw

/-- R84, R85, R107, R110: permits, owners, slots and the slot queue agree with the contexts, and the held slots stay
within the slot count, so that the closures whose permit is CLOSE or OPEN number at most K_slots. -/
def Obligations.MotionLawKept : Prop :=
  ∀ s t : State, s.MotionLaw → step s = .next t →
    t.MotionLaw ∧ (1 ≤ t.settings.slots → t.drivenCount ≤ t.settings.slots)

/-- R129: queues and loss counts keep their bounds. R120, R122: every record, working, captured and stored, keeps its
numbers in their ranges. R134, R135, R136: lines, causes and stale deadlines follow the queues and the records. -/
def Obligations.NoticeLawsKept : Prop :=
  (∀ s t : State, s.NoticeLaw → step s = .next t → t.NoticeLaw) ∧
  (∀ s t : State, s.RecordLaw → step s = .next t → t.RecordLaw) ∧
  (∀ s t : State, s.NoticeLaw → s.RecordLaw → s.LineLaw → step s = .next t → t.LineLaw)

/-- R10: every position stays within its limits, across writes of L_full, resets and cold starts. -/
def Obligations.PositionLawKept : Prop :=
  ∀ s t : State, s.PositionLaw → s.StoredPositionLaw → step s = .next t → t.PositionLaw ∧ t.StoredPositionLaw

/-- R80: the reversal count stays within R_max, and ESCAPE is the count at R_max. R36, R123: the published load and the
shared words stay within their ranges. -/
def Obligations.BoundedStateKept : Prop :=
  (∀ s t : State, s.EscapeLaw → step s = .next t → t.EscapeLaw) ∧
  (∀ s t : State, s.LoadLaw → s.WordLaw → step s = .next t → t.LoadLaw ∧ t.WordLaw)

/-- R101: no ONE_TOUCH, GLOBAL or LEARN move is QUEUED, RUNNING or REVERSING on a LOST position. -/
def Obligations.TrustLawKept : Prop :=
  ∀ s t : State, s.MotionLaw → s.TrustLaw → step s = .next t → t.TrustLaw

/-- R159, R160: the part sleeps exactly while every condition of sleep holds. -/
def Obligations.SleepLawKept : Prop :=
  ∀ s t : State, s.SleepLaw → step s = .next t → t.SleepLaw

/-! Frames (R147, R148, R151, R154). -/

/-- Decoding the frame of a well-formed command gives the command back: no byte of a frame is dropped. -/
def Obligations.EncodedFramesDecode : Prop :=
  ∀ (c : Instr) (dt : Nat) (target : Target) (fin : FrameEnd) (bytes : List Byte),
    c.wellFormed = true → encodeCommand c = some (dt, target, fin, bytes) → decodeWriteFrame dt target fin bytes = c

/-- Frames written out byte by byte from the catalogue, the request of the spec's worked example among them. -/
def Obligations.WrittenFramesDecode : Prop :=
  let f : SeatFrame := { dt := 5, seat := 1, fin := .stop }
  decodeWriteFrame 5 (.seat 1) .stop [0x10, 0x04, 0x03, 0x01, 0x00, 0x02, 0xE6] = .move f [3, 1, 0, 2] ∧
  decodeWriteFrame 5 (.seat 1) .stop [0x10, 0x04, 0x03, 0x01, 0x00, 0x02, 0xE7] =
    .frameDiscard 5 (.seat 1) (some .stop) [0x10, 0x04, 0x03, 0x01, 0x00, 0x02, 0xE7] ∧
  decodeWriteFrame 5 (.seat 1) .stop [0x12, 0x01, 0x02, 0xEB] = .stop f [2] ∧
  decodeWriteFrame 5 (.seat 1) .stop [0x30, 0x03, 0x05, 0x3E, 0x02, 0x88] = .readProfile f [5, 62, 2] ∧
  decodeWriteFrame 5 (.seat 1) .stop [0x41, 0x04, 0x00, 0x20, 0x00, 0x02, 0x99] =
    .writeDeviceSetting f 0 .slots 2 ∧
  decodeWriteFrame 5 (.seat 1) .stop [0x51, 0x02, 0x01, 0x02, 0xAA] = .writeWord f [1, 2] ∧
  decodeWriteFrame 5 (.seat 1) .stop [0x60, 0x00, 0xA0] = .takeNotice f [] ∧
  decodeWriteFrame 5 (.seat 1) .stop [0x70, 0x01, 0x01, 0x8E] = .commit f [1] ∧
  decodeWriteFrame 5 (.seat 1) .stop [0x7F, 0x00, 0x81] = .unknownCommand f 0x7F [] ∧
  decodeWriteFrame 5 .broadcast .stop [0x1F, 0x00, 0xE1] = .allStop 5 .broadcast .stop [] ∧
  decodeWriteFrame 5 .broadcast .stop [0x7F, 0x00, 0x81] = .linkReset 5 .stop ∧
  decodeWriteFrame 5 .broadcast .stop [0x60, 0x00, 0xA0] = .broadcastFrameDiscarded 5 0x60 [] .stop

/-- R148: a frame taken at a seat with a code that names no command of the catalogue is refused UNKNOWN_COMMAND, and a
command with an argument length the catalogue does not give is refused BAD_ARGUMENT; neither changes anything but the
seat's pending reply and the link. -/
def Obligations.DispatchRefusals : Prop :=
  ∀ (f : SeatFrame) (code : Byte) (args : List Byte) (s : State), s.Awake →
    let lengths : List (Byte × List Nat) :=
      [(0x10, [4, 6]), (0x11, [1]), (0x12, [1]), (0x13, [3]), (0x14, [1]), (0x1F, [0]), (0x20, [1]), (0x21, [1]),
        (0x22, [1]), (0x23, [1]), (0x30, [3]), (0x31, [8]), (0x32, [1]), (0x40, [2]), (0x41, [4]), (0x48, [1]),
        (0x49, [8]), (0x50, [0]), (0x51, [2]), (0x52, [2]), (0x53, [2]), (0x54, [3]), (0x60, [0]), (0x61, [0]),
        (0x70, [1])]
    match lengths.lookup code with
    | none => exec (seatCommandOf f code args) s = .next (s.answered f code args.length .unknownCommand [])
    | some ns =>
      args.length ∉ ns →
        exec (seatCommandOf f code args) s = .next (s.answered f code args.length .badArgument [])

/-- R146, R160: during the start-up load no address is acknowledged, so no frame has any effect beyond the link. A frame
that reaches a sleeping part is taken as by the same part woken: its step records and its supply window emptied, its
undriven quiet timers resumed with their remaining time, the link-quiet timer started with 2 s. A hall edge of a closure
in use wakes the part in the same way. A frame taken whole is one command, its acknowledge bits stand in a port, and the
35 ms timer starts at a wake: the model's choices (log entries 4 and 25). -/
def Obligations.FramesInLoadAndSleep : Prop :=
  (∀ (c : Instr) (dt : Nat) (target : Target) (fin : FrameEnd) (bytes : List Byte) (s : State),
     s.powered = true → s.loading = true → encodeCommand c = some (dt, target, fin, bytes) →
       exec c s = .next (s.afterFrame dt fin [false])) ∧
  (∀ (dt sent : Nat) (n : SeatId) (fin : FrameEnd) (s : State), s.powered = true → s.loading = true →
     exec (.readFrame { dt := dt, seat := n, ended := some fin } sent) s = .next (s.afterFrame dt fin [false])) ∧
  (∀ (c : Instr) (dt since : Nat) (target : Target) (fin : FrameEnd) (bytes : List Byte) (s : State),
     s.powered = true → s.loading = false → s.asleepSince = some since →
     encodeCommand c = some (dt, target, fin, bytes) → exec c s = exec c (s.wokenAt dt since)) ∧
  (∀ (dt since sent : Nat) (n : SeatId) (ended : Option FrameEnd) (s : State),
     s.powered = true → s.loading = false → s.asleepSince = some since →
       exec (.readFrame { dt := dt, seat := n, ended := ended } sent) s =
         exec (.readFrame { dt := dt, seat := n, ended := ended } sent) (s.wokenAt dt since)) ∧
  (∀ (dt since : Nat) (k : ClosureId) (ph : Phase) (s : State),
     s.powered = true → s.asleepSince = some since → s.closures[k].desc.cls ≠ .unused →
       exec (.hallEdge dt k ph) s = exec (.hallEdge dt k ph) (s.wokenAt dt since))

/-! What the rules derive. -/

/-- R5: zone z below 63 covers positions z W to (z + 1) W - 1, zone 63 everything from 63 W up, and zone 0 every position
below 0 as well. R74: the reversal target from the verdict position, and its bounds. -/
def Obligations.ZonesAndReversalTarget : Prop :=
  (∀ (d : Description) (p : Int), 512 ≤ d.travel →
     (p < 0 → (d.zone p).val = 0) ∧
     (∀ z : Nat, z < 63 → (z * (d.travel / 64) : Nat) ≤ p → p < ((z + 1) * (d.travel / 64) : Nat) →
       (d.zone p).val = z) ∧
     ((63 * (d.travel / 64) : Nat) ≤ p → (d.zone p).val = 63)) ∧
  (∀ (c : ClosureState) (pos : Int),
     (c.counter.validity = .valid → c.desc.reversalMode = .distance →
       c.reversalTarget pos = min (c.desc.travel : Int) (max (pos + c.desc.reversalDistance) c.desc.pinchLimit)) ∧
     (c.counter.validity = .valid → c.desc.reversalMode = .full → c.reversalTarget pos = c.desc.travel) ∧
     (c.counter.validity = .lost →
       c.reversalTarget pos = min (pos + c.desc.reversalDistance) (c.desc.travel + 64)) ∧
     c.reversalTarget pos ≤ c.desc.travel + 64 ∧
     (c.counter.validity = .valid → c.desc.pinchLimit ≤ c.desc.travel → c.desc.pinchLimit ≤ c.reversalTarget pos))

/-- R30 to R36: the expected period is the quotient rounded half up, clamped to 100 to 65,535 µs; stages 2 to 5 are the
truncated divisions, within the ranges the rules give; the filter restarts at a change of path and holds the last four
raw loads, and its mean, truncated toward zero, is clamped to 0 to 2,047 LU. -/
def Obligations.EstimatorArithmetic : Prop :=
  (∀ (e : ZoneEntry) (supply x : Nat), 6000 ≤ supply →
     2 * supply * x ≤ 2 * (e.tRef * e.vRef) + supply → 2 * (e.tRef * e.vRef) + supply < 2 * supply * (x + 1) →
       expectedPeriod e supply = if x < 100 then 100 else if 65535 < x then 65535 else x) ∧
  ((∀ period expected : Nat, 200 ≤ period → 100 ≤ expected →
     let q := (((period : Int) - expected) * 1024).tdiv expected
     (-1024 : Int) < q ∧ excessPeriod period expected = if 4095 < q then 4095 else q) ∧
   (∀ (gain : Nat) (e : Int), gain ≤ 255 → -1024 ≤ e → e ≤ 4095 →
     speedLoad gain e = (e * gain).tdiv 64 ∧ -4080 ≤ speedLoad gain e ∧ speedLoad gain e ≤ 16316) ∧
   (∀ gain current reference : Nat, gain ≤ 255 → current ≤ 40000 → reference ≤ 40000 →
     currentLoad gain current reference = (((current : Int) - reference) * gain).tdiv 256 ∧
     -39843 ≤ currentLoad gain current reference ∧ currentLoad gain current reference ≤ 39843) ∧
   (∀ (w : Nat) (lc ls : Int), w ≤ 16 → -39843 ≤ lc → lc ≤ 39843 → -4080 ≤ ls → ls ≤ 16316 →
     blendLoad w lc ls = (w * lc + (16 - w) * ls).tdiv 16 ∧ -39843 ≤ blendLoad w lc ls ∧ blendLoad w lc ls ≤ 39843)) ∧
  ((∀ (x : Estimator) (path : Path) (raw : Int), x.rawList.length ≤ 4 →
     (x.listPath ≠ some path → x.joined path raw = [raw]) ∧
     (x.listPath = some path → x.rawList.length < 4 → x.joined path raw = x.rawList ++ [raw]) ∧
     (x.listPath = some path → x.rawList.length = 4 → x.joined path raw = x.rawList.tail ++ [raw])) ∧
   (∀ list : List Int, list ≠ [] →
     let mean := list.sum.tdiv list.length
     (filteredLoad list : Int) = if mean < 0 then 0 else if 2047 < mean then 2047 else mean))

/-- R62 to R65: the applied threshold of every step, and the ceiling that no closing comparison in the pinch region
passes. -/
def Obligations.ThresholdComposition : Prop :=
  ∀ (s : State) (k : ClosureId) (path : Path) (pos : Int),
    let c := s.closures[k]
    let t := s.front.temperature
    let temp : Nat := if t < -10 then min 120 (4 * (-10 - t).toNat) else 0
    let rough : Nat := if s.words[3] = 0 then 0 else s.words[4].toNat * c.desc.roughStep
    let inPinch := c.counter.validity = .lost ∨ (c.desc.endBand < pos ∧ pos ≤ c.desc.pinchLimit)
    let base : Nat := match path with
      | .fallback => c.desc.thFallback
      | .profile => if inPinch then c.desc.thPinch else c.desc.thFree
    s.threshold k .opening path pos = min 2047 (c.desc.thOpen + temp + rough) ∧
    (inPinch → c.verdict.escape = true → s.threshold k .closing path pos = c.desc.thCeiling) ∧
    (inPinch → c.verdict.escape = false →
      s.threshold k .closing path pos = min c.desc.thCeiling (min 2047 (base + temp + rough))) ∧
    (¬ inPinch → s.threshold k .closing path pos = min 2047 (base + temp + rough)) ∧
    (inPinch → s.threshold k .closing path pos ≤ c.desc.thCeiling)

/-- R55, R48, R57: an adaptation moves each reference an eighth of the way to the trace's mean, truncated toward zero, and
keeps it in its anchor's band and in its field's range; a written zone stands in its band. R48: every step keeps every
zone of every profile, working, captured and stored, in its band, given what the trace of a learning run sums. -/
def Obligations.AnchorBandKept : Prop :=
  (∀ (e : ZoneEntry) (t : TraceEntry), 1 ≤ t.count →
    let toward := fun (ref anchor mean lo hi : Nat) =>
      let moved : Int := ref + ((mean : Int) - ref).tdiv 8
      max (lo : Int) (min hi (max ((3 * anchor / 4 : Nat) : Int) (min ((5 * anchor / 4 : Nat) : Int) moved)))
    e.InBand →
    ((e.adapt t).tRef : Int) = toward e.tRef e.tAnchor (t.period / t.count) 200 65535 ∧
    ((e.adapt t).iRef : Int) = toward e.iRef e.iAnchor (t.current / t.count) 0 40000) ∧
  (∀ (e : ZoneEntry) (t : TraceEntry), e.InBand →
    (e.adapt t).InBand ∧ (e.adapt t).tAnchor = e.tAnchor ∧ (e.adapt t).iAnchor = e.iAnchor ∧
    (e.adapt t).vRef = e.vRef ∧ (t.count = 0 → e.adapt t = e)) ∧
  (∀ tRef iRef vRef : Nat, (writtenZone tRef iRef vRef).InBand) ∧
  (∀ s t : State, s.TraceLaw → step s = .next t → t.TraceLaw) ∧
  (∀ s t : State, s.TraceLaw → s.ZoneLaw → step s = .next t → t.ZoneLaw)

/-- R110: an arrival keeps the slot queue in grant order, by class and within a class by arrival number; and every step
keeps the slot queue in grant order, its arrival numbers distinct and none above the last one given. -/
def Obligations.ArrivalKeepsGrantOrder : Prop :=
  (∀ (s : State) (e : QueueEntry) (q : List QueueEntry),
    let before := fun x y : QueueEntry =>
      s.classOf x.closure < s.classOf y.closure ∨
      (s.classOf x.closure = s.classOf y.closure ∧ x.arrival < y.arrival)
    q.Pairwise before → (∀ x ∈ q, x.arrival ≠ e.arrival) →
      (s.insertEntry e q).Pairwise before ∧ (s.insertEntry e q).Perm (e :: q)) ∧
  (∀ s t : State, s.MotionLaw → s.QueueLaw → step s = .next t → t.QueueLaw)

/-- R131: how a posted notice meets a queue, and what it does to the loss count. -/
def Obligations.PostingRules : Prop :=
  ∀ (now : Nat) (x : Notice) (n : SeatState),
    (n.queue.length < 16 → (n.post now x).queue = n.queue ++ [x] ∧ (n.post now x).lossCount = n.lossCount) ∧
    (n.queue.length = 16 → x.body.urgent = false →
      (n.post now x).queue = n.queue ∧ (n.post now x).lossCount = min 255 (n.lossCount + 1)) ∧
    (n.queue.length = 16 → x.body.urgent = true → (∀ y ∈ n.queue, y.body.urgent = true) →
      (n.post now x).queue = n.queue ∧ (n.post now x).lossCount = min 255 (n.lossCount + 1)) ∧
    (∀ (a : List Notice) (y : Notice) (b : List Notice), n.queue = a ++ y :: b → n.queue.length = 16 →
      x.body.urgent = true → (∀ z ∈ a, z.body.urgent = true) → y.body.urgent = false →
        (n.post now x).queue = a ++ b ++ [x] ∧ (n.post now x).lossCount = min 255 (n.lossCount + 1))

/-! Reading commands. -/

/-- READ CLOSURE (R20): the closure status body, or BAD_CLOSURE; nothing else changes. R7: readiness by its table. -/
def Obligations.ReadClosure : Prop :=
  (∀ c : ClosureState, c.readiness =
    match c.counter.validity, c.profile.status with
    | .valid, .learned => .full
    | .valid, .unlearned => .limited
    | .lost, .learned => .blind
    | .lost, .unlearned => .blind) ∧
  ∀ (f : SeatFrame) (s : State), s.Awake →
    (∀ k : ClosureId,
      let c := s.closures[k]
      exec (.readClosure f [byteOf k.val]) s = .next (s.answered f 0x20 1 .accepted
        ([byteOf k.val] ++ beInt16 c.counter.position ++
          [byteOf c.counter.validity.code, byteOf c.readiness.code,
            byteOf ((if c.counter.overspeed then 1 else 0) + (if s.front.outOfRange then 2 else 0)
              + (if c.verdict.escape then 4 else 0)),
            byteOf c.verdict.reversals, byteOf c.ctx.state.code,
            match c.ctx.move with | some m => byteOf m.seat.val | none => 0xFF] ++
          be16 c.est.published ++ be16 c.verdict.lastThreshold))) ∧
    (∀ b : Byte, 8 ≤ b.toNat → exec (.readClosure f [b]) s = .next (s.answered f 0x20 1 .badClosure []))

/-- READ OUTCOME (R138): the last outcome in 26 bytes, or one byte 0x00 for "no outcome". READ STATS (R143): the counters.
CLEAR STATS (R144): the block is zero, and nothing else changes. -/
def Obligations.OutcomeAndStatistics : Prop :=
  (∀ (f : SeatFrame) (s : State), s.Awake →
     (∀ k : ClosureId, s.closures[k].lastOutcome = none →
       exec (.readOutcome f [byteOf k.val]) s = .next (s.answered f 0x21 1 .accepted [0])) ∧
     (∀ (k : ClosureId) (o : OutcomeRecord), s.closures[k].lastOutcome = some o →
       exec (.readOutcome f [byteOf k.val]) s = .next (s.answered f 0x21 1 .accepted (outcomeBody o)) ∧
       (outcomeBody o).length = 26) ∧
     (∀ b : Byte, 8 ≤ b.toNat → exec (.readOutcome f [b]) s = .next (s.answered f 0x21 1 .badClosure []))) ∧
  (∀ (f : SeatFrame) (s : State), s.Awake →
     (∀ k : ClosureId,
       let x := s.closures[k].stats.counters
       exec (.readStats f [byteOf k.val]) s = .next (s.answered f 0x22 1 .accepted
         (be16 x.granted ++ be16 x.closed ++ be16 x.reversals ++ be16 x.obstructions ++ be16 x.lapses
           ++ be16 x.dirFaults ++ be32 x.runTime ++ be16 x.peak ++ [if s.closures[k].desc.statsOn then 1 else 0]))) ∧
     (∀ b : Byte, 8 ≤ b.toNat → exec (.readStats f [b]) s = .next (s.answered f 0x22 1 .badClosure []))) ∧
  (∀ (f : SeatFrame) (s : State), s.Awake →
     (∀ k : ClosureId, s.seats[f.seat].record.grants .service = true →
       exec (.clearStats f [byteOf k.val]) s = .next
         ((s.withClosure k { s.closures[k] with
             stats := { counters :=
               { granted := 0, closed := 0, reversals := 0, obstructions := 0, lapses := 0, dirFaults := 0,
                 runTime := 0, peak := 0 }, remainder := 0 } }).answered f 0x23 1 .accepted [])) ∧
     (∀ k : ClosureId, s.seats[f.seat].record.grants .service = false →
       exec (.clearStats f [byteOf k.val]) s = .next (s.answered f 0x23 1 .notPermitted [])) ∧
     (∀ b : Byte, 8 ≤ b.toNat → exec (.clearStats f [b]) s = .next (s.answered f 0x23 1 .badClosure [])))

/-- READ PROFILE (R56): status, dirty flag, and the zones asked for in ascending order. WRITE PROFILE ZONE (R57) and MARK
LEARNED (R58). Refusals in their order. -/
def Obligations.ProfileCommands : Prop :=
  (∀ (f : SeatFrame) (s : State), s.Awake →
     (∀ (k : ClosureId) (first count : Nat), 1 ≤ count → count ≤ 4 → first ≤ 63 → first + count ≤ 64 →
       let p := s.closures[k].profile
       exec (.readProfile f [byteOf k.val, byteOf first, byteOf count]) s = .next (s.answered f 0x30 3 .accepted
         ([if p.status = .learned then 0 else 1, if p.dirty then 1 else 0]
           ++ (List.finRange 64).flatMap fun z =>
             if first ≤ z.val ∧ z.val < first + count then
               [byteOf z.val] ++ be16 p.zones[z].tRef ++ be16 p.zones[z].iRef ++ be16 p.zones[z].vRef
                 ++ be16 p.zones[z].tAnchor ++ be16 p.zones[z].iAnchor
             else []))) ∧
     (∀ (k : ClosureId) (first count : Byte),
       count = 0 ∨ 4 < count.toNat ∨ 63 < first.toNat ∨ 64 < first.toNat + count.toNat →
         exec (.readProfile f [byteOf k.val, first, count]) s = .next (s.answered f 0x30 3 .badArgument [])) ∧
     (∀ b first count : Byte, 8 ≤ b.toNat →
       exec (.readProfile f [b, first, count]) s = .next (s.answered f 0x30 3 .badClosure []))) ∧
  (∀ (f : SeatFrame) (s : State) (k : ClosureId), s.Awake →
     let c := s.closures[k]
     (∀ (z : Fin 64) (tRef iRef vRef : BitVec 16), s.seats[f.seat].record.grants .settings = true →
       c.ctx.state = .idle →
       let T := max 200 tRef.toNat
       let I := min 40000 iRef.toNat
       let V := max 6000 (min 18000 vRef.toNat)
       exec (.writeProfileZone f ([byteOf k.val, byteOf z.val] ++ bytesOf16 tRef ++ bytesOf16 iRef ++ bytesOf16 vRef)) s
         = .next ((s.withClosure k { c with profile := { c.profile with
             zones := c.profile.zones.set z { tRef := T, iRef := I, vRef := V, tAnchor := T, iAnchor := I }
             dirty := true
             capture := false } }).answered f 0x31 8 .accepted (byteOf z.val :: (be16 T ++ be16 I ++ be16 V)))) ∧
     (∀ zone a b c' d e g : Byte,
       let reply := fun r : Result =>
         exec (.writeProfileZone f [byteOf k.val, zone, a, b, c', d, e, g]) s = .next (s.answered f 0x31 8 r [])
       (s.seats[f.seat].record.grants .settings = false → reply .notPermitted) ∧
       (s.seats[f.seat].record.grants .settings = true → 64 ≤ zone.toNat → reply .badArgument) ∧
       (s.seats[f.seat].record.grants .settings = true → zone.toNat < 64 → c.ctx.state ≠ .idle → reply .notIdle)) ∧
     (s.seats[f.seat].record.grants .settings = true → c.profile.status = .unlearned →
       exec (.markLearned f [byteOf k.val]) s = .next
         ((s.withClosure k { c with profile := { c.profile with
             status := .learned, dirty := true, capture := false } }).answered f 0x32 1 .accepted [])) ∧
     (s.seats[f.seat].record.grants .settings = true → c.profile.status = .learned →
       exec (.markLearned f [byteOf k.val]) s = .next (s.answered f 0x32 1 .accepted [])) ∧
     (s.seats[f.seat].record.grants .settings = false →
       exec (.markLearned f [byteOf k.val]) s = .next (s.answered f 0x32 1 .notPermitted []))) ∧
  (∀ (f : SeatFrame) (s : State) (b zone a c d e g h : Byte), s.Awake → 8 ≤ b.toNat →
     exec (.writeProfileZone f [b, zone, a, c, d, e, g, h]) s = .next (s.answered f 0x31 8 .badClosure []) ∧
     exec (.markLearned f [b]) s = .next (s.answered f 0x32 1 .badClosure []))

/-- READ SETTING (R4, R108, R109): of a closure field, of a device setting whatever the closure byte, and of the slot
state. -/
def Obligations.ReadSettings : Prop :=
  ∀ (f : SeatFrame) (s : State), s.Awake →
    (∀ (k : ClosureId) (id : Byte) (v : Nat), id.toNat ≤ 0x15 → s.closures[k].desc.read id.toNat = some v →
      exec (.readSetting f [byteOf k.val, id]) s = .next (s.answered f 0x40 2 .accepted (id :: be16 v))) ∧
    (∀ b id : Byte, 8 ≤ b.toNat → id.toNat ≤ 0x15 →
      exec (.readSetting f [b, id]) s = .next (s.answered f 0x40 2 .badClosure [])) ∧
    (∀ b id : Byte, 0x15 < id.toNat → (id.toNat < 0x20 ∨ 0x24 < id.toNat) → id ≠ 0x30 →
      exec (.readSetting f [b, id]) s = .next (s.answered f 0x40 2 .badArgument [])) ∧
    (∀ b : Byte,
      exec (.readDeviceSetting f b (.supply .slots)) s =
        .next (s.answered f 0x40 2 .accepted (0x20 :: be16 s.settings.slots)) ∧
      exec (.readDeviceSetting f b (.supply .vLow)) s =
        .next (s.answered f 0x40 2 .accepted (0x21 :: be16 s.settings.vLow)) ∧
      exec (.readDeviceSetting f b (.supply .vResume)) s =
        .next (s.answered f 0x40 2 .accepted (0x22 :: be16 s.settings.vResume)) ∧
      exec (.readDeviceSetting f b (.supply .vMin)) s =
        .next (s.answered f 0x40 2 .accepted (0x23 :: be16 s.settings.vMin)) ∧
      exec (.readDeviceSetting f b .tRet) s =
        .next (s.answered f 0x40 2 .accepted (0x24 :: be16 s.settings.tRet)) ∧
      exec (.readSlotState f b) s = .next (s.answered f 0x40 2 .accepted
        ([byteOf s.arbiter.effective, if s.arbiter.derating then 1 else 0,
            if s.arbiter.supplyState = .below then 1 else 0, maskOf s.arbiter.held]
          ++ ((s.arbiter.queue.map fun e : QueueEntry => byteOf e.closure.val) ++ List.replicate 8 0xFF).take 8
          ++ [if s.arbiter.unparkPending then 1 else 0, byteOf s.arbiter.unparkWait.code])))

/-- READ SEAT RECORD and WRITE SEAT RECORD (R122): the record clamped or reduced; the notice unit sets the stale deadline
from the new stale time and tests the causes by the new trigger level (R136). -/
def Obligations.SeatRecords : Prop :=
  ∀ (f : SeatFrame) (s : State), s.Awake →
    (∀ n : SeatId,
      let r := s.seats[n].record
      exec (.readSeatRecord f [byteOf n.val]) s = .next (s.answered f 0x48 1 .accepted
        [byteOf n.val, r.moveMask, r.rights, r.wordMask, r.subscription, byteOf r.holdUnits, byteOf r.trigger,
          byteOf r.staleUnits])) ∧
    (∀ b : Byte, 4 ≤ b.toNat → exec (.readSeatRecord f [b]) s = .next (s.answered f 0x48 1 .badArgument [])) ∧
    (∀ (n : SeatId) (move rights words sub hold trigger stale : Byte),
      s.seats[f.seat].record.grants .settings = true →
      let r : SeatRecord :=
        { moveMask := move, rights := rights &&& 0x0F, wordMask := words &&& 0x3F, subscription := sub,
          holdUnits := max 6 (min 50 hold.toNat), trigger := max 1 (min 16 trigger.toNat),
          staleUnits := max 5 stale.toNat }
      ∃ t, exec (.writeSeatRecord f [byteOf n.val, move, rights, words, sub, hold, trigger, stale]) s = .next t ∧
        t.seats[n].record = r ∧
        t.seats[n].staleDeadline = s.seats[n].queue.head?.map (fun x => x.time + r.staleUnits * 10000) ∧
        t.seats[n].queue = s.seats[n].queue ∧ t.seats[n].lossCount = s.seats[n].lossCount ∧
        t.seats[n].cause =
          (if s.seats[n].queue.any fun x => x.body.urgent then .urgent
           else if r.trigger ≤ s.seats[n].queue.length then .level
           else match s.seats[n].queue.head? with
             | some x => if x.time + r.staleUnits * 10000 ≤ s.now + f.dt then .stale else .none
             | none => .none) ∧
        (t.seats[n].line = true ↔ t.seats[n].cause ≠ .none) ∧
        (∀ m : SeatId, m ≠ n → t.seats[m].record = s.seats[m].record ∧ t.seats[m].queue = s.seats[m].queue) ∧
        t.seats[f.seat].reply = some
          { result := .accepted, command := 0x49, overwritten := s.seats[f.seat].reply.isSome,
            items := [byteOf n.val, r.moveMask, r.rights, r.wordMask, r.subscription, byteOf r.holdUnits,
              byteOf r.trigger, byteOf r.staleUnits] } ∧
        t.closures = s.closures ∧ t.arbiter = s.arbiter ∧ t.settings = s.settings ∧ t.words = s.words ∧
        t.window = s.window ∧ t.store = s.store ∧ t.front = s.front) ∧
    (∀ (n : SeatId) (move rights words sub hold trigger stale : Byte),
      s.seats[f.seat].record.grants .settings = false →
        exec (.writeSeatRecord f [byteOf n.val, move, rights, words, sub, hold, trigger, stale]) s =
          .next (s.answered f 0x49 8 .notPermitted [])) ∧
    (∀ b move rights words sub hold trigger stale : Byte, 4 ≤ b.toNat →
      exec (.writeSeatRecord f [b, move, rights, words, sub, hold, trigger, stale]) s =
        .next (s.answered f 0x49 8 .badArgument []))

/-- READ WORDS (R125): the six words, and the retained window's remaining time in units of 100 ms, rounded up. -/
def Obligations.ReadWords : Prop :=
  ∀ (f : SeatFrame) (s : State), s.Awake →
    (s.window = none →
      exec (.readWords f []) s = .next (s.answered f 0x50 0 .accepted
        [s.words[0], s.words[1], s.words[2], s.words[3], s.words[4], s.words[5], 0, 0, 0])) ∧
    (∀ expiry units : Nat, s.window = some expiry → s.now + f.dt ≤ expiry →
      units * 100000 < expiry - (s.now + f.dt) + 100000 → expiry - (s.now + f.dt) ≤ units * 100000 →
      exec (.readWords f []) s = .next (s.answered f 0x50 0 .accepted
        ([s.words[0], s.words[1], s.words[2], s.words[3], s.words[4], s.words[5], 1] ++ be16 units)))

/-- READ SEAT STATUS (R133): its items, and the loss count set to 0 by the reply that shows it. TAKE NOTICE (R132): the
oldest notice leaves the queue for the reply; an empty queue gives one byte 0x00. The age is the µs of the model's clock
truncated to ms (log entry 1); the trigger level is at least 1, as every record's is (R120, NoticeLawsKept). -/
def Obligations.NoticeCommands : Prop :=
  (∀ (f : SeatFrame) (s : State), s.Awake →
     let n := s.seats[f.seat]
     exec (.readSeatStatus f []) s = .next
       (({ s with seats := s.seats.set f.seat { n with lossCount := 0 } }).answered f 0x61 0 .accepted
         [byteOf n.queue.length, if n.queue.any (fun x => x.body.urgent) then 1 else 0, byteOf n.lossCount,
           byteOf n.cause.code, byteOf s.store.job.code, if s.store.source = StartSource.restored then 0 else 1])) ∧
  (∀ (f : SeatFrame) (s : State), s.Awake →
     (s.seats[f.seat].queue = [] →
       exec (.takeNotice f []) s = .next (s.answered f 0x60 0 .accepted [0])) ∧
     (∀ (x : Notice) (rest : List Notice), s.seats[f.seat].queue = x :: rest → 1 ≤ s.seats[f.seat].record.trigger →
       ∃ t, exec (.takeNotice f []) s = .next t ∧
         t.seats[f.seat].queue = rest ∧ t.seats[f.seat].lossCount = s.seats[f.seat].lossCount ∧
         t.seats[f.seat].record = s.seats[f.seat].record ∧
         t.seats[f.seat].staleDeadline =
           rest.head?.map (fun y => y.time + s.seats[f.seat].record.staleUnits * 10000) ∧
         (rest = [] → t.seats[f.seat].cause = .none ∧ t.seats[f.seat].line = false) ∧
         ((∃ y ∈ rest, y.body.urgent = true) → t.seats[f.seat].cause = .urgent ∧ t.seats[f.seat].line = true) ∧
         ((∀ y ∈ rest, y.body.urgent = false) → s.seats[f.seat].record.trigger ≤ rest.length →
           t.seats[f.seat].cause = .level ∧ t.seats[f.seat].line = true) ∧
         (∀ y more, rest = y :: more → (∀ z ∈ rest, z.body.urgent = false) →
           rest.length < s.seats[f.seat].record.trigger →
             (y.time + s.seats[f.seat].record.staleUnits * 10000 ≤ s.now + f.dt →
               t.seats[f.seat].cause = .stale ∧ t.seats[f.seat].line = true) ∧
             (s.now + f.dt < y.time + s.seats[f.seat].record.staleUnits * 10000 →
               t.seats[f.seat].cause = .none ∧ t.seats[f.seat].line = false)) ∧
         t.seats[f.seat].reply = some
           { result := .accepted, command := 0x60, overwritten := s.seats[f.seat].reply.isSome,
             items := [byteOf x.body.kindCode, if x.body.urgent then 1 else 0,
                 match x.body.closure with | some k => byteOf k.val | none => 0xFF]
               ++ be16 (min 65535 ((s.now + f.dt - x.time) / 1000)) ++ x.body.bytes } ∧
         (∀ n : SeatId, n ≠ f.seat → t.seats[n] = s.seats[n]) ∧
         t.closures = s.closures ∧ t.arbiter = s.arbiter ∧ t.settings = s.settings ∧ t.words = s.words ∧
         t.window = s.window ∧ t.store = s.store ∧ t.front = s.front))

/-! Writing commands. -/

/-- R4, R154: the field that each identifier names. R1, R2: a value written to a numeric closure field is clamped to the
field's range, read back as taken, and leaves every field that does not depend on it as it was; a value that an
enumerated field does not have is not taken. -/
def Obligations.FieldWritesClamp : Prop :=
  ∀ (d : Description) (v : Nat),
    (∀ (id lo hi : Nat),
      (id, lo, hi) ∈
        [(0x02, 512, 16000), (0x03, 4, 64), (0x06, 40, 2000), (0x07, 0, 255), (0x08, 0, 255), (0x09, 0, 16),
          (0x0B, 40, 2047), (0x0C, 40, 2047), (0x0D, 40, 2047), (0x0E, 200, 400), (0x0F, 0, 60), (0x10, 2, 15),
          (0x11, 1, 4), (0x12, 4, 40), (0x13, 5, 50), (0x14, 1, 7)] →
      ∃ e, d.write id v = some e ∧ e.read id = some (max lo (min hi v)) ∧
        ∀ other ≤ 0x15, other ≠ id → (id ≠ 0x02 ∨ other ≠ 0x04) → (id ≠ 0x03 ∨ other ≠ 0x04) →
          (id ≠ 0x0E ∨ other ≠ 0x0A) → e.read other = d.read other) ∧
    (∀ id : Nat, d.read id =
      [match d.cls with | .unused => 0 | .window => 1 | .vent => 2 | .panel => 3 | .shade => 4,
        match d.polarity with | .normal => 0 | .swapped => 1,
        d.travel, d.endBand, d.pinchLimit,
        match d.reversalMode with | .distance => 0 | .full => 1,
        d.reversalDistance, d.speedGain, d.currentGain, d.blend, d.thPinch, d.thFree, d.thFallback, d.thOpen, d.thCeiling,
        d.roughStep, d.blanking, d.confirmSteps, d.stallUnits, d.brakeTime, d.escapeMax,
        if d.statsOn then 1 else 0][id]?) ∧
    (∀ id ∈ [0x00, 0x01, 0x05, 0x15], ∀ last ∈ [if id = 0x00 then 4 else 1],
      (last < v → d.write id v = none) ∧ (v ≤ last → (d.write id v).bind (·.read id) = some v)) ∧
    (d.endBand + 4 ≤ d.travel →
      (d.write 0x04 v).bind (·.read 0x04) = some (max (d.endBand + 4) (min d.travel v))) ∧
    (40 ≤ d.thCeiling → (d.write 0x0A v).bind (·.read 0x0A) = some (max 40 (min d.thCeiling v)))

/-- WRITE SETTING of a closure field (R2, R3): the working description takes the value, with the adjustments of R3; a
structural field needs an IDLE context. A polarity change makes the position LOST; a change of class or of L_full
makes the profile UNLEARNED, one of L_full limits the position as well, one of L_full or Zs clamps Zp again, and one
of Theta_ceil clamps Theta_pinch again; a value equal to the old one has none of these effects; an R_max write limits
the reversal count, and an entry to ESCAPE by it marks the closing move it meets (R53, R80). Refusals in their order:
an identifier of no rule, BAD_CLOSURE, NOT_PERMITTED, a value the field does not have, NOT_IDLE. -/
def Obligations.WriteSetting : Prop :=
  (∀ (f : SeatFrame) (s : State) (b id : Byte) (v : BitVec 16), s.Awake →
     let args := [b, id] ++ bytesOf16 v
     (0x15 < id.toNat → id.toNat < 0x20 ∨ 0x24 < id.toNat →
       exec (.writeSetting f args) s = .next (s.answered f 0x41 4 .badArgument [])) ∧
     (id.toNat ≤ 0x15 → 8 ≤ b.toNat →
       exec (.writeSetting f args) s = .next (s.answered f 0x41 4 .badClosure []))) ∧
  (∀ (f : SeatFrame) (s : State) (k : ClosureId) (id : Byte) (v : BitVec 16), s.Awake → id.toNat ≤ 0x15 →
     let args := [byteOf k.val, id] ++ bytesOf16 v
     let c := s.closures[k]
     let d := c.desc
     let refused := fun r : Result => exec (.writeSetting f args) s = .next (s.answered f 0x41 4 r [])
     let becomes := fun (x : ClosureState) (taken : Nat) =>
       exec (.writeSetting f args) s = .next ((s.withClosure k x).answered f 0x41 4 .accepted (id :: be16 taken))
     let unlearned : Profile := { c.profile with status := .unlearned, dirty := true, capture := false }
     (s.seats[f.seat].record.grants .settings = false → refused .notPermitted) ∧
     (s.seats[f.seat].record.grants .settings = true →
       (d.write id.toNat v.toNat = none → refused .badArgument) ∧
       ((d.write id.toNat v.toNat).isSome = true → id.toNat ≤ 0x04 → c.ctx.state ≠ .idle → refused .notIdle) ∧
       (∀ (e : Description) (taken : Nat), d.write id.toNat v.toNat = some e → e.read id.toNat = some taken →
         0x05 ≤ id.toNat → id.toNat ≠ 0x14 → becomes { c with desc := e } taken) ∧
       (∀ e : Description, c.ctx.state = .idle → id = 0x00 → d.write 0x00 v.toNat = some e → e.cls ≠ d.cls →
         becomes { c with
             desc := { d with
               cls := e.cls, reversalMode := if e.cls = .panel ∨ e.cls = .shade then .full else .distance }
             profile := unlearned } e.cls.code) ∧
       (∀ e : Polarity, c.ctx.state = .idle → id = 0x01 → v.toNat = e.code →
         becomes { c with
             desc := { d with polarity := e }
             counter := { c.counter with validity := if e = d.polarity then c.counter.validity else .lost } } e.code) ∧
       (let n := max 512 (min 16000 v.toNat)
        c.ctx.state = .idle → id = 0x02 → d.endBand ≤ 64 → n ≠ d.travel →
          becomes { c with
              desc := { d with travel := n, pinchLimit := max (d.endBand + 4) (min n d.pinchLimit) }
              profile := unlearned
              counter := { c.counter with
                position := min (n + 64 : Int) c.counter.position
                validity := if (n + 64 : Int) < c.counter.position then .lost else c.counter.validity } } n) ∧
       (let n := max 4 (min 64 v.toNat)
        c.ctx.state = .idle → id = 0x03 → 512 ≤ d.travel → n ≠ d.endBand →
          becomes { c with
              desc := { d with endBand := n, pinchLimit := max (n + 4) (min d.travel d.pinchLimit) } } n) ∧
       (let n := max (d.endBand + 4) (min d.travel v.toNat)
        c.ctx.state = .idle → id = 0x04 → d.endBand + 4 ≤ d.travel →
          becomes { c with desc := { d with pinchLimit := n } } n) ∧
       (let n := max 200 (min 400 v.toNat)
        id = 0x0E → n ≠ d.thCeiling →
          becomes { c with desc := { d with thCeiling := n, thPinch := max 40 (min n d.thPinch) } } n) ∧
       (let unchanged := becomes c
        (c.ctx.state = .idle → id = 0x00 → v.toNat = d.cls.code → unchanged d.cls.code) ∧
        (c.ctx.state = .idle → id = 0x02 → max 512 (min 16000 v.toNat) = d.travel → unchanged d.travel) ∧
        (c.ctx.state = .idle → id = 0x03 → max 4 (min 64 v.toNat) = d.endBand → unchanged d.endBand) ∧
        (id = 0x0E → max 200 (min 400 v.toNat) = d.thCeiling → unchanged d.thCeiling) ∧
        (id = 0x14 → max 1 (min 7 v.toNat) = d.escapeMax → unchanged d.escapeMax)) ∧
       (id = 0x14 →
         let r := max 1 (min 7 v.toNat)
         let n := min r c.verdict.reversals
         let closing := (c.ctx.state = .running ∨ c.ctx.state = .reversing) ∧
           c.ctx.move.map (·.direction) = some .closing
         r ≠ d.escapeMax →
           becomes { c with
               desc := { d with escapeMax := r }
               verdict := { c.verdict with reversals := n, escape := decide (n = r) }
               profile := { c.profile with
                 escapeMark := c.profile.escapeMark || (decide (n = r) && !c.verdict.escape && decide closing) } } r)))

/-- WRITE SETTING of a device setting (R108) and of T_ret (R127): NOT_PERMITTED without the SETTINGS right; with it,
clamped values, the dependent ranges of V_resume and V_min, the effective slot count, and NOT_IDLE for K_slots. -/
def Obligations.WriteDeviceSettings : Prop :=
  (∀ (f : SeatFrame) (s : State) (b : Byte) (x : SupplySetting) (v : BitVec 16), s.Awake →
    s.seats[f.seat].record.grants .settings = false →
      exec (.writeDeviceSetting f b x v) s = .next (s.answered f 0x41 4 .notPermitted []) ∧
      exec (.writeTRet f b v) s = .next (s.answered f 0x41 4 .notPermitted [])) ∧
  ∀ (f : SeatFrame) (s : State) (b : Byte) (v : BitVec 16), s.Awake →
    s.seats[f.seat].record.grants .settings = true →
    (let x := max 1 (min 4 v.toNat)
     (∀ k : ClosureId, s.closures[k].ctx.state = .idle ∨ s.closures[k].ctx.state = .settling) →
       exec (.writeDeviceSetting f b .slots v) s = .next
         (({ s with
            settings := { s.settings with slots := x }
            arbiter := { s.arbiter with
              effective := if s.arbiter.derating then s.arbiter.effective else x } }).answered
           f 0x41 4 .accepted (0x20 :: be16 x))) ∧
    ((∃ k : ClosureId, s.closures[k].ctx.state ≠ .idle ∧ s.closures[k].ctx.state ≠ .settling) →
      exec (.writeDeviceSetting f b .slots v) s = .next (s.answered f 0x41 4 .notIdle [])) ∧
    (let x := max 9000 (min 12000 v.toNat)
     exec (.writeDeviceSetting f b .vLow v) s = .next
       (({ s with settings := { s.settings with
            vLow := x
            vResume := max (x + 200) (min 13000 s.settings.vResume)
            vMin := max 7000 (min (x - 500) s.settings.vMin) } }).answered f 0x41 4 .accepted (0x21 :: be16 x))) ∧
    (9000 ≤ s.settings.vLow → s.settings.vLow ≤ 12000 →
      (let x := max (s.settings.vLow + 200) (min 13000 v.toNat)
       exec (.writeDeviceSetting f b .vResume v) s = .next
         (({ s with settings := { s.settings with vResume := x } }).answered f 0x41 4 .accepted (0x22 :: be16 x))) ∧
      (let x := max 7000 (min (s.settings.vLow - 500) v.toNat)
       exec (.writeDeviceSetting f b .vMin v) s = .next
         (({ s with settings := { s.settings with vMin := x } }).answered f 0x41 4 .accepted (0x23 :: be16 x)))) ∧
    (let x := min 255 v.toNat
     exec (.writeTRet f b v) s = .next
       (({ s with settings := { s.settings with tRet := x } }).answered f 0x41 4 .accepted (0x24 :: be16 x)))

/-- The word operations of R124 on SPEED BAND, ROUGHNESS and SLEEP PERMIT, whose changes are handed to no block; and on
every word the refusals of R124, and a COMPARE AND WRITE that does not match. -/
def Obligations.WordOperations : Prop :=
  (∀ (f : SeatFrame) (s : State) (w : Fin 6) (v e : Byte), s.Awake → 3 ≤ w.val →
     hasMember s.seats[f.seat].record.wordMask w.val = true →
     let old := s.words[w]
     let top : Byte := if w = 5 then 1 else 3
     let put := fun (code : Byte) (argc : Nat) (x : Byte) =>
       let new := if top < x then top else x
       ({ s with words := s.words.set w new }).answered f code argc .accepted [byteOf w.val, old, new]
     exec (.writeWord f [byteOf w.val, v]) s = .next (put 0x51 2 v) ∧
     exec (.setBits f [byteOf w.val, v]) s = .next (put 0x52 2 (old ||| v)) ∧
     exec (.clearBits f [byteOf w.val, v]) s = .next (put 0x53 2 (old &&& ~~~v)) ∧
     (old = e → exec (.compareAndWrite f [byteOf w.val, e, v]) s = .next (put 0x54 3 v))) ∧
  (∀ (f : SeatFrame) (s : State) (w : Fin 6) (v e : Byte), s.Awake →
     hasMember s.seats[f.seat].record.wordMask w.val = true → s.words[w] ≠ e →
       exec (.compareAndWrite f [byteOf w.val, e, v]) s = .next (s.answered f 0x54 3 .mismatch [s.words[w]])) ∧
  (∀ (f : SeatFrame) (s : State) (b v e : Byte), s.Awake →
     let all := fun r : Result =>
       exec (.writeWord f [b, v]) s = .next (s.answered f 0x51 2 r []) ∧
       exec (.setBits f [b, v]) s = .next (s.answered f 0x52 2 r []) ∧
       exec (.clearBits f [b, v]) s = .next (s.answered f 0x53 2 r []) ∧
       exec (.compareAndWrite f [b, e, v]) s = .next (s.answered f 0x54 3 r [])
     (6 ≤ b.toNat → all .badArgument) ∧
     (b.toNat < 6 → hasMember s.seats[f.seat].record.wordMask b.toNat = false → all .notPermitted))

/-- R124, R127: what the word operations on IGNITION and FRONT DOORS make of the retained window. -/
def Obligations.RetainedWindowFollowsWords : Prop :=
  ∀ (f : SeatFrame) (s : State) (v : Byte), s.Awake →
    let all := fun (w : Fin 6) (put : Byte → Nat → Byte → State) =>
      let old := s.words[w]
      exec (.writeWord f [byteOf w.val, v]) s = .next (put 0x51 2 v) ∧
      exec (.setBits f [byteOf w.val, v]) s = .next (put 0x52 2 (old ||| v)) ∧
      exec (.clearBits f [byteOf w.val, v]) s = .next (put 0x53 2 (old &&& ~~~v)) ∧
      exec (.compareAndWrite f [byteOf w.val, old, v]) s = .next (put 0x54 3 v)
    (hasMember s.seats[f.seat].record.wordMask 1 = true →
      all 1 fun code argc x =>
        let old := s.words[1]
        let new : Byte := if 2 < x.toNat then 2 else x
        ({ s with
            words := s.words.set 1 new
            window :=
              if old ≠ 0 ∧ new = 0 ∧ s.settings.tRet ≠ 0 then some (s.now + f.dt + s.settings.tRet * 1000000)
              else if old = 0 ∧ new ≠ 0 then none
              else s.window }).answered f code argc .accepted [1, old, new]) ∧
    (hasMember s.seats[f.seat].record.wordMask 2 = true →
      all 2 fun code argc x =>
        let old := s.words[2]
        let new : Byte := x &&& 3
        ({ s with
            words := s.words.set 2 new
            window := if new &&& ~~~old = 0 then s.window else none }).answered f code argc .accepted [2, old, new])

/-- R99, R124, R126: a bit set in CHILD LOCK ends the RUNNING LOCAL move of its closure and removes a QUEUED one,
LOCKED_OUT; with no LOCAL move there, the word alone changes. A change of CHILD LOCK by any word operation, that adds
any closures, removes the QUEUED LOCAL moves of all that it adds, in ascending closure order (R104), and ends the
RUNNING ones; with nothing else waiting, that is all, and a slot so released goes to the head of what waits (R111). -/
def Obligations.ChildLockEndsLocalMoves : Prop :=
  (∀ (f : SeatFrame) (s : State) (k : ClosureId), s.Awake →
    hasMember s.seats[f.seat].record.wordMask 0 = true → hasMember s.words[0] k.val = false →
    let new : Byte := s.words[0] ||| byteOf (2 ^ k.val)
    let written := { s with words := s.words.set 0 new }
    let items : List Byte := [0, s.words[0], new]
    (∀ m, s.closures[k].ctx.move = some m → m.origin = .seatSwitch → s.closures[k].ctx.state = .running →
      s.arbiter.queue = [] →
        exec (.setBits f [0, byteOf (2 ^ k.val)]) s = .next
          ((written.moveEnded k (s.now + f.dt) .lockedOut none).answered f 0x52 2 .accepted items)) ∧
    (∀ m, s.closures[k].ctx.move = some m → m.origin = .seatSwitch → s.closures[k].ctx.state = .queued →
      ∃ t, exec (.setBits f [0, byteOf (2 ^ k.val)]) s = .next t ∧
        written.RemovedMove t k m .lockedOut none (s.now + f.dt) ∧ s.Answers t f 0x52 2 .accepted items) ∧
    ((∀ m, s.closures[k].ctx.move = some m → m.origin = .seatSwitch →
        s.closures[k].ctx.state ≠ .running ∧ s.closures[k].ctx.state ≠ .queued) →
      exec (.setBits f [0, byteOf (2 ^ k.val)]) s = .next (written.answered f 0x52 2 .accepted items))) ∧
  (∀ (f : SeatFrame) (s : State) (v : Byte), s.Awake → hasMember s.seats[f.seat].record.wordMask 0 = true →
     let old := s.words[0]
     let now := s.now + f.dt
     let writes := fun (i : Instr) (code : Byte) (argc : Nat) (new : Byte) =>
       let added := fun (k : ClosureId) (state : CtxState) =>
         hasMember new k.val && !hasMember old k.val && decide (s.closures[k].ctx.state = state) &&
           decide (s.closures[k].ctx.move.map (·.origin) = some .seatSwitch)
       let locked := fun k : ClosureId =>
         let c := s.closures[k]
         match c.ctx.move with
         | some m =>
           if added k .running then c.settledAt now .lockedOut none
           else if added k .queued then c.removedAt k m .lockedOut none s.front.reading
           else c
         | none => c
       let settled : State :=
         { s with
           words := s.words.set 0 new
           closures := Vector.ofFn locked
           arbiter := { s.arbiter with
             queue := s.arbiter.queue.filter fun e => !added e.closure .queued
             held := Vector.ofFn fun k : ClosureId => s.arbiter.held[k] && !added k .running } }
       let told := fun n : SeatId => allClosures.filterMap fun k =>
         match s.closures[k].ctx.move with
         | some m =>
           if added k .queued = true ∧ s.Hears k m.seat n then
             some ({ body := .moveEnded (s.closures[k].removal k m .lockedOut none s.front.reading), time := now } : Notice)
           else none
         | none => none
       let becomes := fun u : State =>
         ∃ t, exec i s = .next t ∧ t.closures = u.closures ∧ t.arbiter = u.arbiter ∧ settled.SameElsewhere t ∧
           (∀ n : SeatId,
             (s.seats[n].queue.length + (told n).length ≤ 16 → t.seats[n].queue = s.seats[n].queue ++ told n) ∧
             (told n = [] → t.seats[n].queue = s.seats[n].queue ∧ t.seats[n].line = s.seats[n].line)) ∧
           s.Answers t f code argc .accepted [0, old, new]
       ((∀ k : ClosureId, added k .running = false) ∨ settled.arbiter.queue = [] → becomes settled) ∧
       (∀ (k : ClosureId) (e : QueueEntry) (rest : List QueueEntry) (m : Move), added k .running = true →
         (∀ j : ClosureId, added j .running = true → j = k) → settled.arbiter.queue = e :: rest →
         e.closure ≠ k → s.closures[e.closure].ctx.move = some m → m.Runs → s.arbiter.held[e.closure] = false →
         settled.arbiter.heldCount + 1 = s.arbiter.effective → s.arbiter.unparkPending = false →
         s.arbiter.unparkWait = .none → becomes (settled.granted e.closure m now))
     writes (.writeWord f [0, v]) 0x51 2 v ∧
     writes (.setBits f [0, v]) 0x52 2 (old ||| v) ∧
     writes (.clearBits f [0, v]) 0x53 2 (old &&& ~~~v) ∧
     writes (.compareAndWrite f [0, old, v]) 0x54 3 v)

/-! Motion commands. -/

/-- R86, checks 1 to 9 in their order: the refusal of the first that fails, and none when all pass. A closure byte above 7
is BAD_CLOSURE, and a kind, direction or origin byte that codes no value BAD_ARGUMENT on a closure in use (checks 1 and
2). A MOVE refused by a check or by contention (R89 to R91) changes nothing but the seat's pending reply. -/
def Obligations.MoveRefusals : Prop :=
  (∀ (s : State) (k : ClosureId) (m : Move),
     let c := s.closures[k]
     let r := s.seats[m.seat].record
     let checks : List (Result × Bool) :=
       [(.badClosure, c.desc.cls = .unused),
         (.badArgument, (m.kind = .learn ∨ m.kind = .normalise) ∧ m.direction = .opening),
         (.notPermitted, ¬ hasMember r.moveMask k.val ∨ (m.kind = .global ∧ ¬ hasMember r.rights 0)
           ∨ ((m.kind = .learn ∨ m.kind = .normalise ∨ m.origin = .service) ∧ ¬ hasMember r.rights 1)),
         (.childLocked, m.origin = .seatSwitch ∧ hasMember s.words[0] k.val),
         (.ignitionOff, (m.origin = .panel ∨ m.origin = .seatSwitch) ∧ s.words[1] = 0 ∧ s.window = none),
         (.notReady, ((m.kind = .oneTouch ∨ m.kind = .global) ∧ c.readiness ≠ .full)
           ∨ (m.kind = .learn ∧ c.readiness = .blind)),
         (.escapeActive, c.verdict.escape ∧ m.direction = .closing ∧ (m.kind = .oneTouch ∨ m.kind = .global)),
         (.supplyLow, m.direction = .closing ∧ s.front.reading < s.settings.vMin),
         (.badArgument, m.kind = .learn ∧ c.counter.position < c.desc.travel - c.desc.travel / 64)]
     s.moveRefusal k m = (checks.find? fun x => x.2).map (·.1)) ∧
  (∀ (f : SeatFrame) (s : State) (k : ClosureId) (m : Move), s.Awake → m.seat = f.seat →
     (∀ p, m.target = some p → -32768 ≤ p ∧ p < 32767) →
     let asked : Move := { m with target := m.target.map (fun p => max 0 (min (s.closures[k].desc.travel : Int) p)) }
     let reply := fun r : Result =>
       exec (.move f (moveArgs k m)) s = .next (s.answered f 0x10 (moveArgs k m).length r [])
     let x := s.closures[k].ctx
     (∀ r, s.moveRefusal k asked = some r → reply r) ∧
     (∀ old, s.moveRefusal k asked = none → x.move = some old → x.state = .queued ∨ x.state = .running →
       old.seat ≠ m.seat → old.direction = m.direction → reply .busy) ∧
     (s.moveRefusal k asked = none → x.state = .reversing → m.direction = .closing → reply .reversing)) ∧
  (∀ (f : SeatFrame) (s : State) (b kind direction origin : Byte) (target : List Byte), s.Awake →
     target.length = 0 ∨ target.length = 2 →
     let args := [b, kind, direction, origin] ++ target
     let reply := fun r : Result => exec (.move f args) s = .next (s.answered f 0x10 args.length r [])
     (8 ≤ b.toNat → reply .badClosure) ∧
     (∀ k : ClosureId, b = byteOf k.val →
       (s.closures[k].desc.cls = .unused → reply .badClosure) ∧
       (s.closures[k].desc.cls ≠ .unused → 4 < kind.toNat ∨ 1 < direction.toNat ∨ 4 < origin.toNat →
         reply .badArgument)))

/-- R88: a MOVE taken at an IDLE context with no slot free makes it QUEUED; it joins the slot queue as a new arrival. -/
def Obligations.MoveQueues : Prop :=
  ∀ (f : SeatFrame) (s : State) (k : ClosureId) (m : Move), s.Awake → m.seat = f.seat →
    (∀ p, m.target = some p → 0 ≤ p ∧ p ≤ s.closures[k].desc.travel ∧ p < 32767) →
    s.moveRefusal k m = none → s.closures[k].ctx.state = .idle →
    s.arbiter.effective ≤ s.arbiter.heldCount →
    let number := if s.arbiter.queue = [] then 1 else s.arbiter.lastArrival + 1
    let joined := s.withClosure k { s.closures[k] with
      ctx := Context.arrived m (s.now + f.dt) s.seats[f.seat].record.holdUnits }
    exec (.move f (moveArgs k m)) s = .next
      (({ joined with arbiter := { s.arbiter with
            queue := joined.insertEntry { closure := k, arrival := number } s.arbiter.queue
            lastArrival := number } }).answered f 0x10 (moveArgs k m).length .accepted
        ([byteOf k.val] ++ targetBytes m.target ++ [0]))

/-- R88, R92, R93, R107: a MOVE taken at an IDLE context with a slot free and nothing waiting is granted at once: RUNNING
with its permit active, or, with its target already reached, SETTLING with the slot released again. R111: a slot that
STOP releases, and the slots that the end of derating frees at a refresh (R113), go to the head of the slot queue. -/
def Obligations.MoveGranted : Prop :=
  (∀ (f : SeatFrame) (s : State) (k : ClosureId) (m : Move), s.Awake → m.seat = f.seat →
     (∀ p, m.target = some p → 0 ≤ p ∧ p ≤ s.closures[k].desc.travel ∧ p < 32767) →
     s.moveRefusal k m = none → s.closures[k].ctx.state = .idle → s.arbiter.queue = [] → s.SlotFree →
     let now := s.now + f.dt
     let arrived : ClosureState :=
       { s.closures[k] with ctx := Context.arrived m now s.seats[f.seat].record.holdUnits }
     let granted := arrived.grantedAt m now s.front.reading
     let atTarget := m.kind ≠ .learn ∧ m.kind ≠ .normalise ∧
       ∃ p ∈ m.target, (m.direction = .closing ∧ s.closures[k].counter.position ≤ p)
         ∨ (m.direction = .opening ∧ p ≤ s.closures[k].counter.position)
     let items := [byteOf k.val] ++ targetBytes m.target ++ [0]
     (¬ atTarget →
       exec (.move f (moveArgs k m)) s = .next
         (({ s.withClosure k (granted.drivenAt now m.direction) with
             arbiter := { s.arbiter with held := s.arbiter.held.set k true, lastArrival := 1 } }).answered
           f 0x10 (moveArgs k m).length .accepted items)) ∧
     (atTarget →
       exec (.move f (moveArgs k m)) s = .next
         (({ s.withClosure k (granted.settledAt now .targetReached none) with
             arbiter := { s.arbiter with held := s.arbiter.held.set k false, lastArrival := 1 } }).answered
           f 0x10 (moveArgs k m).length .accepted items))) ∧
  (∀ (e : QueueEntry) (rest : List QueueEntry) (m : Move) (s : State), s.arbiter.queue = e :: rest →
     s.closures[e.closure].ctx.move = some m → m.Runs → s.arbiter.held[e.closure] = false →
     s.arbiter.unparkPending = false → s.arbiter.unparkWait = .none →
     (∀ (f : SeatFrame) (k : ClosureId), s.Awake → s.arbiter.heldCount = s.arbiter.effective →
       hasMember s.seats[f.seat].record.moveMask k.val = true → s.closures[k].ctx.followOn = none →
       s.closures[k].ctx.state = .running ∨ s.closures[k].ctx.state = .reversing → s.arbiter.held[k] = true →
       k ≠ e.closure →
         exec (.stop f [byteOf k.val]) s = .next
           (((s.moveEnded k (s.now + f.dt) .stopped (some f.seat)).granted e.closure m (s.now + f.dt)).answered
             f 0x12 1 .accepted [])) ∧
     (∀ dt : Nat, s.Attentive → s.arbiter.heldCount + 1 = s.settings.slots → s.arbiter.derating = true →
       s.arbiter.supplyNotice = false → s.front.window.length = 20 →
       let mean := s.front.window.sum / 20
       let V := max 6000 (min 18000 mean)
       s.settings.vResume ≤ V → s.settings.vMin ≤ V →
         exec (.supplyRefresh dt) s = .next
           (({ s.later dt with
               front := { s.front with reading := V, outOfRange := decide (mean < 6000 ∨ 18000 < mean) }
               arbiter := { s.arbiter with
                 derating := false, effective := s.settings.slots, supplyState := .above } }).granted
             e.closure m (s.now + dt))))

/-- R118, R158: with unpark pending set, an arrival that finds a slot free makes no grant. With no unpark wait the unpark
write begins when the store is idle, and the wait is for the store when a commit is in flight; a wait that has begun is
not changed. -/
def Obligations.MoveWaitsForUnpark : Prop :=
  ∀ (f : SeatFrame) (s : State) (k : ClosureId) (m : Move), s.Awake → m.seat = f.seat → m.target = none →
    s.moveRefusal k m = none → s.closures[k].ctx.state = .idle → s.arbiter.queue = [] →
    s.arbiter.heldCount < s.arbiter.effective → s.arbiter.unparkPending = true →
    let waits := fun (wait : UnparkWait) (store : Store) =>
      exec (.move f (moveArgs k m)) s = .next
        (({ s.withClosure k { s.closures[k] with
              ctx := Context.arrived m (s.now + f.dt) s.seats[f.seat].record.holdUnits } with
            arbiter := { s.arbiter with
              queue := [{ closure := k, arrival := 1 }], lastArrival := 1, unparkWait := wait }
            store := store }).answered
          f 0x10 4 .accepted [byteOf k.val, 0x7F, 0xFF, 0])
    (s.arbiter.unparkWait = .none → s.store.job = .idle →
      waits .writing { s.store with job := .unparking, image := { s.store.image with valid := false } }) ∧
    (∀ (n : SeatId) (park : Bool) (captured : Image), s.arbiter.unparkWait = .none →
      s.store.job = .committing n park captured → waits .waitingForStore s.store) ∧
    (s.arbiter.unparkWait ≠ .none → waits s.arbiter.unparkWait s.store)

/-- R89 to R91: a MOVE at a QUEUED context in the waiting move's direction, of its owner seat, replaces it in place, the
entry taking the place in the queue that its class and its kept arrival number give; one in the opposite direction
removes it SUPERSEDED and joins as a new arrival. At a RUNNING context a MOVE of the owner seat in the same direction
replaces the move in place, its target tested at once (R93), unless it or the running move is of kind LEARN or NORMALISE;
such a MOVE, and one in the opposite direction, ends the move SUPERSEDED and waits as the follow-on. A MOVE at a SETTLING
context, or an opening one at a REVERSING context, waits as the follow-on too, and drops one already held with
FOLLOW_ON_DROPPED. R114: a move replaced into class 1 or 2 after more than 8,000 ms in the queue is removed
QUEUE_TIMEOUT; that the removal is part of the same event, and that at exactly 8,000 ms it is not, is the model's reading
(log entry 18). -/
def Obligations.MoveAtBusyContext : Prop :=
  ∀ (f : SeatFrame) (s : State) (k : ClosureId) (m : Move), s.Awake → m.seat = f.seat →
    (∀ p, m.target = some p → 0 ≤ p ∧ p ≤ s.closures[k].desc.travel ∧ p < 32767) →
    s.moveRefusal k m = none →
    let c := s.closures[k]
    let now := s.now + f.dt
    let argc := (moveArgs k m).length
    let run := exec (.move f (moveArgs k m)) s
    let items := fun way : Byte => [byteOf k.val] ++ targetBytes m.target ++ [way]
    let holdUnits := s.seats[f.seat].record.holdUnits
    let toStop := fun x : Move => x.kind = .learn ∨ x.kind = .normalise
    let replaced : ClosureState :=
      { c with ctx := { c.ctx with
          move := some m
          holdDeadline := if m.kind = .held ∨ m.kind = .normalise then some (now + holdUnits * 10000) else none } }
    (∀ old, c.ctx.state = .running → c.ctx.move = some old → old.direction = m.direction → old.seat = f.seat →
      ¬ toStop old → ¬ toStop m →
        let reached := ∃ p ∈ m.target,
          (m.direction = .closing ∧ c.counter.position ≤ p) ∨ (m.direction = .opening ∧ p ≤ c.counter.position)
        (¬ reached → run = .next ((s.withClosure k replaced).answered f 0x10 argc .accepted (items 1))) ∧
        (reached → s.arbiter.queue = [] →
          run = .next (((s.withClosure k replaced).moveEnded k now .targetReached none).answered
            f 0x10 argc .accepted (items 1)))) ∧
    (∀ old, c.ctx.state = .running → c.ctx.move = some old → c.ctx.followOn = none →
      old.direction ≠ m.direction ∨ (old.seat = f.seat ∧ (toStop old ∨ toStop m)) → s.arbiter.queue = [] →
        let ended := s.moveEnded k now .superseded (some f.seat)
        let x := ended.closures[k]
        run = .next ((ended.withClosure k { x with ctx := { x.ctx with followOn := some m } }).answered
          f 0x10 argc .accepted (items 2))) ∧
    (c.ctx.state = .settling ∨ (c.ctx.state = .reversing ∧ m.direction = .opening) →
      let stored : ClosureState := { c with ctx := { c.ctx with followOn := some m } }
      (c.ctx.followOn = none → run = .next ((s.withClosure k stored).answered f 0x10 argc .accepted (items 2))) ∧
      (∀ g, c.ctx.followOn = some g →
        ∃ t, run = .next t ∧ t.closures = s.closures.set k stored ∧ t.arbiter = s.arbiter ∧
          s.Told t (fun n => n = g.seat) (.followOnDropped k .superseded g) now ∧ s.SameElsewhere t ∧
          s.Answers t f 0x10 argc .accepted (items 2))) ∧
    (∀ (old : Move) (e : QueueEntry) (entry : Nat), c.ctx.state = .queued → c.ctx.move = some old →
      old.direction = m.direction → old.seat = f.seat → c.ctx.queueEntry = some entry →
      e ∈ s.arbiter.queue → e.closure = k → (s.arbiter.queue.map (·.closure)).Nodup →
      let placed := s.withClosure k replaced
      let moved : State :=
        { placed with arbiter := { s.arbiter with
            queue := placed.insertEntry e (s.arbiter.queue.filter fun x => decide (x.closure ≠ k)) } }
      let late := (m.kind = .oneTouch ∨ m.kind = .global) ∧ entry + 8000000 < now
      (¬ late → run = .next (moved.answered f 0x10 argc .accepted (items 1))) ∧
      (late → ∃ t, run = .next t ∧ moved.RemovedMove t k m .queueTimeout none now ∧
        s.Answers t f 0x10 argc .accepted (items 1))) ∧
    (∀ old, c.ctx.state = .queued → c.ctx.move = some old → old.direction ≠ m.direction →
      s.arbiter.effective ≤ s.arbiter.heldCount →
      let left := (s.arbiter.without k).queue
      let number := if left = [] then 1 else s.arbiter.lastArrival + 1
      ∃ t, run = .next t ∧
        t.closures = s.closures.set k
          { c.removedAt k old .superseded (some f.seat) s.front.reading with ctx := Context.arrived m now holdUnits } ∧
        t.arbiter = { s.arbiter with
          queue := t.insertEntry { closure := k, arrival := number } left, lastArrival := number } ∧
        s.Told t (s.Hears k old.seat) (.moveEnded (c.removal k old .superseded (some f.seat) s.front.reading)) now ∧
        s.SameElsewhere t ∧ s.Answers t f 0x10 argc .accepted (items 0))

/-- RENEW (R94): the hold deadline of the owner's HELD or NORMALISE move, QUEUED or RUNNING; NO_MOVE otherwise. -/
def Obligations.RenewSetsDeadline : Prop :=
  ∀ (f : SeatFrame) (s : State), s.Awake →
    (∀ k : ClosureId,
      let x := s.closures[k].ctx
      let mayRenew := (x.state = .queued ∨ x.state = .running) ∧
        ∃ m ∈ x.move, (m.kind = .held ∨ m.kind = .normalise) ∧ m.seat = f.seat
      (mayRenew →
        exec (.renew f [byteOf k.val]) s = .next
          ((s.withClosure k { s.closures[k] with ctx := { x with
              holdDeadline := some (s.now + f.dt + s.seats[f.seat].record.holdUnits * 10000) } }).answered
            f 0x11 1 .accepted [])) ∧
      (¬ mayRenew → exec (.renew f [byteOf k.val]) s = .next (s.answered f 0x11 1 .noMove []))) ∧
    (∀ b : Byte, 8 ≤ b.toNat → exec (.renew f [b]) s = .next (s.answered f 0x11 1 .badClosure []))

/-- STOP (R95) and CLEAR (R98), with nothing waiting for the slot that they release, and their refusals: a RUNNING or
REVERSING move ends, a QUEUED one is removed, a follow-on is dropped with its notice, an IDLE context stays. CLEAR sets
the reversal count and the phase-fault count to 0 and takes the closure out of ESCAPE; the move mask is not checked. -/
def Obligations.StopAndClearHalt : Prop :=
  (∀ (f : SeatFrame) (s : State) (k : ClosureId), s.Awake →
     let c := s.closures[k]
     let x := c.ctx
     let now := s.now + f.dt
     let run := exec (.stop f [byteOf k.val]) s
     (hasMember s.seats[f.seat].record.moveMask k.val = true →
       (s.arbiter.queue = [] → x.followOn = none → x.state = .running ∨ x.state = .reversing →
         run = .next ((s.moveEnded k now .stopped (some f.seat)).answered f 0x12 1 .accepted [])) ∧
       (x.followOn = none → x.state = .idle ∨ x.state = .settling → run = .next (s.answered f 0x12 1 .accepted [])) ∧
       (∀ m, x.state = .queued → x.move = some m →
         ∃ t, run = .next t ∧ s.RemovedMove t k m .stopped (some f.seat) now ∧ s.Answers t f 0x12 1 .accepted []) ∧
       (∀ g, x.followOn = some g → x.state = .settling ∨ (x.state = .reversing ∧ s.arbiter.queue = []) →
         let ended := if x.state = .settling then s else s.moveEnded k now .stopped (some f.seat)
         let y := ended.closures[k]
         ∃ t, run = .next t ∧ t.closures = s.closures.set k { y with ctx := { y.ctx with followOn := none } } ∧
           t.arbiter = ended.arbiter ∧ s.Told t (fun n => n = g.seat) (.followOnDropped k .stopped g) now ∧
           s.SameElsewhere t ∧ s.Answers t f 0x12 1 .accepted [])) ∧
     (hasMember s.seats[f.seat].record.moveMask k.val = false → run = .next (s.answered f 0x12 1 .notPermitted [])) ∧
     (∀ b : Byte, 8 ≤ b.toNat → exec (.stop f [b]) s = .next (s.answered f 0x12 1 .badClosure []))) ∧
  (∀ (f : SeatFrame) (s : State) (k : ClosureId), s.Awake →
     let clean := fun c : ClosureState =>
       { c with
         verdict := { c.verdict with reversals := 0, escape := false }
         counter := { c.counter with phaseFaults := 0 } }
     let c := s.closures[k]
     let x := c.ctx
     let now := s.now + f.dt
     let run := exec (.clear f [byteOf k.val]) s
     (s.seats[f.seat].record.grants .service = true →
       (s.arbiter.queue = [] → x.followOn = none → x.state = .running ∨ x.state = .reversing →
         let ended := s.moveEnded k now .cleared (some f.seat)
         run = .next ((ended.withClosure k (clean ended.closures[k])).answered f 0x14 1 .accepted [])) ∧
       (x.followOn = none → x.state = .idle ∨ x.state = .settling →
         run = .next ((s.withClosure k (clean c)).answered f 0x14 1 .accepted [])) ∧
       (∀ m, x.state = .queued → x.move = some m →
         ∃ t, run = .next t ∧
           t.closures = s.closures.set k (clean (c.removedAt k m .cleared (some f.seat) s.front.reading)) ∧
           t.arbiter = s.arbiter.without k ∧
           s.Told t (s.Hears k m.seat) (.moveEnded (c.removal k m .cleared (some f.seat) s.front.reading)) now ∧
           s.SameElsewhere t ∧ s.Answers t f 0x14 1 .accepted []) ∧
       (∀ g, x.followOn = some g → x.state = .settling ∨ (x.state = .reversing ∧ s.arbiter.queue = []) →
         let ended := if x.state = .settling then s else s.moveEnded k now .cleared (some f.seat)
         let y := ended.closures[k]
         ∃ t, run = .next t ∧
           t.closures = s.closures.set k (clean { y with ctx := { y.ctx with followOn := none } }) ∧
           t.arbiter = ended.arbiter ∧ s.Told t (fun n => n = g.seat) (.followOnDropped k .cleared g) now ∧
           s.SameElsewhere t ∧ s.Answers t f 0x14 1 .accepted [])) ∧
     (s.seats[f.seat].record.grants .service = false → run = .next (s.answered f 0x14 1 .notPermitted [])) ∧
     (∀ b : Byte, 8 ≤ b.toNat → exec (.clear f [b]) s = .next (s.answered f 0x14 1 .badClosure [])))

/-- ALL-STOP (R97, R104): every QUEUED move is removed, in ascending closure order, every RUNNING or REVERSING move enters
SETTLING with its slot released, all with ALL_STOPPED; every follow-on is dropped without a notice, and every other
context is as it was; through a seat it is answered, through the broadcast address it is not. The order of the endings
is the model's reading (log entry 14). -/
def Obligations.AllStopHalts : Prop :=
  ∀ (dt : Nat) (target : Target) (fin : FrameEnd) (s : State), s.Awake → s.MotionLaw →
    let who : Option SeatId := match target with | .seat n => some n | .broadcast => none
    let now := s.now + dt
    let halted := fun k : ClosureId =>
      let c := s.closures[k]
      match c.ctx.state, c.ctx.move with
      | .running, _ | .reversing, _ => c.settledAt now .allStopped who
      | .queued, some m => c.removedAt k m .allStopped who s.front.reading
      | .queued, none | .idle, _ | .settling, _ => c
    let told := fun n : SeatId => allClosures.filterMap fun k =>
      match s.closures[k].ctx.state, s.closures[k].ctx.move with
      | .queued, some m =>
        if s.Hears k m.seat n then
          some ({ body := .moveEnded (s.closures[k].removal k m .allStopped who s.front.reading), time := now } : Notice)
        else none
      | _, _ => none
    ∃ t, exec (.allStop dt target fin []) s = .next t ∧
      (∀ k : ClosureId,
        t.closures[k] = { halted k with ctx := { (halted k).ctx with followOn := none } } ∧ t.arbiter.held[k] = false) ∧
      t.arbiter = { s.arbiter with queue := [], held := t.arbiter.held } ∧ s.SameElsewhere t ∧
      (∀ n : SeatId,
        (s.seats[n].queue.length + (told n).length ≤ 16 → t.seats[n].queue = s.seats[n].queue ++ told n) ∧
        (told n = [] → target ≠ .seat n → t.seats[n] = s.seats[n]) ∧
        (target = .seat n → t.seats[n].reply = some
          { result := .accepted, command := 0x1F, overwritten := s.seats[n].reply.isSome, items := [] }))

/-- GLOBAL (R96): a mask of one closure at an IDLE context with no slot free queues a move of kind GLOBAL; a mask of
closures that are all UNUSED is accepted with none taken; the refusals, those of bytes that code no direction or origin
among them. A mask of any closures, those not refused IDLE, with no slot free: the closures that pass the checks join the
slot queue in ascending order, and the reply carries their mask and the refusal of the lowest-numbered closure refused;
with slots free the lowest-numbered are granted at their arrivals and the others wait (R111). Whatever the context, a
mask of one closure does what a MOVE of kind GLOBAL does there (R89 to R91). The closures are taken in ascending order, the
notices and removals of each at its turn. The slot that a superseded move releases is granted before the next closure of
the mask is taken (R111): to a waiting move of the seat, which is then replaced in place, when it has waited no more than
8,000 ms. The closures whose moves the command removes, superseded (R89) or replaced after more than 8,000 ms (R114), have
left the slot queue before any such grant (R104, R111; that GLOBAL is an event of this sort is the model's reading, log
entry 14). -/
def Obligations.GlobalQueues : Prop :=
  ∀ (f : SeatFrame) (s : State) (d : Direction) (o : Origin), s.Awake →
    (∀ k : ClosureId,
      let m : Move := { seat := f.seat, kind := .global, direction := d, origin := o, target := none }
      hasMember s.seats[f.seat].record.rights 0 = true → s.moveRefusal k m = none → s.closures[k].ctx.state = .idle →
      s.arbiter.queue = [] → s.arbiter.effective ≤ s.arbiter.heldCount →
        exec (.global f [byteOf (2 ^ k.val), byteOf d.code, byteOf o.code]) s = .next
          (({ s.withClosure k { s.closures[k] with ctx := Context.arrived m (s.now + f.dt) 0 } with
              arbiter := { s.arbiter with queue := [{ closure := k, arrival := 1 }], lastArrival := 1 } }).answered
            f 0x13 3 .accepted [byteOf (2 ^ k.val), 0])) ∧
    (∀ mask : Byte, hasMember s.seats[f.seat].record.rights 0 = true → mask ≠ 0 →
      (∀ k : ClosureId, hasMember mask k.val = true → s.closures[k].desc.cls = .unused) →
        exec (.global f [mask, byteOf d.code, byteOf o.code]) s = .next
          (s.answered f 0x13 3 .accepted [0, 0x01])) ∧
    (∀ mask : Byte,
      let m : Move := { seat := f.seat, kind := .global, direction := d, origin := o, target := none }
      let asked : List ClosureId := allClosures.filter fun k => hasMember mask k.val
      let taken : List ClosureId := asked.filter fun k => (s.moveRefusal k m).isNone
      hasMember s.seats[f.seat].record.rights 0 = true → mask ≠ 0 → (∀ k ∈ taken, s.closures[k].ctx.state = .idle) →
      s.arbiter.queue = [] → s.arbiter.effective ≤ s.arbiter.heldCount →
        exec (.global f [mask, byteOf d.code, byteOf o.code]) s = .next
          (({ s with
              closures := Vector.ofFn fun k : ClosureId =>
                if k ∈ taken then { s.closures[k] with ctx := Context.arrived m (s.now + f.dt) 0 } else s.closures[k]
              arbiter := { s.arbiter with
                queue := taken.zipIdx.map fun x : ClosureId × Nat => { closure := x.1, arrival := x.2 + 1 }
                lastArrival := if taken = [] then s.arbiter.lastArrival else taken.length } }).answered
            f 0x13 3 .accepted
            [byteOf (taken.map fun k : ClosureId => 2 ^ k.val).sum,
              byteOf ((asked.findSome? fun k => s.moveRefusal k m).getD .accepted).code])) ∧
    (∀ mask : Byte,
      let m : Move := { seat := f.seat, kind := .global, direction := d, origin := o, target := none }
      let now := s.now + f.dt
      let asked : List ClosureId := allClosures.filter fun k => hasMember mask k.val
      let taken : List ClosureId := asked.filter fun k => (s.moveRefusal k m).isNone
      let first := taken.take (s.arbiter.effective - s.arbiter.heldCount)
      let waiting := taken.drop (s.arbiter.effective - s.arbiter.heldCount)
      hasMember s.seats[f.seat].record.rights 0 = true → mask ≠ 0 → s.arbiter.queue = [] → s.SlotFree →
      (∀ k ∈ taken, s.closures[k].ctx.state = .idle ∧ s.arbiter.held[k] = false) →
        exec (.global f [mask, byteOf d.code, byteOf o.code]) s = .next
          (({ s with
              closures := Vector.ofFn fun k : ClosureId =>
                let arrived : ClosureState := { s.closures[k] with ctx := Context.arrived m now 0 }
                if k ∈ first then (arrived.grantedAt m now s.front.reading).drivenAt now d
                else if k ∈ waiting then arrived
                else s.closures[k]
              arbiter := { s.arbiter with
                held := Vector.ofFn fun k : ClosureId => s.arbiter.held[k] || decide (k ∈ first)
                queue := waiting.zipIdx.map fun x : ClosureId × Nat => { closure := x.1, arrival := x.2 + 1 }
                lastArrival := if taken = [] then s.arbiter.lastArrival else max 1 waiting.length } }).answered
            f 0x13 3 .accepted
            [byteOf (taken.map fun k : ClosureId => 2 ^ k.val).sum,
              byteOf ((asked.findSome? fun k => s.moveRefusal k m).getD .accepted).code])) ∧
    (∀ (k : ClosureId) (u : State) (r : Reply),
      let m : Move := { seat := f.seat, kind := .global, direction := d, origin := o, target := none }
      hasMember s.seats[f.seat].record.rights 0 = true →
      exec (.move f (moveArgs k m)) s = .next u → u.seats[f.seat].reply = some r →
      let items : List Byte :=
        if r.result = .accepted then [byteOf (2 ^ k.val), byteOf Result.accepted.code] else [0, byteOf r.result.code]
      let reply : Reply :=
        { result := .accepted, command := 0x13, overwritten := s.seats[f.seat].reply.isSome, items := items }
      exec (.global f [byteOf (2 ^ k.val), byteOf d.code, byteOf o.code]) s = .next
        { u with
          link := { u.link with lastAcks := List.replicate 7 true }
          seats := u.seats.set f.seat { u.seats[f.seat] with reply := some reply } }) ∧
    (∀ (i j : ClosureId) (old : Move) (e : QueueEntry) (rest : List QueueEntry), i < j →
      let m : Move := { seat := f.seat, kind := .global, direction := d, origin := o, target := none }
      let now := s.now + f.dt
      hasMember s.seats[f.seat].record.rights 0 = true → s.moveRefusal i m = none → s.moveRefusal j m = none →
      s.closures[i].ctx.state = .running → s.closures[i].ctx.move = some old → old.direction ≠ d →
      s.closures[i].ctx.followOn = none → s.arbiter.held[i] = true → s.arbiter.held[j] = false →
      s.arbiter.heldCount = s.arbiter.effective → s.arbiter.unparkPending = false → s.arbiter.unparkWait = .none →
      s.arbiter.queue = e :: rest → e.closure = j → s.closures[j].ctx.state = .queued →
      let ended := s.moveEnded i now .superseded (some f.seat)
      let x := ended.closures[i]
      let stored := ended.withClosure i { x with ctx := { x.ctx with followOn := some m } }
      let run := exec (.global f [byteOf (2 ^ i.val + 2 ^ j.val), byteOf d.code, byteOf o.code]) s
      let items : List Byte := [byteOf (2 ^ i.val + 2 ^ j.val), 0]
      (∀ mine, s.closures[j].ctx.move = some mine → mine.Runs → mine.direction = d → mine.seat = f.seat →
        (∀ entry, s.closures[j].ctx.queueEntry = some entry → ¬ entry + 8000000 < now) →
        let granted := stored.granted j mine now
        let y := granted.closures[j]
        run = .next ((granted.withClosure j { y with ctx := { y.ctx with move := some m, holdDeadline := none } }).answered
          f 0x13 3 .accepted items)) ∧
      (∀ mine entry, s.closures[j].ctx.move = some mine → mine.direction = d → mine.seat = f.seat →
        s.closures[j].ctx.queueEntry = some entry → entry + 8000000 < now → rest = [] →
        ∃ t, run = .next t ∧
          t.closures =
            stored.closures.set j (s.closures[j].removedAt j m .queueTimeout none s.front.reading) ∧
          t.arbiter = { ended.arbiter with queue := [] } ∧
          s.Told t (s.Hears j f.seat)
            (.moveEnded (s.closures[j].removal j m .queueTimeout none s.front.reading)) now ∧
          s.SameElsewhere t ∧ s.Answers t f 0x13 3 .accepted items) ∧
      (∀ other, s.closures[j].ctx.move = some other → other.direction ≠ d → rest = [] →
        ∃ t, run = .next t ∧
          (let removed := s.closures[j].removedAt j other .superseded (some f.seat) s.front.reading
           let arrived : ClosureState := { removed with ctx := Context.arrived m now 0 }
           let granted := (stored.withClosure j arrived).granted j m now
           t.closures = granted.closures ∧ t.arbiter = { granted.arbiter with lastArrival := 1 }) ∧
          s.Told t (s.Hears j other.seat)
            (.moveEnded (s.closures[j].removal j other .superseded (some f.seat) s.front.reading)) now ∧
          s.SameElsewhere t ∧ s.Answers t f 0x13 3 .accepted items)) ∧
    (∀ (i j : ClosureId) (other : Move), i < j →
      let m : Move := { seat := f.seat, kind := .global, direction := d, origin := o, target := none }
      let now := s.now + f.dt
      let reading := s.front.reading
      hasMember s.seats[f.seat].record.rights 0 = true → s.moveRefusal i m = none → s.moveRefusal j m = none →
      s.closures[j].ctx.state = .queued → s.closures[j].ctx.move = some other → other.direction ≠ d →
      s.arbiter.effective ≤ s.arbiter.heldCount →
      let becomes := fun (x : ClosureState) (first : SeatId → List Notice) =>
        ∃ t, exec (.global f [byteOf (2 ^ i.val + 2 ^ j.val), byteOf d.code, byteOf o.code]) s = .next t ∧
          (let removed := s.closures[j].removedAt j other .superseded (some f.seat) reading
           t.closures = (s.closures.set i x).set j { removed with ctx := Context.arrived m now 0 }) ∧
          t.arbiter = { s.arbiter with queue := [{ closure := j, arrival := 1 }], lastArrival := 1 } ∧
          (∀ n : SeatId, s.seats[n].queue.length < 15 →
            t.seats[n].queue = s.seats[n].queue ++ first n ++
              (if s.Hears j other.seat n then
                [{ body := .moveEnded (s.closures[j].removal j other .superseded (some f.seat) reading), time := now }]
               else [])) ∧
          s.SameElsewhere t ∧ s.Answers t f 0x13 3 .accepted [byteOf (2 ^ i.val + 2 ^ j.val), 0]
      let c := s.closures[i]
      (∀ g : Move, c.ctx.state = .settling → c.ctx.followOn = some g → (∀ e ∈ s.arbiter.queue, e.closure = j) →
        becomes { c with ctx := { c.ctx with followOn := some m } } fun n =>
          if n = g.seat then [{ body := .followOnDropped i .superseded g, time := now }] else []) ∧
      (∀ (mine : Move) (entry : Nat), c.ctx.state = .queued → c.ctx.move = some mine → mine.direction = d →
        mine.seat = f.seat → c.ctx.queueEntry = some entry → entry + 8000000 < now →
        (∀ e ∈ s.arbiter.queue, e.closure = i ∨ e.closure = j) →
        becomes (c.removedAt i m .queueTimeout none reading) fun n =>
          if s.Hears i f.seat n then
            [{ body := .moveEnded (c.removal i m .queueTimeout none reading), time := now }]
          else [])) ∧
    (exec (.global f [0, byteOf d.code, byteOf o.code]) s = .next (s.answered f 0x13 3 .badArgument [])) ∧
    (∀ mask direction origin : Byte, 1 < direction.toNat ∨ 4 < origin.toNat →
      exec (.global f [mask, direction, origin]) s = .next (s.answered f 0x13 3 .badArgument [])) ∧
    (∀ mask : Byte, mask ≠ 0 → hasMember s.seats[f.seat].record.rights 0 = false →
      exec (.global f [mask, byteOf d.code, byteOf o.code]) s = .next (s.answered f 0x13 3 .notPermitted []))

/-! The link (R147 to R153). -/

/-- LINK RESET empties every pending reply and changes nothing else (R153); UNKNOWN_COMMAND is answered (R148); a discarded
frame leaves FRAME_ERROR at its seat and nothing at the broadcast address (R147, R149); a broadcast frame that is not
taken leaves nothing (R151). Stuck-link recovery (R152) acts when 35 ms have passed since the last change of a line, by the
frames and by the command's own time without change: the receiver returns to IDLE with FRAME_ERROR at the seat of a write
frame cut off, and the link-quiet timer runs on; short of that the 35 ms timer alone follows. A frame that is not
acknowledged leaves nothing but the link's own state, and its end returns a PASSIVE receiver to IDLE or ADDRESS even
after the start-up load; a frame begun stands in ADDRESS, WRITING or PASSIVE (R146). A frame that finds another in
progress acts as after the repeated start that ends that one: a write frame all of whose bytes have come is taken, any
other is discarded, a reply whose check byte was sent is consumed (R146, R147, R150); a write frame that goes on the one
in progress acts as one whose address is awaited. The port of acknowledge bits, the commands that report a frame begun
and which of them go on the one in progress, how line changes reach the 35 ms timer and when it starts are the model's
choices (log entries 4, 15, 25). -/
def Obligations.LinkEvents : Prop :=
  (∀ (dt : Nat) (fin : FrameEnd) (f : SeatFrame) (code : Byte) (args bytes : List Byte) (s : State), s.Awake →
     exec (.linkReset dt fin) s = .next
       (({ s with seats := Vector.ofFn fun n : SeatId => { s.seats[n] with reply := none } }).afterFrame
         dt fin [true, true, true, true]) ∧
     exec (.unknownCommand f code args) s = .next (s.answered f code args.length .unknownCommand []) ∧
     exec (.frameDiscard dt (.seat f.seat) (some fin) bytes) s = .next
       ((s.afterFrame dt fin (true :: frameAcks bytes)).withReply f.seat (bytes.headD 0) .frameError []) ∧
     exec (.frameDiscard dt .broadcast (some fin) bytes) s = .next (s.afterFrame dt fin (true :: frameAcks bytes)) ∧
     exec (.broadcastFrameDiscarded dt code args fin) s = .next
       (s.afterFrame dt fin (List.replicate (args.length + 4) true))) ∧
  (∀ (dt : Nat) (held : HeldLine) (s : State), s.Attentive →
     let now := s.now + dt
     let due := max s.link.stuckTimer (now + 35000 - held.unchanged)
     let recovered :=
       { s with now := now, link := { s.link with receiver := .idle, sending := none, stuckTimer := now + 35000 } }
     (now < due → exec (.stuckLinkRecovery dt held) s = .next
       { s with now := now, link := { s.link with stuckTimer := due } }) ∧
     (∀ (n : SeatId) (bytes : List Byte) (discard : Bool),
       due ≤ now → s.link.receiver = .writing (.seat n) bytes discard →
         exec (.stuckLinkRecovery dt held) s = .next (recovered.withReply n (bytes.headD 0) .frameError [])) ∧
     (due ≤ now →
       (∀ (n : SeatId) (bytes : List Byte) (discard : Bool), s.link.receiver ≠ .writing (.seat n) bytes discard) →
         exec (.stuckLinkRecovery dt held) s = .next recovered)) ∧
  (∀ (dt : Nat) (address : Byte) (s : State), s.powered = true → s.asleepSince = none → s.link.midFrame = false →
     let begun := fun (seen : Bool) (receiver : Receiver) (acks : List Bool) =>
       { s with
         now := s.now + dt
         link := { s.link with
           receiver := receiver
           quietTimer := if seen then s.link.quietTimer else some (s.now + dt + 2000000)
           stuckTimer := s.now + dt + 35000
           lastAcks := acks } }
     (∀ fin : FrameEnd, s.link.receiver = .passive ∨ s.loading = true ∨ addressedBy s.link.seatBase address = .other →
       exec (.frameNotAcknowledged dt (some address) (some fin)) s = .next (s.afterFrame dt fin [false])) ∧
     let seen := decide (s.link.receiver = .address)
     exec (.frameNotAcknowledged dt none none) s = .next (begun false .address []) ∧
     (s.loading = true ∨ addressedBy s.link.seatBase address = .other →
       exec (.frameNotAcknowledged dt (some address) none) s = .next (begun seen .passive [false])) ∧
     (∀ (target : Target) (bytes : List Byte), s.loading = false →
       s.link.receiver = .idle ∨ s.link.receiver = .address →
         exec (.frameDiscard dt target none bytes) s = .next
           (begun seen (.writing target bytes (decide (false ∈ frameAcks bytes))) (true :: frameAcks bytes)))) ∧
  (∀ (dt : Nat) (cut : Instr) (s u : State),
     s.powered = true → s.loading = false → s.asleepSince = none → s.link.endedBy dt = some cut →
     (∀ (t : Target) (before : List Byte) (discard : Bool), s.link.receiver = .writing t before discard →
       (discard = true ↔ false ∈ frameAcks before)) →
     exec cut s = .next u →
     (∀ (target : Target) (fin : FrameEnd) (bytes : List Byte),
       (∀ before discard, s.link.receiver = .writing target before discard → ¬ before <+: bytes) →
         exec (decodeWriteFrame dt target fin bytes) s = exec (decodeWriteFrame 0 target fin bytes) u ∧
         exec (.frameDiscard dt target none bytes) s = exec (.frameDiscard 0 target none bytes) u) ∧
     (∀ (n : SeatId) (ended : Option FrameEnd) (sent : Nat), (∀ i, s.link.receiver = .reading n i → sent < i) →
       exec (.readFrame { dt := dt, seat := n, ended := ended } sent) s =
         exec (.readFrame { dt := 0, seat := n, ended := ended } sent) u) ∧
     (∀ (address : Option Byte) (ended : Option FrameEnd),
       (∀ b ∈ address, addressedBy s.link.seatBase b = .other) →
         exec (.frameNotAcknowledged dt address ended) s = exec (.frameNotAcknowledged 0 address ended) u)) ∧
  (∀ (dt : Nat) (target : Target) (fin : FrameEnd) (before bytes : List Byte) (discard : Bool) (s : State),
     s.powered = true → s.loading = false → s.asleepSince = none →
     s.link.receiver = .writing target before discard → before <+: bytes →
       let awaited := { s with link := { s.link with receiver := .address } }
       exec (decodeWriteFrame dt target fin bytes) s = exec (decodeWriteFrame dt target fin bytes) awaited ∧
       exec (.frameDiscard dt target none bytes) s = exec (.frameDiscard dt target none bytes) awaited)

/-- READ FRAME (R150): the pending reply's bytes are sent, 0xFF beyond its check byte, and the reply leaves the slot
exactly when its check byte was sent; an empty slot sends a seat status reply and sets the loss count to 0, and stays
empty (the model's reading, log entry 11). A read frame begun opens its reply then, the status reply composed and the
loss count set to 0 at once, and what follows of that frame sends the reply so opened; a read that finds another frame
in progress is LinkEvents'. The port of sent bytes and the commands that report a frame begun are the model's choice (log
entry 4). -/
def Obligations.ReadFrameSendsReply : Prop :=
  ∀ (dt sent : Nat) (n : SeatId) (s : State), s.powered = true → s.loading = false → s.asleepSince = none →
    let x := s.seats[n]
    let status : Reply :=
      { result := .accepted, command := 0x61, overwritten := false
        items := [byteOf x.queue.length, if x.queue.any (fun y => y.body.urgent) then 1 else 0, byteOf x.lossCount,
          byteOf x.cause.code, byteOf s.store.job.code, if s.store.source = StartSource.restored then 0 else 1] }
    let out := fun r : Reply => (r.frame ++ List.replicate sent 0xFF).take sent
    let consumed := fun r : Reply =>
      if r.frame.length ≤ sent then s.seats.set n { x with reply := none } else s.seats
    let ended := fun (r : Reply) (seats : Vector SeatState 4) (fin : FrameEnd) =>
      let u := s.afterFrame dt fin [true]
      { u with link := { u.link with lastRead := out r }, seats := seats }
    let begun := fun (seen : Bool) (r : Reply) (seats : Vector SeatState 4) =>
      { s with
        now := s.now + dt
        seats := seats
        link := { s.link with
          receiver := .reading n sent
          sending := some r
          quietTimer := if seen then s.link.quietTimer else some (s.now + dt + 2000000)
          stuckTimer := s.now + dt + 35000
          lastRead := out r
          lastAcks := [true] } }
    let read := fun e : Option FrameEnd => exec (.readFrame { dt := dt, seat := n, ended := e } sent) s
    let seen := decide (s.link.receiver = .address)
    (s.link.midFrame = false →
      (∀ r : Reply, x.reply = some r →
        (∀ fin : FrameEnd, read (some fin) = .next (ended r (consumed r) fin)) ∧
        read none = .next (begun seen r s.seats)) ∧
      (x.reply = none →
        (∀ fin : FrameEnd, read (some fin) = .next (ended status (s.seats.set n { x with lossCount := 0 }) fin)) ∧
        read none = .next (begun seen status (s.seats.set n { x with lossCount := 0 })))) ∧
    (∀ (i : Nat) (r : Reply), s.link.receiver = .reading n i → i ≤ sent → s.link.sending = some r →
      (∀ fin : FrameEnd, read (some fin) = .next (ended r (consumed r) fin)) ∧
      read none = .next (begun true r s.seats))

/-! The travel counters. -/

/-- HALL_EDGE (R8) on a closure in use, an edge that no limit refuses. At an IDLE context (R18) the position moves by one
pulse, the step record, the accumulator and the overspeed mark follow the edge (R11, R22), the pulse is an undriven one,
and nothing outside the closure changes; a burst stays at 8, and the eighth pulse of a burst, alone, posts one
MOVED_UNDRIVEN notice to every seat that subscribes to the closure (R130), or leaves it due in the start-up load, and
with unpark pending set and no unpark wait asks for the unpark write (R158). At any other context the pulse and the step it
may complete are those of `steppedAt` (R11, R12, R23, R29, R38 to R41, R61, R66), and the pulse is reported: it restarts
a settling's quiet timer (R102), ends a RUNNING move at its target (R93) and a reversal at its own (R77). A step whose
comparison is a verdict reverses a closing move (R67, R72), ends an opening one OPEN_OBSTRUCTED (R71) and a reversal
REVERSAL_BLOCKED (R78). The eighth pulse against the permit is a direction fault (R14), and a step that it completes is
not measured (R12). The region of an opening verdict in the end band is a free value (log entry 9). -/
def Obligations.HallEdgeCountsUndriven : Prop :=
  (∀ (dt : Nat) (k : ClosureId) (ph : Phase) (s : State), s.Attentive →
     let c := s.closures[k]
     let now := s.now + dt
     let isOpening := ((ph = .a) = (c.counter.phaseA = c.counter.phaseB)) = (c.desc.polarity = .normal)
     let q := c.edgeNotedAt (c.pulsedAt ph now) ph now
     let noted : ClosureState :=
       { q with counter := { q.counter with
           burst := min 8 (c.counter.burst + 1), undrivenTimer := some (now + 1000000) } }
     c.Counts ph → c.ctx.state = .idle → c.ctx.permit = .hold →
     q.counter.position = c.counter.position + (if isOpening then 1 else -1) ∧
     q.counter.lastDir = some (if isOpening then .opening else .closing) ∧
     q.counter.validity = c.counter.validity ∧
     (c.counter.burst ≠ 7 → exec (.hallEdge dt k ph) s = .next ((s.later dt).withClosure k noted)) ∧
     (c.counter.burst = 7 →
       ∃ t, exec (.hallEdge dt k ph) s = .next t ∧ t.closures = s.closures.set k noted ∧
         (s.loading = true →
           t.deferred = s.deferred ++ [.movedUndriven k] ∧ t.seats = s.seats ∧ t.arbiter = s.arbiter ∧
           t.store = s.store) ∧
         (s.loading = false →
           t.deferred = s.deferred ∧
           (∀ n : SeatId,
             (hasMember s.seats[n].record.subscription k.val = true → s.seats[n].queue.length < 16 →
               t.seats[n].queue = s.seats[n].queue ++ [{ body := .movedUndriven k, time := now }]) ∧
             (hasMember s.seats[n].record.subscription k.val = false → t.seats[n] = s.seats[n])) ∧
           (s.arbiter.unparkPending = false ∨ s.arbiter.unparkWait ≠ .none →
             t.arbiter = s.arbiter ∧ t.store = s.store) ∧
           (s.arbiter.unparkPending = true → s.arbiter.unparkWait = .none →
             (s.store.job = .idle →
               t.arbiter = { s.arbiter with unparkWait := .writing } ∧
               t.store = { s.store with job := .unparking, image := { s.store.image with valid := false } }) ∧
             (∀ (n : SeatId) (park : Bool) (captured : Image), s.store.job = .committing n park captured →
               t.arbiter = { s.arbiter with unparkWait := .waitingForStore } ∧ t.store = s.store))))) ∧
  (∀ (dt : Nat) (k : ClosureId) (ph : Phase) (q : ClosureState) (s : State), s.Attentive →
     let c := s.closures[k]
     let now := s.now + dt
     let p := c.pulsedAt ph now
     let pos := p.counter.position
     c.Counts ph → c.ctx.state ≠ .idle → c.ctx.permit = .hold ∨ p.counter.dirFaultRun < 8 →
     s.steppedAt k ph now = some q →
     let becomes := fun x : ClosureState => exec (.hallEdge dt k ph) s = .next ((s.later dt).withClosure k x)
     let ended := fun reason : EndReason =>
       exec (.hallEdge dt k ph) s = .next (((s.later dt).withClosure k q).moveEnded k now reason none)
     let targetReached := ∃ m ∈ c.ctx.move, (m.kind = .held ∨ m.kind = .oneTouch ∨ m.kind = .global) ∧
       ∃ x ∈ m.target, (m.direction = .closing ∧ pos ≤ x) ∨ (m.direction = .opening ∧ x ≤ pos)
     let reversalReached := c.verdict.phase = some .reverse ∧ ∃ x ∈ c.verdict.target, x ≤ pos
     (c.ctx.state = .queued → becomes q) ∧
     (c.ctx.state = .settling → becomes { q with ctx := { q.ctx with quietTimer := some (now + 30000) } }) ∧
     (c.ctx.state = .running → ¬ targetReached → becomes q) ∧
     (c.ctx.state = .running → targetReached → s.arbiter.queue = [] → ended .targetReached) ∧
     (c.ctx.state = .reversing → ¬ reversalReached → becomes q) ∧
     (c.ctx.state = .reversing → reversalReached → s.arbiter.queue = [] →
       ended (if c.verdict.record.map (·.cause) = some .stall then .stallReversed else .pinchReversed))) ∧
  (∀ (dt : Nat) (k : ClosureId) (ph : Phase) (e : StepEdge) (s : State), s.Attentive →
     let c := s.closures[k]
     let now := s.now + dt
     let d := c.edgeToward ph
     let p := c.pulsedAt ph now
     let pos := p.counter.position
     let load := p.loadAt e now s.front.reading d
     let threshold := s.threshold k d (p.pathToward d) pos
     let x := p.computedAt e now s.front.reading d
     let record := fun region : Region =>
       ({ cause := .load, pos := pos, load := load, threshold := threshold, region := region } : VerdictRecord)
     let isPinch := c.counter.validity = .lost ∨ pos ≤ c.desc.pinchLimit
     c.Counts ph → c.completes ph p = some e → c.ctx.permit = .drive d → c.est.blankingCount = 0 →
     p.ComparedAt pos → threshold < load → c.desc.confirmSteps ≤ c.verdict.confirm + 1 →
     (∀ m, c.ctx.state = .running → c.ctx.move = some m → m.direction = .closing →
       let r := record (if isPinch then .pinch else .free)
       ∃ t, exec (.hallEdge dt k ph) s = .next t ∧ t.closures = s.closures.set k (x.reversedAt r now) ∧
         t.arbiter = s.arbiter ∧ s.Told t (s.Hears k m.seat) (.pinch k r) now ∧ s.SameElsewhere t) ∧
     (∀ m, c.ctx.state = .running → c.ctx.move = some m → m.direction = .opening → s.arbiter.queue = [] →
       ∃ t region, exec (.hallEdge dt k ph) s = .next t ∧
         t.closures = s.closures.set k
           ({ x with verdict := { x.verdict with
                record := some (record region), lastThreshold := threshold } }.settledAt now .openObstructed none) ∧
         t.arbiter = { s.arbiter with held := s.arbiter.held.set k false } ∧ t.seats = s.seats ∧ s.SameElsewhere t ∧
         (c.counter.validity = .lost ∨ c.desc.endBand < pos → (region = .pinch ↔ isPinch))) ∧
     (c.ctx.state = .reversing → s.arbiter.queue = [] →
       exec (.hallEdge dt k ph) s = .next
         (((s.later dt).withClosure k { x with verdict := { x.verdict with lastThreshold := threshold } }).moveEnded
           k now .reversalBlocked none))) ∧
  (∀ (dt : Nat) (k : ClosureId) (ph : Phase) (d : Direction) (s : State), s.Attentive →
     let c := s.closures[k]
     let p := c.pulsedAt ph (s.now + dt)
     c.Counts ph → c.ctx.permit = .drive d → d ≠ c.edgeToward ph → c.counter.dirFaultRun = 7 →
     c.ctx.state = .running ∨ c.ctx.state = .reversing → s.arbiter.queue = [] →
       let faulted := { p with counter := { p.counter with validity := .lost, dirFaultRun := 0 } }
       let ended := ((s.later dt).withClosure k faulted).moveEnded k (s.now + dt) .directionFault none
       exec (.hallEdge dt k ph) s = .next (ended.withClosure k (c.edgeNotedAt ended.closures[k] ph (s.now + dt))))

/-- R9, R10, R15, R19, R101: a phase fault at an IDLE context makes the position LOST and keeps the count; in a move it
counts, and the fourth makes the position LOST and ends a RUNNING or REVERSING move POSITION_LOST; at a QUEUED context
it makes the position LOST at once. An edge refused at a limit makes the position LOST and leaves it at the limit. A
loss on a VALID position ends a RUNNING or REVERSING move of kind ONE_TOUCH, GLOBAL or LEARN and removes a QUEUED one,
with POSITION_LOST; a HELD or NORMALISE move goes on, in the brake phase of its reversal too (R75). On an UNUSED closure
only the phase state changes, at an edge of either phase and at a phase fault. -/
def Obligations.PositionLosses : Prop :=
  ∀ (dt : Nat) (k : ClosureId) (s : State), s.Attentive →
    let c := s.closures[k]
    let now := s.now + dt
    let becomes := fun (i : Instr) (x : ClosureState) => exec i s = .next ((s.later dt).withClosure k x)
    let ended := fun (i : Instr) (x : ClosureState) =>
      exec i s = .next (((s.later dt).withClosure k x).moveEnded k now .positionLost none)
    let removed := fun (i : Instr) (x : ClosureState) (m : Move) =>
      ∃ t, exec i s = .next t ∧ ((s.later dt).withClosure k x).RemovedMove t k m .positionLost none now
    let lost := fun x : ClosureState => { x with counter := { x.counter with validity := .lost } }
    let goesOn := fun m : Move => m.kind = .held ∨ m.kind = .normalise
    let faulted : ClosureState :=
      { c with
        counter := { c.counter with phaseA := !c.counter.phaseA, phaseB := !c.counter.phaseB, stepRecord := none }
        sense := { c.sense with isOpen := false, sum := 0, count := 0 } }
    let counted := { faulted with counter := { faulted.counter with phaseFaults := min 4 (c.counter.phaseFaults + 1) } }
    let inMove := c.ctx.state = .running ∨ c.ctx.state = .reversing
    (c.desc.cls ≠ .unused →
      (c.ctx.state = .idle → c.ctx.move = none → becomes (.phaseFault dt k) (lost faulted)) ∧
      (inMove ∨ c.ctx.state = .settling → c.counter.phaseFaults ≠ 3 → becomes (.phaseFault dt k) counted) ∧
      (inMove → c.counter.phaseFaults = 3 → s.arbiter.queue = [] → ended (.phaseFault dt k) (lost counted)) ∧
      (c.ctx.state = .settling → c.counter.phaseFaults = 3 → becomes (.phaseFault dt k) (lost counted)) ∧
      (∀ m, c.ctx.state = .queued → c.ctx.move = some m → c.counter.validity = .valid → ¬ goesOn m →
        removed (.phaseFault dt k) (lost faulted) m) ∧
      (∀ m, c.ctx.state = .queued → c.ctx.move = some m → goesOn m ∨ c.counter.validity = .lost →
        becomes (.phaseFault dt k) (lost faulted))) ∧
    (∀ ph : Phase,
      let edge := Instr.hallEdge dt k ph
      let toggled : ClosureState := { c with counter := { c.counter with
        phaseA := if ph = .a then !c.counter.phaseA else c.counter.phaseA
        phaseB := if ph = .b then !c.counter.phaseB else c.counter.phaseB } }
      let restarted : ClosureState :=
        { toggled with counter := { toggled.counter with
            validity := .lost, stallTimer := some (now + c.desc.stallUnits * 10000) } }
      c.desc.cls ≠ .unused →
      (c.edgeToward ph = .closing ∧ c.counter.position = -64) ∨
        (c.edgeToward ph = .opening ∧ c.counter.position = c.desc.travel + 64) →
      (c.ctx.state = .idle → c.ctx.move = none → c.ctx.permit = .hold → becomes edge (lost toggled)) ∧
      (c.ctx.state = .settling → c.ctx.permit = .hold →
        becomes edge { lost toggled with ctx := { c.ctx with quietTimer := some (now + 30000) } }) ∧
      (∀ m, inMove → c.ctx.move = some m → c.counter.validity = .valid → ¬ goesOn m → s.arbiter.queue = [] →
        ended edge (lost toggled)) ∧
      (∀ m d, inMove → c.ctx.move = some m → c.ctx.permit = .drive d → goesOn m ∨ c.counter.validity = .lost →
        becomes edge restarted) ∧
      (∀ m, c.ctx.state = .queued → c.ctx.move = some m → c.counter.validity = .valid → ¬ goesOn m →
        removed edge (lost toggled) m) ∧
      (∀ m, c.ctx.state = .queued ∨ c.ctx.state = .reversing → c.ctx.permit = .hold → c.ctx.move = some m →
        goesOn m ∨ c.counter.validity = .lost → becomes edge (lost toggled))) ∧
    (c.desc.cls = .unused →
      becomes (.phaseFault dt k)
        { c with counter := { c.counter with phaseA := !c.counter.phaseA, phaseB := !c.counter.phaseB } } ∧
      becomes (.hallEdge dt k .a) { c with counter := { c.counter with phaseA := !c.counter.phaseA } } ∧
      becomes (.hallEdge dt k .b) { c with counter := { c.counter with phaseB := !c.counter.phaseB } })

/-- R13, R68 to R70, R16, R17, R51: the stall timer of a RUNNING move, due. At the closed end (in the end band, at a
VALID position or in a NORMALISE move) the position is 0 and the move ends CLOSED, which takes the closure out of ESCAPE
when no verdict stands; NORMALISED, with the position VALID; or LEARN_DONE or LEARN_INCOMPLETE by the trace. An opening
stall ends OPEN_END in the last end band of the travel, else OPEN_OBSTRUCTED. R78: a stall in the reverse phase ends the
reversal REVERSAL_BLOCKED. -/
def Obligations.ClosedEndStall : Prop :=
  ∀ (dt due : Nat) (k : ClosureId) (m : Move) (s : State), s.Attentive →
    let c := s.closures[k]
    let now := s.now + dt
    c.counter.stallTimer = some due → due ≤ now → s.arbiter.queue = [] → c.ctx.move = some m →
    let complete := ∃ h : Fin 64, ∀ z : Fin 64, 1 ≤ c.est.trace[z].count ↔ z ≤ h
    let reason : EndReason := match m.kind with
      | .held | .oneTouch | .global => .closed
      | .normalise => .normalised
      | .learn => if complete then .learnDone else .learnIncomplete
    (c.ctx.state = .running → m.direction = .closing → c.counter.position ≤ c.desc.endBand →
      c.counter.validity = .valid ∨ m.kind = .normalise →
        exec (.stallExpiry dt k) s = .next
          (((s.later dt).withClosure k
              { c with
                counter := { c.counter with
                  position := 0, validity := if m.kind = .normalise then .valid else c.counter.validity }
                verdict :=
                  if reason = .closed ∧ c.verdict.record = none then
                    { c.verdict with reversals := 0, escape := false }
                  else c.verdict }).moveEnded k now reason none)) ∧
    (c.ctx.state = .running → m.direction = .opening →
      exec (.stallExpiry dt k) s = .next ((s.later dt).moveEnded k now
        (if (c.desc.travel : Int) - c.desc.endBand ≤ c.counter.position then .openEnd else .openObstructed) none)) ∧
    (c.ctx.state = .reversing → c.verdict.phase = some .reverse →
      exec (.stallExpiry dt k) s = .next ((s.later dt).moveEnded k now .reversalBlocked none))

/-- R67, R68, R72, R74: a stall of a RUNNING closing move that is no closed-end stall (above the end band, or at a LOST
position unless the move is NORMALISE) is a verdict: the record filled, PINCH to the owner and the subscribers, the
reversal count raised, and the context REVERSING in its brake phase with both permit lines inactive. -/
def Obligations.StallVerdictReverses : Prop :=
  ∀ (dt due : Nat) (k : ClosureId) (m : Move) (s : State), s.Attentive →
    let c := s.closures[k]
    let p := c.counter.position
    c.counter.stallTimer = some due → due ≤ s.now + dt → c.ctx.state = .running → c.ctx.move = some m →
    m.direction = .closing → c.ctx.permit = .drive .closing →
    c.desc.endBand < p ∨ (c.counter.validity = .lost ∧ m.kind ≠ .normalise) →
    let r : VerdictRecord :=
      { cause := .stall, pos := p, load := if c.est.rawList = [] then 0 else c.est.published
        threshold := s.threshold k .closing (c.pathToward .closing) p
        region := if c.counter.validity = .lost ∨ p ≤ c.desc.pinchLimit then .pinch else .free }
    ∃ t, exec (.stallExpiry dt k) s = .next t ∧ t.closures = s.closures.set k (c.reversedAt r (s.now + dt)) ∧
      t.arbiter = s.arbiter ∧ s.Told t (s.Hears k m.seat) (.pinch k r) (s.now + dt) ∧ s.SameElsewhere t

/-- R66, R67: a compared step's load against the threshold: at or below it the confirm count is 0, above it the count
rises, and short of N_conf no verdict is declared. -/
def Obligations.ConfirmCount : Prop :=
  ∀ (s : State) (k : ClosureId) (d : Direction) (path : Path) (pos : Int) (load : Nat),
    let c := s.closures[k]
    let threshold := s.threshold k d path pos
    c.compares pos = true →
    (load ≤ threshold → s.judgeStep k d path pos load = s.withClosure k
      { c with verdict := { c.verdict with lastThreshold := threshold, confirm := 0 } }) ∧
    (threshold < load → c.verdict.confirm + 1 < c.desc.confirmSteps →
      s.judgeStep k d path pos load = s.withClosure k
        { c with verdict := { c.verdict with lastThreshold := threshold, confirm := c.verdict.confirm + 1 } }) ∧
    (threshold < load → c.desc.confirmSteps ≤ c.verdict.confirm + 1 → c.ctx.state = .running →
      c.ctx.move.map (·.direction) = some .closing →
        (s.judgeStep k d path pos load).closures[k].ctx.state = .reversing ∧
        (s.judgeStep k d path pos load).closures[k].ctx.permit = .hold)

/-! The timers. -/

/-! An expiry acts when its timer is due on the model's clock: the model's choice (log entries 1 and 2). -/

/-- BRAKE_TIMER_EXPIRY (R76): below the target the reverse phase begins with permit OPEN; at or above it the reversal
ends, PINCH_REVERSED or STALL_REVERSED by the verdict's cause. -/
def Obligations.BrakeExpiry : Prop :=
  ∀ (dt due : Nat) (k : ClosureId) (p : Int) (r : VerdictRecord) (s : State), s.Attentive →
    let c := s.closures[k]
    c.verdict.brakeTimer = some due → due ≤ s.now + dt → c.ctx.state = .reversing → c.verdict.phase = some .brake →
    c.verdict.target = some p → c.verdict.record = some r →
    (c.counter.position < p →
      exec (.brakeTimerExpiry dt k) s = .next ((s.later dt).withClosure k
        ({ c with verdict := { c.verdict with phase := some .reverse, brakeTimer := none } }.drivenAt
          (s.now + dt) .opening))) ∧
    (p ≤ c.counter.position → s.arbiter.queue = [] →
      exec (.brakeTimerExpiry dt k) s = .next ((s.later dt).moveEnded k (s.now + dt)
        (if r.cause = .stall then .stallReversed else .pinchReversed) none))

/-- QUIET_TIMER_EXPIRY and LIMIT_TIMER_EXPIRY (R102, R103): settling ends. The outcome of the move becomes the last
outcome and is posted (R105); the limit timer's expiry alone sets the long run-on mark. The statistics are updated while
they are enabled (R140, R141). A LEARN_DONE run is taken into the profile (R51), a run that meets the gates of R54 adapts
it (R55), and any other end leaves it. The follow-on is re-checked: it is dropped with the cause of the first check that
fails, or it starts, QUEUED as a new arrival, and with a slot free it is granted at the same event (R111); without one
the context is IDLE. Times are the µs of the model's clock truncated to ms (log entry 1). -/
def Obligations.SettlingEnds : Prop :=
  ∀ (dt due granted : Nat) (startPos : Int) (k : ClosureId) (m : Move) (reason : EndReason) (s : State),
    s.Attentive →
    let c := s.closures[k]
    let now := s.now + dt
    c.ctx.state = .settling → c.ctx.move = some m → c.ctx.endReason = some reason → c.ctx.startPos = some startPos →
    c.ctx.startTime = some granted → due ≤ now →
    (c.ctx.followOn.isSome = true →
      s.arbiter.effective ≤ s.arbiter.heldCount ∨ (s.arbiter.queue = [] ∧ s.SlotFree)) →
    let ms := (now - granted) / 1000
    let peak : Peak := match c.est.peak with
      | some x => x
      | none => { load := 0, pos := startPos }
    let ends := fun (i : Instr) (long : Bool) =>
      ∃ t x, exec i s = .next t ∧
        let cause := fun f : Move => s.followOnCause k x f
        let o : OutcomeRecord :=
          { closure := k, move := m, reason := reason, endedBy := c.ctx.endedBy, startPos := startPos
            endPos := c.counter.position, peak := peak, stepCount := c.ctx.stepCount, travelTime := min 65535 ms
            minSupply := c.est.minSupply
            verdict := match c.verdict.record with
              | some r => some { load := r.load, pos := r.pos }
              | none => none
            longRunOn := long
            followOnStarted := match c.ctx.followOn with
              | some f => decide (cause f = none)
              | none => false }
        x.lastOutcome = some o ∧
        x.stats = (if c.desc.statsOn then c.stats.afterEnd reason peak.load ms else c.stats) ∧
        (reason = .learnDone → x.LearnedFrom c) ∧
        (reason ≠ .learnDone → s.AdaptsAt c m reason → x.AdaptedFrom c) ∧
        (reason ≠ .learnDone → ¬ s.AdaptsAt c m reason → x.profile = c.profile ∧ x.verdict = c.verdict) ∧
        x.desc = c.desc ∧ x.est = c.est ∧ x.sense = c.sense ∧
        (∀ n : SeatId, s.seats[n].queue.length < 15 →
          t.seats[n].queue = s.seats[n].queue
            ++ (if s.Hears k m.seat n then [{ body := .moveEnded o, time := now }] else [])
            ++ match c.ctx.followOn with
               | some f => match cause f with
                 | some why => if n = f.seat then [{ body := .followOnDropped k why f, time := now }] else []
                 | none => []
               | none => []) ∧
        (∀ f, c.ctx.followOn = some f → cause f = none →
          let number := if s.arbiter.queue = [] then 1 else s.arbiter.lastArrival + 1
          let granted := x.grantedAt f now s.front.reading
          let atTarget := f.kind ≠ .learn ∧ f.kind ≠ .normalise ∧
            ∃ p ∈ f.target, (f.direction = .closing ∧ c.counter.position ≤ p)
              ∨ (f.direction = .opening ∧ p ≤ c.counter.position)
          x.ctx = Context.arrived f now s.seats[f.seat].record.holdUnits ∧ x.counter = c.counter ∧
          (s.arbiter.effective ≤ s.arbiter.heldCount →
            t.closures[k] = x ∧
            t.arbiter = { s.arbiter with
              queue := t.insertEntry { closure := k, arrival := number } s.arbiter.queue, lastArrival := number }) ∧
          (s.SlotFree → ¬ atTarget →
            t.closures[k] = granted.drivenAt now f.direction ∧
            t.arbiter = { s.arbiter with held := s.arbiter.held.set k true, lastArrival := 1 }) ∧
          (s.SlotFree → atTarget →
            t.closures[k] = granted.settledAt now .targetReached none ∧
            t.arbiter = { s.arbiter with held := s.arbiter.held.set k false, lastArrival := 1 })) ∧
        ((∀ f, c.ctx.followOn = some f → cause f ≠ none) →
          t.closures[k] = x ∧ x.ctx = {} ∧ x.counter = { c.counter with phaseFaults := 0 } ∧ t.arbiter = s.arbiter) ∧
        (∀ j : ClosureId, j ≠ k → t.closures[j] = s.closures[j]) ∧ s.SameElsewhere t
    (c.ctx.quietTimer = some due → ends (.quietTimerExpiry dt k) c.ctx.longRunOn) ∧
    (c.ctx.limitTimer = some due → ends (.limitTimerExpiry dt k) true)

/-- R104, R105: HOLD_DEADLINE_EXPIRY and QUEUE_TIMEOUT remove a QUEUED move with an outcome of step count 0 and travel time
0, told to the owner and the subscribers (R94, R114); a hold deadline ends a RUNNING move HOLD_LAPSED. -/
def Obligations.LapsedMovesEnd : Prop :=
  ∀ (dt due : Nat) (k : ClosureId) (m : Move) (s : State), s.Attentive →
    let c := s.closures[k]
    c.ctx.move = some m → due ≤ s.now + dt →
    let removed := fun (i : Instr) (reason : EndReason) =>
      ∃ t, exec i s = .next t ∧ s.RemovedMove t k m reason none (s.now + dt)
    (c.ctx.holdDeadline = some due → c.ctx.state = .queued → removed (.holdDeadlineExpiry dt k) .holdLapsed) ∧
    (c.ctx.holdDeadline = some due → c.ctx.state = .running → s.arbiter.queue = [] →
      exec (.holdDeadlineExpiry dt k) s = .next ((s.later dt).moveEnded k (s.now + dt) .holdLapsed none)) ∧
    (∀ entry, c.ctx.queueEntry = some entry → entry + 8000000 ≤ s.now + dt → c.ctx.state = .queued →
      m.kind = .oneTouch ∨ m.kind = .global → removed (.queueTimeout dt k) .queueTimeout)

/-- The expiries that touch no move: the undriven quiet timer (R18), the retained window (R127), a seat's stale deadline
(R134, R135) and the link-quiet timer (R159), which puts the part to sleep when every other condition of sleep
holds. -/
def Obligations.QuietExpiries : Prop :=
  (∀ (dt due : Nat) (s : State), s.Attentive → due ≤ s.now + dt →
     (∀ k : ClosureId, s.closures[k].counter.undrivenTimer = some due →
       exec (.undrivenQuietExpiry dt k) s = .next ((s.later dt).withClosure k
         { s.closures[k] with counter := { s.closures[k].counter with burst := 0, undrivenTimer := none } })) ∧
     (s.window = some due → exec (.retainedWindowExpiry dt) s = .next { s.later dt with window := none }) ∧
     (∀ n : SeatId, s.seats[n].staleDeadline = some due → s.seats[n].queue ≠ [] →
       (∀ x ∈ s.seats[n].queue, x.body.urgent = false) → s.seats[n].queue.length < s.seats[n].record.trigger →
         exec (.staleExpiry dt n) s = .next
           { s.later dt with seats := s.seats.set n { s.seats[n] with cause := .stale, line := true } }) ∧
     (s.link.quietTimer = some due → s.words[5] = 0 →
       exec (.linkQuietExpiry dt) s = .next { s.later dt with link := { s.link with quietTimer := none } })) ∧
  (∀ (dt due : Nat) (s : State), s.Attentive → due ≤ s.now + dt → s.link.quietTimer = some due →
     ({ s with link := { s.link with quietTimer := none } }).SleepConditions →
       exec (.linkQuietExpiry dt) s = .next
         { s.later dt with link := { s.link with quietTimer := none }, asleepSince := some (s.now + dt) })

/-! The front end. -/

/-- CURRENT_SAMPLE (R22), SUPPLY_SAMPLE (R24) and TEMPERATURE_MEASUREMENT (R25). -/
def Obligations.FrontEndSamples : Prop :=
  ∀ (dt : Nat) (s : State), s.Attentive →
    (∀ (k : ClosureId) (mA : Int),
      let x := s.closures[k].sense
      (x.isOpen = true → x.count < 65535 →
        exec (.currentSample dt k mA) s = .next ((s.later dt).withClosure k
          { s.closures[k] with
            sense := { x with sum := x.sum + (max 0 (min 40000 mA)).toNat, count := x.count + 1 } })) ∧
      (x.isOpen = false ∨ 65535 ≤ x.count → exec (.currentSample dt k mA) s = .next (s.later dt))) ∧
    (∀ mV : Nat, s.front.window.length ≤ 20 →
      exec (.supplySample dt mV) s = .next { s.later dt with
        front := { s.front with window := if s.front.window.length = 20 then s.front.window.tail ++ [mV]
          else s.front.window ++ [mV] } }) ∧
    (∀ celsius : Int,
      exec (.temperatureMeasurement dt celsius) s = .next
        { s.later dt with front := { s.front with temperature := max (-40) (min 150 celsius) } })

/-- SUPPLY_REFRESH (R24, R113, R115, R116) with no closing move RUNNING or QUEUED and nothing waiting: the reading and its
mark, derating, the supply state and the notice flag. R100, R115: at a fall of the supply the one RUNNING closing move
ends SUPPLY_LOW, or the one QUEUED closing move is removed SUPPLY_LOW; every other closure is as it was. -/
def Obligations.SupplyRefreshAndFall : Prop :=
  (∀ (dt : Nat) (s : State), s.Attentive → s.loading = false → s.front.window.length = 20 → s.arbiter.queue = [] →
     (∀ (k : ClosureId) (m : Move), s.closures[k].ctx.move = some m → m.direction = .closing →
       s.closures[k].ctx.state ≠ .running ∧ s.closures[k].ctx.state ≠ .queued) →
     let mean := s.front.window.sum / 20
     let V := max 6000 (min 18000 mean)
     let isBelow := V < s.settings.vMin
     let fall := isBelow ∧ s.arbiter.supplyState = .above
     let noticed := s.arbiter.supplyNotice = true ∨ fall
     let recovered := noticed ∧ s.settings.vMin + 500 ≤ V
     ∃ t, exec (.supplyRefresh dt) s = .next t ∧
       t.front = { s.front with reading := V, outOfRange := decide (mean < 6000 ∨ 18000 < mean) } ∧
       t.arbiter.derating = (if s.arbiter.derating then decide (V < s.settings.vResume)
         else decide (V < s.settings.vLow)) ∧
       t.arbiter.effective = (if s.arbiter.derating then
           if s.settings.vResume ≤ V then s.settings.slots else s.arbiter.effective
         else if V < s.settings.vLow then 1 else s.arbiter.effective) ∧
       t.arbiter.supplyState = (if isBelow then .below else .above) ∧
       (t.arbiter.supplyNotice = true ↔ noticed ∧ ¬ recovered) ∧
       (∀ n : SeatId, s.seats[n].queue.length < 16 →
         (fall → s.arbiter.supplyNotice = false →
           t.seats[n].queue = s.seats[n].queue ++ [{ body := .supplyLowEntered V, time := s.now + dt }]) ∧
         (recovered →
           t.seats[n].queue = s.seats[n].queue ++ [{ body := .supplyRecovered V, time := s.now + dt }]) ∧
         (¬ (fall ∧ s.arbiter.supplyNotice = false) → ¬ recovered → t.seats[n] = s.seats[n])) ∧
       t.closures = s.closures ∧ t.arbiter.held = s.arbiter.held ∧ t.arbiter.queue = [] ∧
       t.settings = s.settings ∧ t.words = s.words ∧ t.window = s.window ∧ t.store = s.store) ∧
  (∀ (dt : Nat) (k : ClosureId) (m : Move) (s : State), s.Attentive → s.loading = false →
     s.front.window.length = 20 → s.arbiter.supplyState = .above →
     s.front.window.sum / 20 < s.settings.vMin → 6000 < s.settings.vMin → s.settings.vMin ≤ 18000 →
     s.closures[k].ctx.move = some m → m.direction = .closing →
     (∀ (j : ClosureId) (x : Move), j ≠ k → s.closures[j].ctx.move = some x → x.direction = .closing →
       s.closures[j].ctx.state ≠ .running ∧ s.closures[j].ctx.state ≠ .queued) →
     let V := max 6000 (s.front.window.sum / 20)
     let low : List Notice :=
       if s.arbiter.supplyNotice then [] else [{ body := .supplyLowEntered V, time := s.now + dt }]
     let room := ∀ n : SeatId, s.seats[n].queue.length < 15
     (s.closures[k].ctx.state = .running → s.arbiter.queue = [] →
       ∃ t, exec (.supplyRefresh dt) s = .next t ∧
         t.closures = s.closures.set k (s.closures[k].settledAt (s.now + dt) .supplyLow none) ∧
         t.arbiter.held = s.arbiter.held.set k false ∧ t.arbiter.queue = [] ∧ t.arbiter.supplyState = .below ∧
         (room → ∀ n : SeatId, t.seats[n].queue = s.seats[n].queue ++ low)) ∧
     (s.closures[k].ctx.state = .queued → s.arbiter.derating = false →
       ∃ t, exec (.supplyRefresh dt) s = .next t ∧
         t.closures = s.closures.set k (s.closures[k].removedAt k m .supplyLow none V) ∧
         t.arbiter.held = s.arbiter.held ∧ t.arbiter.queue = (s.arbiter.without k).queue ∧
         t.arbiter.supplyState = .below ∧
         (room → ∀ n : SeatId, t.seats[n].queue = s.seats[n].queue ++ low ++
           if s.Hears k m.seat n then
             [{ body := .moveEnded (s.closures[k].removal k m .supplyLow none V), time := s.now + dt }]
           else [])))

/-! The store. -/

/-- COMMIT (R156): the copy captured, every capture mark set, the store COMMITTING and the seat recorded; the refusals in
their order. -/
def Obligations.CommitAccepted : Prop :=
  ∀ (f : SeatFrame) (park : Bool) (s : State), s.Awake →
    let arg : Byte := if park then 1 else 0
    let allIdle := ∀ k : ClosureId, s.closures[k].ctx.state = .idle
    (s.seats[f.seat].record.grants .commit = true → s.store.job = .idle → (park = true → allIdle) →
      ∃ t image, exec (.commit f [arg]) s = .next t ∧ t.store.job = .committing f.seat park image ∧
        image.settings = s.settings ∧
        (∀ n : SeatId, image.records[n] = s.seats[n].record) ∧
        (∀ k : ClosureId,
          image.descriptions[k] = s.closures[k].desc ∧
          image.profiles[k].status = s.closures[k].profile.status ∧
          image.profiles[k].zones = s.closures[k].profile.zones ∧
          image.stats[k] = s.closures[k].stats.counters ∧
          image.positions[k].pos = s.closures[k].counter.position ∧
          image.positions[k].validity = s.closures[k].counter.validity ∧
          t.closures[k] = { s.closures[k] with profile := { s.closures[k].profile with capture := true } }) ∧
        t.store.image = s.store.image ∧
        t.arbiter = { s.arbiter with unparkPending := park || s.arbiter.unparkPending } ∧
        t.seats[f.seat].reply = some
          { result := .accepted, command := 0x70, overwritten := s.seats[f.seat].reply.isSome, items := [] } ∧
        t.words = s.words ∧ t.settings = s.settings) ∧
    (s.seats[f.seat].record.grants .commit = false →
      exec (.commit f [arg]) s = .next (s.answered f 0x70 1 .notPermitted [])) ∧
    (s.seats[f.seat].record.grants .commit = true → s.store.job ≠ .idle →
      exec (.commit f [arg]) s = .next (s.answered f 0x70 1 .storeBusy [])) ∧
    (s.seats[f.seat].record.grants .commit = true → s.store.job = .idle → park = true → ¬ allIdle →
      exec (.commit f [arg]) s = .next (s.answered f 0x70 1 .notIdle [])) ∧
    (∀ b : Byte, 2 ≤ b.toNat → exec (.commit f [b]) s = .next (s.answered f 0x70 1 .badArgument []))

/-- COMMIT_COMPLETION and COMMIT_FAILURE (R157, R47, R117) with no unpark wait: the image and its markers, the notice to
the recorded seat, the dirty flags, and the store IDLE. UNPARK_WRITE_COMPLETION and UNPARK_WRITE_FAILURE (R158, R118)
with nothing waiting for a slot; with a move at the head of the slot queue and one slot free, the end of the wait grants
it (R111). R118: with an unpark wait for the store, a parking commit that completes is followed by the unpark write at
once, and a commit that fails, or completes with park = no, ends the wait, with the same grant test. -/
def Obligations.StoreWritesEnd : Prop :=
  (∀ (dt : Nat) (n : SeatId) (park : Bool) (captured : Image) (s : State), s.Attentive →
     s.store.job = .committing n park captured → s.arbiter.unparkWait = .none → s.seats[n].queue.length < 16 →
     let op : StoreOp := if park then .parkingCommit else .commit
     (∃ t, exec (.commitCompletion dt) s = .next t ∧ t.store.job = .idle ∧
       t.store.image = { captured with
         positions := if park then captured.positions else s.store.image.positions, parked := park, valid := true } ∧
       t.seats[n].queue = s.seats[n].queue ++ [{ body := .storeDone op, time := s.now + dt }] ∧
       t.arbiter.unparkPending = (park && s.arbiter.unparkPending) ∧
       (∀ k : ClosureId,
         t.closures[k].profile.dirty = (s.closures[k].profile.dirty && !s.closures[k].profile.capture) ∧
         t.closures[k].profile.capture = false ∧ t.closures[k].profile.zones = s.closures[k].profile.zones ∧
         t.closures[k].ctx = s.closures[k].ctx ∧ t.closures[k].counter = s.closures[k].counter)) ∧
     (∃ t, exec (.commitFailure dt) s = .next t ∧ t.store.job = .idle ∧ t.store.image.valid = false ∧
       (park = false → t.store.image.positions = s.store.image.positions) ∧
       t.seats[n].queue = s.seats[n].queue ++ [{ body := .storeFailed op, time := s.now + dt }] ∧
       t.arbiter.unparkPending = false ∧
       (∀ k : ClosureId,
         t.closures[k].profile.dirty = s.closures[k].profile.dirty ∧ t.closures[k].profile.capture = false ∧
         t.closures[k].ctx = s.closures[k].ctx ∧ t.closures[k].counter = s.closures[k].counter))) ∧
  (∀ (dt : Nat) (s : State), s.Attentive → s.store.job = .unparking →
     let told := fun (t : State) (body : NoticeBody) => ∀ n : SeatId,
       (s.seats[n].record.grants .commit = true → s.seats[n].queue.length < 16 →
         t.seats[n].queue = s.seats[n].queue ++ [{ body := body, time := s.now + dt }]) ∧
       (s.seats[n].record.grants .commit = false → t.seats[n] = s.seats[n])
     let freed := { s with arbiter := { s.arbiter with unparkPending := false, unparkWait := .none } }
     let ends := fun u : State =>
       (∃ t, exec (.unparkWriteCompletion dt) s = .next t ∧ t.store.job = .idle ∧
         t.store.image = { s.store.image with parked := false, valid := true } ∧ t.arbiter = u.arbiter ∧
         told t (.storeDone .unparkWrite) ∧ t.closures = u.closures) ∧
       (∃ t, exec (.unparkWriteFailure dt) s = .next t ∧ t.store.job = .idle ∧ t.store.image.valid = false ∧
         t.arbiter = u.arbiter ∧ told t (.storeFailed .unparkWrite) ∧ t.closures = u.closures)
     (s.arbiter.queue = [] → ends freed) ∧
     (∀ (e : QueueEntry) (rest : List QueueEntry) (m : Move), s.arbiter.queue = e :: rest →
       s.closures[e.closure].ctx.move = some m → m.Runs → s.arbiter.held[e.closure] = false →
       s.arbiter.heldCount + 1 = s.arbiter.effective → ends (freed.granted e.closure m (s.now + dt)))) ∧
  (∀ (dt : Nat) (n : SeatId) (park : Bool) (captured : Image) (s : State), s.Attentive →
     s.store.job = .committing n park captured → s.arbiter.unparkWait = .waitingForStore →
     s.seats[n].queue.length < 16 →
     let op : StoreOp := if park then .parkingCommit else .commit
     let told := fun (t : State) (body : NoticeBody) =>
       t.seats[n].queue = s.seats[n].queue ++ [{ body := body, time := s.now + dt }] ∧
       ∀ j : SeatId, j ≠ n → t.seats[j] = s.seats[j]
     let profiled := fun (u t : State) (completes : Bool) => ∀ k : ClosureId,
       let p := s.closures[k].profile
       t.closures[k] = { u.closures[k] with profile := { u.closures[k].profile with
         dirty := p.dirty && !(completes && p.capture), capture := false } }
     let freed := { s with arbiter := { s.arbiter with unparkPending := false, unparkWait := .none } }
     let fails := fun u : State =>
       ∃ t, exec (.commitFailure dt) s = .next t ∧ t.store.job = .idle ∧ t.store.image.valid = false ∧
         t.arbiter = u.arbiter ∧ told t (.storeFailed op) ∧ profiled u t false
     let completes := fun u : State =>
       ∃ t, exec (.commitCompletion dt) s = .next t ∧ t.store.job = .idle ∧
         t.store.image = { captured with positions := s.store.image.positions, parked := false, valid := true } ∧
         t.arbiter = u.arbiter ∧ told t (.storeDone op) ∧ profiled u t true
     (park = true → s.arbiter.unparkPending = true →
       ∃ t, exec (.commitCompletion dt) s = .next t ∧ t.store.job = .unparking ∧
         t.store.image = { captured with parked := true, valid := false } ∧
         t.arbiter = { s.arbiter with unparkWait := .writing } ∧ told t (.storeDone op) ∧ profiled s t true) ∧
     (s.arbiter.queue = [] → fails freed ∧ (park = false → completes freed)) ∧
     (∀ (e : QueueEntry) (rest : List QueueEntry) (m : Move), s.arbiter.queue = e :: rest →
       s.closures[e.closure].ctx.move = some m → m.Runs → s.arbiter.held[e.closure] = false →
       s.arbiter.heldCount + 1 = s.arbiter.effective →
         let granted := freed.granted e.closure m (s.now + dt)
         fails granted ∧ (park = false → completes granted)))

/-! Reset, start-up and power. -/

/-- RESET_INPUT (R161, R21): positions kept, limited to the restored travel; the validity kept, but LOST where the position
was limited or the restored polarity differs; every move ended without an outcome; every permit HOLD; queues, replies,
words and window at their reset values; the start-up load in progress. COLD_START: with the image-valid and parked
markers both set the positions are the stored ones, LOST where limited to the restored travel; in any other case they are
0 and LOST. A store write in flight at either leaves the image-valid marker clear (R157, R158), so the load takes the
defaults. That the load's operations act at one instant, and drop notices that fell due in a load, is the model's choice
(log entry 6). -/
def Obligations.ResetAndColdStart : Prop :=
  let stored := fun (s t : State) =>
    t.store.job = .idle ∧ (s.store.job = .idle → t.store.image = s.store.image) ∧
    (s.store.job ≠ .idle → t.store.image.valid = false) ∧
    t.store.source = (if t.store.image.valid then .restored else .defaults) ∧
    (t.store.image.valid = true → t.settings = t.store.image.settings ∧ t.arbiter.effective = t.settings.slots) ∧
    (t.store.image.valid = false → t.settings = {} ∧ t.arbiter.effective = 3) ∧
    (∀ k : ClosureId,
      (t.store.image.valid = true → t.closures[k].desc = t.store.image.descriptions[k]) ∧
      (t.store.image.valid = false → t.closures[k].desc = {}) ∧
      t.closures[k].profile.dirty = !t.store.image.valid) ∧
    (∀ n : SeatId, t.seats[n].queue = [] ∧ t.seats[n].reply = none ∧ t.seats[n].line = false ∧
      (t.store.image.valid = true → t.seats[n].record = t.store.image.records[n]))
  (∀ (dt : Nat) (straps : Fin 4) (s : State), s.powered = true → s.asleepSince = none →
     ∃ t, exec (.resetInput dt straps) s = .next t ∧ t.loading = true ∧ t.powered = true ∧ t.asleepSince = none ∧
       t.link.receiver = .idle ∧ t.link.seatBase = 0x30 + 4 * straps.val ∧ stored s t ∧
       t.window = none ∧ t.deferred = [] ∧ t.arbiter.queue = [] ∧ t.arbiter.heldCount = 0 ∧
       (∀ w : Fin 6, t.words[w] = 0) ∧
       (∀ k : ClosureId,
         let top : Int := t.closures[k].desc.travel + 64
         let old := s.closures[k]
         t.closures[k].ctx = {} ∧ t.closures[k].verdict = {} ∧ t.closures[k].lastOutcome = none ∧
         t.closures[k].counter.stallTimer = none ∧ t.closures[k].counter.burst = old.counter.burst ∧
         t.closures[k].counter.phaseA = old.counter.phaseA ∧ t.closures[k].counter.phaseB = old.counter.phaseB ∧
         t.closures[k].counter.position = min top old.counter.position ∧
         (top < old.counter.position ∨ t.closures[k].desc.polarity ≠ old.desc.polarity →
           t.closures[k].counter.validity = .lost) ∧
         (old.counter.position ≤ top → t.closures[k].desc.polarity = old.desc.polarity →
           t.closures[k].counter.validity = old.counter.validity))) ∧
  (∀ (dt : Nat) (straps : Fin 4) (a b : Byte) (s : State),
     ∃ t, exec (.coldStart dt straps a b) s = .next t ∧ t.loading = true ∧ t.powered = true ∧ stored s t ∧
       t.link.seatBase = 0x30 + 4 * straps.val ∧ (∀ w : Fin 6, t.words[w] = 0) ∧
       (∀ k : ClosureId,
         let image := t.store.image
         let top : Int := image.descriptions[k].travel + 64
         t.closures[k].ctx = {} ∧ t.closures[k].counter.phaseA = hasMember a k.val ∧
         t.closures[k].counter.phaseB = hasMember b k.val ∧ t.closures[k].counter.burst = 0 ∧
         (image.valid = true → image.parked = true →
           t.closures[k].counter.position = min top image.positions[k].pos ∧
           (image.positions[k].pos ≤ top → t.closures[k].counter.validity = image.positions[k].validity) ∧
           (top < image.positions[k].pos → t.closures[k].counter.validity = .lost)) ∧
         (image.valid = false ∨ image.parked = false →
           t.closures[k].counter.position = 0 ∧ t.closures[k].counter.validity = .lost)))

/-- START_UP_LOAD_END and POWER_LOSS (R161, R117, R155, R157): the part takes its addresses with unpark pending set by
the image's markers; the notices that fell due in the load are posted in their order with the end of the load as their
time (R106, R130), and an undriven burst among them asks for the unpark write while it is pending (R158); a loss of
power leaves the image alone, its valid marker cleared when a write was in flight. That the lines of a part without
power are inactive is the model's choice (log entry 7). -/
def Obligations.LoadEndAndPowerLoss : Prop :=
  ∀ (dt : Nat) (s : State),
    (s.Attentive → s.loading = true → s.deferred = [] →
      exec (.startUpLoadEnd dt) s = .next
        { s.later dt with
          loading := false
          arbiter := { s.arbiter with unparkPending := s.store.image.valid && s.store.image.parked } }) ∧
    (s.Attentive → s.loading = true →
      let pending := s.store.image.valid && s.store.image.parked
      let moved := ∃ k : ClosureId, DueNotice.movedUndriven k ∈ s.deferred
      let due := fun n : SeatId => s.deferred.filterMap fun x : DueNotice =>
        match x with
        | .movedUndriven k =>
          if hasMember s.seats[n].record.subscription k.val = true then
            some ({ body := .movedUndriven k, time := s.now + dt } : Notice)
          else none
        | .supplyLowEntered mV => some { body := .supplyLowEntered mV, time := s.now + dt }
        | .supplyRecovered mV => some { body := .supplyRecovered mV, time := s.now + dt }
      ∃ t, exec (.startUpLoadEnd dt) s = .next t ∧ t.loading = false ∧ t.deferred = [] ∧ t.closures = s.closures ∧
        (∀ n : SeatId,
          (s.seats[n].queue.length + (due n).length ≤ 16 → t.seats[n].queue = s.seats[n].queue ++ due n) ∧
          (due n = [] → t.seats[n] = s.seats[n])) ∧
        (pending = false ∨ ¬ moved ∨ s.arbiter.unparkWait ≠ .none →
          t.arbiter = { s.arbiter with unparkPending := pending } ∧ t.store = s.store) ∧
        (pending = true → moved → s.arbiter.unparkWait = .none → s.store.job = .idle →
          t.arbiter = { s.arbiter with unparkPending := true, unparkWait := .writing } ∧
          t.store = { s.store with job := .unparking, image := { s.store.image with valid := false } })) ∧
    (s.powered = true →
      ∃ t, exec (.powerLoss dt) s = .next t ∧ t.powered = false ∧
        (∀ k : ClosureId, t.closures[k].ctx.permit = .hold) ∧ (∀ n : SeatId, t.seats[n].line = false) ∧
        (s.store.job = .idle → t.store.image = s.store.image) ∧
        (s.store.job ≠ .idle → t.store.image.valid = false))
end

