-- ==== Sys2Proof/Laws/State.lean ====
section
/-! SUPPORT. One lemma for each field of the state and each update of it, so that no proof unfolds a record update. -/
namespace Sys2Proof.Machine

section
variable (s : State) (dt : Nat)

@[simp] theorem State.advance_pending : (s.advance dt).pending = s.pending := rfl
@[simp] theorem State.advance_now : (s.advance dt).now = s.now + dt := rfl
@[simp] theorem State.advance_powered : (s.advance dt).powered = s.powered := rfl
@[simp] theorem State.advance_loading : (s.advance dt).loading = s.loading := rfl
@[simp] theorem State.advance_asleepSince : (s.advance dt).asleepSince = s.asleepSince := rfl
@[simp] theorem State.advance_closures : (s.advance dt).closures = s.closures := rfl
@[simp] theorem State.advance_seats : (s.advance dt).seats = s.seats := rfl
@[simp] theorem State.advance_front : (s.advance dt).front = s.front := rfl
@[simp] theorem State.advance_arbiter : (s.advance dt).arbiter = s.arbiter := rfl
@[simp] theorem State.advance_settings : (s.advance dt).settings = s.settings := rfl
@[simp] theorem State.advance_words : (s.advance dt).words = s.words := rfl
@[simp] theorem State.advance_window : (s.advance dt).window = s.window := rfl
@[simp] theorem State.advance_link : (s.advance dt).link = s.link := rfl
@[simp] theorem State.advance_store : (s.advance dt).store = s.store := rfl
@[simp] theorem State.advance_deferred : (s.advance dt).deferred = s.deferred := rfl
@[simp] theorem State.advance_freeCount : (s.advance dt).freeCount = s.freeCount := rfl

end

section
variable (s : State) (k : ClosureId) (f : ClosureState → ClosureState)

@[simp] theorem State.modClosure_pending : (s.modClosure k f).pending = s.pending := rfl
@[simp] theorem State.modClosure_now : (s.modClosure k f).now = s.now := rfl
@[simp] theorem State.modClosure_powered : (s.modClosure k f).powered = s.powered := rfl
@[simp] theorem State.modClosure_loading : (s.modClosure k f).loading = s.loading := rfl
@[simp] theorem State.modClosure_asleepSince : (s.modClosure k f).asleepSince = s.asleepSince := rfl
@[simp] theorem State.modClosure_closures : (s.modClosure k f).closures = s.closures.set k (f s.closures[k]) := rfl
@[simp] theorem State.modClosure_seats : (s.modClosure k f).seats = s.seats := rfl
@[simp] theorem State.modClosure_front : (s.modClosure k f).front = s.front := rfl
@[simp] theorem State.modClosure_arbiter : (s.modClosure k f).arbiter = s.arbiter := rfl
@[simp] theorem State.modClosure_settings : (s.modClosure k f).settings = s.settings := rfl
@[simp] theorem State.modClosure_words : (s.modClosure k f).words = s.words := rfl
@[simp] theorem State.modClosure_window : (s.modClosure k f).window = s.window := rfl
@[simp] theorem State.modClosure_link : (s.modClosure k f).link = s.link := rfl
@[simp] theorem State.modClosure_store : (s.modClosure k f).store = s.store := rfl
@[simp] theorem State.modClosure_deferred : (s.modClosure k f).deferred = s.deferred := rfl
@[simp] theorem State.modClosure_freeCount : (s.modClosure k f).freeCount = s.freeCount := rfl

end

section
variable (s : State) (k : ClosureId) (f : Counter → Counter)

@[simp] theorem State.modCounter_pending : (s.modCounter k f).pending = s.pending := rfl
@[simp] theorem State.modCounter_now : (s.modCounter k f).now = s.now := rfl
@[simp] theorem State.modCounter_powered : (s.modCounter k f).powered = s.powered := rfl
@[simp] theorem State.modCounter_loading : (s.modCounter k f).loading = s.loading := rfl
@[simp] theorem State.modCounter_asleepSince : (s.modCounter k f).asleepSince = s.asleepSince := rfl
@[simp] theorem State.modCounter_closures : (s.modCounter k f).closures =
    s.closures.set k { s.closures[k] with counter := f s.closures[k].counter } := rfl
@[simp] theorem State.modCounter_seats : (s.modCounter k f).seats = s.seats := rfl
@[simp] theorem State.modCounter_front : (s.modCounter k f).front = s.front := rfl
@[simp] theorem State.modCounter_arbiter : (s.modCounter k f).arbiter = s.arbiter := rfl
@[simp] theorem State.modCounter_settings : (s.modCounter k f).settings = s.settings := rfl
@[simp] theorem State.modCounter_words : (s.modCounter k f).words = s.words := rfl
@[simp] theorem State.modCounter_window : (s.modCounter k f).window = s.window := rfl
@[simp] theorem State.modCounter_link : (s.modCounter k f).link = s.link := rfl
@[simp] theorem State.modCounter_store : (s.modCounter k f).store = s.store := rfl
@[simp] theorem State.modCounter_deferred : (s.modCounter k f).deferred = s.deferred := rfl
@[simp] theorem State.modCounter_freeCount : (s.modCounter k f).freeCount = s.freeCount := rfl

end

section
variable (s : State) (k : ClosureId) (f : Context → Context)

@[simp] theorem State.modCtx_pending : (s.modCtx k f).pending = s.pending := rfl
@[simp] theorem State.modCtx_now : (s.modCtx k f).now = s.now := rfl
@[simp] theorem State.modCtx_powered : (s.modCtx k f).powered = s.powered := rfl
@[simp] theorem State.modCtx_loading : (s.modCtx k f).loading = s.loading := rfl
@[simp] theorem State.modCtx_asleepSince : (s.modCtx k f).asleepSince = s.asleepSince := rfl
@[simp] theorem State.modCtx_closures : (s.modCtx k f).closures =
    s.closures.set k { s.closures[k] with ctx := f s.closures[k].ctx } := rfl
@[simp] theorem State.modCtx_seats : (s.modCtx k f).seats = s.seats := rfl
@[simp] theorem State.modCtx_front : (s.modCtx k f).front = s.front := rfl
@[simp] theorem State.modCtx_arbiter : (s.modCtx k f).arbiter = s.arbiter := rfl
@[simp] theorem State.modCtx_settings : (s.modCtx k f).settings = s.settings := rfl
@[simp] theorem State.modCtx_words : (s.modCtx k f).words = s.words := rfl
@[simp] theorem State.modCtx_window : (s.modCtx k f).window = s.window := rfl
@[simp] theorem State.modCtx_link : (s.modCtx k f).link = s.link := rfl
@[simp] theorem State.modCtx_store : (s.modCtx k f).store = s.store := rfl
@[simp] theorem State.modCtx_deferred : (s.modCtx k f).deferred = s.deferred := rfl
@[simp] theorem State.modCtx_freeCount : (s.modCtx k f).freeCount = s.freeCount := rfl

end

section
variable (s : State) (k : ClosureId) (f : Verdict → Verdict)

@[simp] theorem State.modVerdict_pending : (s.modVerdict k f).pending = s.pending := rfl
@[simp] theorem State.modVerdict_now : (s.modVerdict k f).now = s.now := rfl
@[simp] theorem State.modVerdict_powered : (s.modVerdict k f).powered = s.powered := rfl
@[simp] theorem State.modVerdict_loading : (s.modVerdict k f).loading = s.loading := rfl
@[simp] theorem State.modVerdict_asleepSince : (s.modVerdict k f).asleepSince = s.asleepSince := rfl
@[simp] theorem State.modVerdict_closures : (s.modVerdict k f).closures =
    s.closures.set k { s.closures[k] with verdict := f s.closures[k].verdict } := rfl
@[simp] theorem State.modVerdict_seats : (s.modVerdict k f).seats = s.seats := rfl
@[simp] theorem State.modVerdict_front : (s.modVerdict k f).front = s.front := rfl
@[simp] theorem State.modVerdict_arbiter : (s.modVerdict k f).arbiter = s.arbiter := rfl
@[simp] theorem State.modVerdict_settings : (s.modVerdict k f).settings = s.settings := rfl
@[simp] theorem State.modVerdict_words : (s.modVerdict k f).words = s.words := rfl
@[simp] theorem State.modVerdict_window : (s.modVerdict k f).window = s.window := rfl
@[simp] theorem State.modVerdict_link : (s.modVerdict k f).link = s.link := rfl
@[simp] theorem State.modVerdict_store : (s.modVerdict k f).store = s.store := rfl
@[simp] theorem State.modVerdict_deferred : (s.modVerdict k f).deferred = s.deferred := rfl
@[simp] theorem State.modVerdict_freeCount : (s.modVerdict k f).freeCount = s.freeCount := rfl

end

section
variable (s : State) (k : ClosureId) (f : Profile → Profile)

@[simp] theorem State.modProfile_pending : (s.modProfile k f).pending = s.pending := rfl
@[simp] theorem State.modProfile_now : (s.modProfile k f).now = s.now := rfl
@[simp] theorem State.modProfile_powered : (s.modProfile k f).powered = s.powered := rfl
@[simp] theorem State.modProfile_loading : (s.modProfile k f).loading = s.loading := rfl
@[simp] theorem State.modProfile_asleepSince : (s.modProfile k f).asleepSince = s.asleepSince := rfl
@[simp] theorem State.modProfile_closures : (s.modProfile k f).closures =
    s.closures.set k { s.closures[k] with profile := f s.closures[k].profile } := rfl
@[simp] theorem State.modProfile_seats : (s.modProfile k f).seats = s.seats := rfl
@[simp] theorem State.modProfile_front : (s.modProfile k f).front = s.front := rfl
@[simp] theorem State.modProfile_arbiter : (s.modProfile k f).arbiter = s.arbiter := rfl
@[simp] theorem State.modProfile_settings : (s.modProfile k f).settings = s.settings := rfl
@[simp] theorem State.modProfile_words : (s.modProfile k f).words = s.words := rfl
@[simp] theorem State.modProfile_window : (s.modProfile k f).window = s.window := rfl
@[simp] theorem State.modProfile_link : (s.modProfile k f).link = s.link := rfl
@[simp] theorem State.modProfile_store : (s.modProfile k f).store = s.store := rfl
@[simp] theorem State.modProfile_deferred : (s.modProfile k f).deferred = s.deferred := rfl
@[simp] theorem State.modProfile_freeCount : (s.modProfile k f).freeCount = s.freeCount := rfl

end

section
variable (s : State) (n : SeatId) (f : SeatState → SeatState)

@[simp] theorem State.modSeat_pending : (s.modSeat n f).pending = s.pending := rfl
@[simp] theorem State.modSeat_now : (s.modSeat n f).now = s.now := rfl
@[simp] theorem State.modSeat_powered : (s.modSeat n f).powered = s.powered := rfl
@[simp] theorem State.modSeat_loading : (s.modSeat n f).loading = s.loading := rfl
@[simp] theorem State.modSeat_asleepSince : (s.modSeat n f).asleepSince = s.asleepSince := rfl
@[simp] theorem State.modSeat_closures : (s.modSeat n f).closures = s.closures := rfl
@[simp] theorem State.modSeat_seats : (s.modSeat n f).seats = s.seats.set n (f s.seats[n]) := rfl
@[simp] theorem State.modSeat_front : (s.modSeat n f).front = s.front := rfl
@[simp] theorem State.modSeat_arbiter : (s.modSeat n f).arbiter = s.arbiter := rfl
@[simp] theorem State.modSeat_settings : (s.modSeat n f).settings = s.settings := rfl
@[simp] theorem State.modSeat_words : (s.modSeat n f).words = s.words := rfl
@[simp] theorem State.modSeat_window : (s.modSeat n f).window = s.window := rfl
@[simp] theorem State.modSeat_link : (s.modSeat n f).link = s.link := rfl
@[simp] theorem State.modSeat_store : (s.modSeat n f).store = s.store := rfl
@[simp] theorem State.modSeat_deferred : (s.modSeat n f).deferred = s.deferred := rfl
@[simp] theorem State.modSeat_freeCount : (s.modSeat n f).freeCount = s.freeCount := rfl

end

section
variable (s : State) (f : Arbiter → Arbiter)

@[simp] theorem State.modArbiter_pending : (s.modArbiter f).pending = s.pending := rfl
@[simp] theorem State.modArbiter_now : (s.modArbiter f).now = s.now := rfl
@[simp] theorem State.modArbiter_powered : (s.modArbiter f).powered = s.powered := rfl
@[simp] theorem State.modArbiter_loading : (s.modArbiter f).loading = s.loading := rfl
@[simp] theorem State.modArbiter_asleepSince : (s.modArbiter f).asleepSince = s.asleepSince := rfl
@[simp] theorem State.modArbiter_closures : (s.modArbiter f).closures = s.closures := rfl
@[simp] theorem State.modArbiter_seats : (s.modArbiter f).seats = s.seats := rfl
@[simp] theorem State.modArbiter_front : (s.modArbiter f).front = s.front := rfl
@[simp] theorem State.modArbiter_arbiter : (s.modArbiter f).arbiter = f s.arbiter := rfl
@[simp] theorem State.modArbiter_settings : (s.modArbiter f).settings = s.settings := rfl
@[simp] theorem State.modArbiter_words : (s.modArbiter f).words = s.words := rfl
@[simp] theorem State.modArbiter_window : (s.modArbiter f).window = s.window := rfl
@[simp] theorem State.modArbiter_link : (s.modArbiter f).link = s.link := rfl
@[simp] theorem State.modArbiter_store : (s.modArbiter f).store = s.store := rfl
@[simp] theorem State.modArbiter_deferred : (s.modArbiter f).deferred = s.deferred := rfl
@[simp] theorem State.modArbiter_freeCount : (s.modArbiter f).freeCount = s.freeCount := rfl

end

section
variable (s : State) (f : Link → Link)

@[simp] theorem State.modLink_pending : (s.modLink f).pending = s.pending := rfl
@[simp] theorem State.modLink_now : (s.modLink f).now = s.now := rfl
@[simp] theorem State.modLink_powered : (s.modLink f).powered = s.powered := rfl
@[simp] theorem State.modLink_loading : (s.modLink f).loading = s.loading := rfl
@[simp] theorem State.modLink_asleepSince : (s.modLink f).asleepSince = s.asleepSince := rfl
@[simp] theorem State.modLink_closures : (s.modLink f).closures = s.closures := rfl
@[simp] theorem State.modLink_seats : (s.modLink f).seats = s.seats := rfl
@[simp] theorem State.modLink_front : (s.modLink f).front = s.front := rfl
@[simp] theorem State.modLink_arbiter : (s.modLink f).arbiter = s.arbiter := rfl
@[simp] theorem State.modLink_settings : (s.modLink f).settings = s.settings := rfl
@[simp] theorem State.modLink_words : (s.modLink f).words = s.words := rfl
@[simp] theorem State.modLink_window : (s.modLink f).window = s.window := rfl
@[simp] theorem State.modLink_link : (s.modLink f).link = f s.link := rfl
@[simp] theorem State.modLink_store : (s.modLink f).store = s.store := rfl
@[simp] theorem State.modLink_deferred : (s.modLink f).deferred = s.deferred := rfl
@[simp] theorem State.modLink_freeCount : (s.modLink f).freeCount = s.freeCount := rfl

end

section
variable (s : State) (f : ClosureId → ClosureState → ClosureState)

@[simp] theorem State.mapClosures_pending : (s.mapClosures f).pending = s.pending := rfl
@[simp] theorem State.mapClosures_now : (s.mapClosures f).now = s.now := rfl
@[simp] theorem State.mapClosures_powered : (s.mapClosures f).powered = s.powered := rfl
@[simp] theorem State.mapClosures_loading : (s.mapClosures f).loading = s.loading := rfl
@[simp] theorem State.mapClosures_asleepSince : (s.mapClosures f).asleepSince = s.asleepSince := rfl
@[simp] theorem State.mapClosures_closures : (s.mapClosures f).closures = Vector.ofFn fun k => f k s.closures[k] := rfl
@[simp] theorem State.mapClosures_seats : (s.mapClosures f).seats = s.seats := rfl
@[simp] theorem State.mapClosures_front : (s.mapClosures f).front = s.front := rfl
@[simp] theorem State.mapClosures_arbiter : (s.mapClosures f).arbiter = s.arbiter := rfl
@[simp] theorem State.mapClosures_settings : (s.mapClosures f).settings = s.settings := rfl
@[simp] theorem State.mapClosures_words : (s.mapClosures f).words = s.words := rfl
@[simp] theorem State.mapClosures_window : (s.mapClosures f).window = s.window := rfl
@[simp] theorem State.mapClosures_link : (s.mapClosures f).link = s.link := rfl
@[simp] theorem State.mapClosures_store : (s.mapClosures f).store = s.store := rfl
@[simp] theorem State.mapClosures_deferred : (s.mapClosures f).deferred = s.deferred := rfl
@[simp] theorem State.mapClosures_freeCount : (s.mapClosures f).freeCount = s.freeCount := rfl

end

section
variable (s : State) (p : SeatId → Bool) (b : NoticeBody)

@[simp] theorem State.postTo_pending : (s.postTo p b).pending = s.pending := rfl
@[simp] theorem State.postTo_now : (s.postTo p b).now = s.now := rfl
@[simp] theorem State.postTo_powered : (s.postTo p b).powered = s.powered := rfl
@[simp] theorem State.postTo_loading : (s.postTo p b).loading = s.loading := rfl
@[simp] theorem State.postTo_asleepSince : (s.postTo p b).asleepSince = s.asleepSince := rfl
@[simp] theorem State.postTo_closures : (s.postTo p b).closures = s.closures := rfl
@[simp] theorem State.postTo_seats : (s.postTo p b).seats =
    Vector.ofFn fun n => if p n then s.seats[n].post s.now { body := b, time := s.now } else s.seats[n] := rfl
@[simp] theorem State.postTo_front : (s.postTo p b).front = s.front := rfl
@[simp] theorem State.postTo_arbiter : (s.postTo p b).arbiter = s.arbiter := rfl
@[simp] theorem State.postTo_settings : (s.postTo p b).settings = s.settings := rfl
@[simp] theorem State.postTo_words : (s.postTo p b).words = s.words := rfl
@[simp] theorem State.postTo_window : (s.postTo p b).window = s.window := rfl
@[simp] theorem State.postTo_link : (s.postTo p b).link = s.link := rfl
@[simp] theorem State.postTo_store : (s.postTo p b).store = s.store := rfl
@[simp] theorem State.postTo_deferred : (s.postTo p b).deferred = s.deferred := rfl
@[simp] theorem State.postTo_freeCount : (s.postTo p b).freeCount = s.freeCount := rfl

end

section
variable (s : State) (n : SeatId) (c : Byte) (r : Result) (i : List Byte)

@[simp] theorem State.placeReply_pending : (s.placeReply n c r i).pending = s.pending := rfl
@[simp] theorem State.placeReply_now : (s.placeReply n c r i).now = s.now := rfl
@[simp] theorem State.placeReply_powered : (s.placeReply n c r i).powered = s.powered := rfl
@[simp] theorem State.placeReply_loading : (s.placeReply n c r i).loading = s.loading := rfl
@[simp] theorem State.placeReply_asleepSince : (s.placeReply n c r i).asleepSince = s.asleepSince := rfl
@[simp] theorem State.placeReply_closures : (s.placeReply n c r i).closures = s.closures := rfl
@[simp] theorem State.placeReply_seats : (s.placeReply n c r i).seats =
    s.seats.set n { s.seats[n] with
      reply := some { result := r, command := c, overwritten := s.seats[n].reply.isSome, items := i } } := rfl
@[simp] theorem State.placeReply_front : (s.placeReply n c r i).front = s.front := rfl
@[simp] theorem State.placeReply_arbiter : (s.placeReply n c r i).arbiter = s.arbiter := rfl
@[simp] theorem State.placeReply_settings : (s.placeReply n c r i).settings = s.settings := rfl
@[simp] theorem State.placeReply_words : (s.placeReply n c r i).words = s.words := rfl
@[simp] theorem State.placeReply_window : (s.placeReply n c r i).window = s.window := rfl
@[simp] theorem State.placeReply_link : (s.placeReply n c r i).link = s.link := rfl
@[simp] theorem State.placeReply_store : (s.placeReply n c r i).store = s.store := rfl
@[simp] theorem State.placeReply_deferred : (s.placeReply n c r i).deferred = s.deferred := rfl
@[simp] theorem State.placeReply_freeCount : (s.placeReply n c r i).freeCount = s.freeCount := rfl

end

section
variable (s : State) (k : ClosureId) (b : Bool)

@[simp] theorem State.setSlot_pending : (s.setSlot k b).pending = s.pending := rfl
@[simp] theorem State.setSlot_now : (s.setSlot k b).now = s.now := rfl
@[simp] theorem State.setSlot_powered : (s.setSlot k b).powered = s.powered := rfl
@[simp] theorem State.setSlot_loading : (s.setSlot k b).loading = s.loading := rfl
@[simp] theorem State.setSlot_asleepSince : (s.setSlot k b).asleepSince = s.asleepSince := rfl
@[simp] theorem State.setSlot_closures : (s.setSlot k b).closures = s.closures := rfl
@[simp] theorem State.setSlot_seats : (s.setSlot k b).seats = s.seats := rfl
@[simp] theorem State.setSlot_front : (s.setSlot k b).front = s.front := rfl
@[simp] theorem State.setSlot_arbiter : (s.setSlot k b).arbiter =
    { s.arbiter with held := s.arbiter.held.set k b } := rfl
@[simp] theorem State.setSlot_settings : (s.setSlot k b).settings = s.settings := rfl
@[simp] theorem State.setSlot_words : (s.setSlot k b).words = s.words := rfl
@[simp] theorem State.setSlot_window : (s.setSlot k b).window = s.window := rfl
@[simp] theorem State.setSlot_link : (s.setSlot k b).link = s.link := rfl
@[simp] theorem State.setSlot_store : (s.setSlot k b).store = s.store := rfl
@[simp] theorem State.setSlot_deferred : (s.setSlot k b).deferred = s.deferred := rfl
@[simp] theorem State.setSlot_freeCount : (s.setSlot k b).freeCount = s.freeCount := rfl

end

section
variable (s : State) (k : ClosureId)

@[simp] theorem State.leaveQueue_pending : (s.leaveQueue k).pending = s.pending := rfl
@[simp] theorem State.leaveQueue_now : (s.leaveQueue k).now = s.now := rfl
@[simp] theorem State.leaveQueue_powered : (s.leaveQueue k).powered = s.powered := rfl
@[simp] theorem State.leaveQueue_loading : (s.leaveQueue k).loading = s.loading := rfl
@[simp] theorem State.leaveQueue_asleepSince : (s.leaveQueue k).asleepSince = s.asleepSince := rfl
@[simp] theorem State.leaveQueue_closures : (s.leaveQueue k).closures = s.closures := rfl
@[simp] theorem State.leaveQueue_seats : (s.leaveQueue k).seats = s.seats := rfl
@[simp] theorem State.leaveQueue_front : (s.leaveQueue k).front = s.front := rfl
@[simp] theorem State.leaveQueue_arbiter : (s.leaveQueue k).arbiter =
    { s.arbiter with queue := s.arbiter.queue.filter fun e => decide (e.closure ≠ k) } := rfl
@[simp] theorem State.leaveQueue_settings : (s.leaveQueue k).settings = s.settings := rfl
@[simp] theorem State.leaveQueue_words : (s.leaveQueue k).words = s.words := rfl
@[simp] theorem State.leaveQueue_window : (s.leaveQueue k).window = s.window := rfl
@[simp] theorem State.leaveQueue_link : (s.leaveQueue k).link = s.link := rfl
@[simp] theorem State.leaveQueue_store : (s.leaveQueue k).store = s.store := rfl
@[simp] theorem State.leaveQueue_deferred : (s.leaveQueue k).deferred = s.deferred := rfl
@[simp] theorem State.leaveQueue_freeCount : (s.leaveQueue k).freeCount = s.freeCount := rfl

end

section
variable (s : State) (k : ClosureId) (r : EndReason) (w : Option SeatId)

@[simp] theorem State.settle_pending : (s.settle k r w).pending = s.pending := rfl
@[simp] theorem State.settle_now : (s.settle k r w).now = s.now := rfl
@[simp] theorem State.settle_powered : (s.settle k r w).powered = s.powered := rfl
@[simp] theorem State.settle_loading : (s.settle k r w).loading = s.loading := rfl
@[simp] theorem State.settle_asleepSince : (s.settle k r w).asleepSince = s.asleepSince := rfl
@[simp] theorem State.settle_closures : (s.settle k r w).closures =
    s.closures.set k (ClosureState.settle s.now r w s.closures[k]) := rfl
@[simp] theorem State.settle_seats : (s.settle k r w).seats = s.seats := rfl
@[simp] theorem State.settle_front : (s.settle k r w).front = s.front := rfl
@[simp] theorem State.settle_arbiter : (s.settle k r w).arbiter =
    { s.arbiter with held := s.arbiter.held.set k false } := rfl
@[simp] theorem State.settle_settings : (s.settle k r w).settings = s.settings := rfl
@[simp] theorem State.settle_words : (s.settle k r w).words = s.words := rfl
@[simp] theorem State.settle_window : (s.settle k r w).window = s.window := rfl
@[simp] theorem State.settle_link : (s.settle k r w).link = s.link := rfl
@[simp] theorem State.settle_store : (s.settle k r w).store = s.store := rfl
@[simp] theorem State.settle_deferred : (s.settle k r w).deferred = s.deferred := rfl
@[simp] theorem State.settle_freeCount : (s.settle k r w).freeCount = s.freeCount := rfl

end

section
variable (s : State) (r : Receiver) (a : List Bool)

@[simp] theorem State.frameSeen_pending : (s.frameSeen r a).pending = s.pending := rfl
@[simp] theorem State.frameSeen_now : (s.frameSeen r a).now = s.now := rfl
@[simp] theorem State.frameSeen_powered : (s.frameSeen r a).powered = s.powered := rfl
@[simp] theorem State.frameSeen_loading : (s.frameSeen r a).loading = s.loading := rfl
@[simp] theorem State.frameSeen_asleepSince : (s.frameSeen r a).asleepSince = s.asleepSince := rfl
@[simp] theorem State.frameSeen_closures : (s.frameSeen r a).closures = s.closures := rfl
@[simp] theorem State.frameSeen_seats : (s.frameSeen r a).seats = s.seats := rfl
@[simp] theorem State.frameSeen_front : (s.frameSeen r a).front = s.front := rfl
@[simp] theorem State.frameSeen_arbiter : (s.frameSeen r a).arbiter = s.arbiter := rfl
@[simp] theorem State.frameSeen_settings : (s.frameSeen r a).settings = s.settings := rfl
@[simp] theorem State.frameSeen_words : (s.frameSeen r a).words = s.words := rfl
@[simp] theorem State.frameSeen_window : (s.frameSeen r a).window = s.window := rfl
@[simp] theorem State.frameSeen_link : (s.frameSeen r a).link =
    { s.link with
      receiver := r
      sending := none
      quietTimer := some (s.now + Config.linkQuiet)
      stuckTimer := s.now + Config.linkStuck
      lastAcks := a } := rfl
@[simp] theorem State.frameSeen_store : (s.frameSeen r a).store = s.store := rfl
@[simp] theorem State.frameSeen_deferred : (s.frameSeen r a).deferred = s.deferred := rfl
@[simp] theorem State.frameSeen_freeCount : (s.frameSeen r a).freeCount = s.freeCount := rfl

end

section
variable (s : State) (b : Bool) (r : Receiver) (a : List Bool)

@[simp] theorem State.frameUnderWay_pending : (s.frameUnderWay b r a).pending = s.pending := rfl
@[simp] theorem State.frameUnderWay_now : (s.frameUnderWay b r a).now = s.now := rfl
@[simp] theorem State.frameUnderWay_powered : (s.frameUnderWay b r a).powered = s.powered := rfl
@[simp] theorem State.frameUnderWay_loading : (s.frameUnderWay b r a).loading = s.loading := rfl
@[simp] theorem State.frameUnderWay_asleepSince : (s.frameUnderWay b r a).asleepSince = s.asleepSince := rfl
@[simp] theorem State.frameUnderWay_closures : (s.frameUnderWay b r a).closures = s.closures := rfl
@[simp] theorem State.frameUnderWay_seats : (s.frameUnderWay b r a).seats = s.seats := rfl
@[simp] theorem State.frameUnderWay_front : (s.frameUnderWay b r a).front = s.front := rfl
@[simp] theorem State.frameUnderWay_arbiter : (s.frameUnderWay b r a).arbiter = s.arbiter := rfl
@[simp] theorem State.frameUnderWay_settings : (s.frameUnderWay b r a).settings = s.settings := rfl
@[simp] theorem State.frameUnderWay_words : (s.frameUnderWay b r a).words = s.words := rfl
@[simp] theorem State.frameUnderWay_window : (s.frameUnderWay b r a).window = s.window := rfl
@[simp] theorem State.frameUnderWay_store : (s.frameUnderWay b r a).store = s.store := rfl
@[simp] theorem State.frameUnderWay_deferred : (s.frameUnderWay b r a).deferred = s.deferred := rfl
@[simp] theorem State.frameUnderWay_freeCount : (s.frameUnderWay b r a).freeCount = s.freeCount := rfl
@[simp] theorem State.frameUnderWay_link : (s.frameUnderWay b r a).link =
    { s.link with
      receiver := r
      quietTimer := if b then some (s.now + Config.linkQuiet) else s.link.quietTimer
      stuckTimer := s.now + Config.linkStuck
      lastAcks := a } := rfl

end

section
variable (s : State) (n : Nat)

@[simp] theorem State.linesUnchanged_pending : (s.linesUnchanged n).pending = s.pending := rfl
@[simp] theorem State.linesUnchanged_now : (s.linesUnchanged n).now = s.now := rfl
@[simp] theorem State.linesUnchanged_powered : (s.linesUnchanged n).powered = s.powered := rfl
@[simp] theorem State.linesUnchanged_loading : (s.linesUnchanged n).loading = s.loading := rfl
@[simp] theorem State.linesUnchanged_asleepSince : (s.linesUnchanged n).asleepSince = s.asleepSince := rfl
@[simp] theorem State.linesUnchanged_closures : (s.linesUnchanged n).closures = s.closures := rfl
@[simp] theorem State.linesUnchanged_seats : (s.linesUnchanged n).seats = s.seats := rfl
@[simp] theorem State.linesUnchanged_front : (s.linesUnchanged n).front = s.front := rfl
@[simp] theorem State.linesUnchanged_arbiter : (s.linesUnchanged n).arbiter = s.arbiter := rfl
@[simp] theorem State.linesUnchanged_settings : (s.linesUnchanged n).settings = s.settings := rfl
@[simp] theorem State.linesUnchanged_words : (s.linesUnchanged n).words = s.words := rfl
@[simp] theorem State.linesUnchanged_window : (s.linesUnchanged n).window = s.window := rfl
@[simp] theorem State.linesUnchanged_store : (s.linesUnchanged n).store = s.store := rfl
@[simp] theorem State.linesUnchanged_deferred : (s.linesUnchanged n).deferred = s.deferred := rfl
@[simp] theorem State.linesUnchanged_freeCount : (s.linesUnchanged n).freeCount = s.freeCount := rfl
@[simp] theorem State.linesUnchanged_link : (s.linesUnchanged n).link =
    { s.link with stuckTimer := max s.link.stuckTimer (s.now + Config.linkStuck - n) } := rfl

end

section
variable (s : State)

@[simp] theorem State.awaitAddress_pending : s.awaitAddress.pending = s.pending := rfl
@[simp] theorem State.awaitAddress_now : s.awaitAddress.now = s.now := rfl
@[simp] theorem State.awaitAddress_powered : s.awaitAddress.powered = s.powered := rfl
@[simp] theorem State.awaitAddress_loading : s.awaitAddress.loading = s.loading := rfl
@[simp] theorem State.awaitAddress_asleepSince : s.awaitAddress.asleepSince = s.asleepSince := rfl
@[simp] theorem State.awaitAddress_closures : s.awaitAddress.closures = s.closures := rfl
@[simp] theorem State.awaitAddress_seats : s.awaitAddress.seats = s.seats := rfl
@[simp] theorem State.awaitAddress_front : s.awaitAddress.front = s.front := rfl
@[simp] theorem State.awaitAddress_arbiter : s.awaitAddress.arbiter = s.arbiter := rfl
@[simp] theorem State.awaitAddress_settings : s.awaitAddress.settings = s.settings := rfl
@[simp] theorem State.awaitAddress_words : s.awaitAddress.words = s.words := rfl
@[simp] theorem State.awaitAddress_window : s.awaitAddress.window = s.window := rfl
@[simp] theorem State.awaitAddress_link : s.awaitAddress.link = { s.link with receiver := .address, sending := none } := rfl
@[simp] theorem State.awaitAddress_store : s.awaitAddress.store = s.store := rfl
@[simp] theorem State.awaitAddress_deferred : s.awaitAddress.deferred = s.deferred := rfl
@[simp] theorem State.awaitAddress_freeCount : s.awaitAddress.freeCount = s.freeCount := rfl

end

section
variable (s : State)

@[simp] theorem State.emptyReplies_pending : s.emptyReplies.pending = s.pending := rfl
@[simp] theorem State.emptyReplies_now : s.emptyReplies.now = s.now := rfl
@[simp] theorem State.emptyReplies_powered : s.emptyReplies.powered = s.powered := rfl
@[simp] theorem State.emptyReplies_loading : s.emptyReplies.loading = s.loading := rfl
@[simp] theorem State.emptyReplies_asleepSince : s.emptyReplies.asleepSince = s.asleepSince := rfl
@[simp] theorem State.emptyReplies_closures : s.emptyReplies.closures = s.closures := rfl
@[simp] theorem State.emptyReplies_seats : s.emptyReplies.seats =
    Vector.ofFn fun n : SeatId => { s.seats[n] with reply := none } := rfl
@[simp] theorem State.emptyReplies_front : s.emptyReplies.front = s.front := rfl
@[simp] theorem State.emptyReplies_arbiter : s.emptyReplies.arbiter = s.arbiter := rfl
@[simp] theorem State.emptyReplies_settings : s.emptyReplies.settings = s.settings := rfl
@[simp] theorem State.emptyReplies_words : s.emptyReplies.words = s.words := rfl
@[simp] theorem State.emptyReplies_window : s.emptyReplies.window = s.window := rfl
@[simp] theorem State.emptyReplies_link : s.emptyReplies.link = s.link := rfl
@[simp] theorem State.emptyReplies_store : s.emptyReplies.store = s.store := rfl
@[simp] theorem State.emptyReplies_deferred : s.emptyReplies.deferred = s.deferred := rfl
@[simp] theorem State.emptyReplies_freeCount : s.emptyReplies.freeCount = s.freeCount := rfl

end

section
variable (s : State)

@[simp] theorem State.startUnparkWrite_pending : s.startUnparkWrite.pending = s.pending := rfl
@[simp] theorem State.startUnparkWrite_now : s.startUnparkWrite.now = s.now := rfl
@[simp] theorem State.startUnparkWrite_powered : s.startUnparkWrite.powered = s.powered := rfl
@[simp] theorem State.startUnparkWrite_loading : s.startUnparkWrite.loading = s.loading := rfl
@[simp] theorem State.startUnparkWrite_asleepSince : s.startUnparkWrite.asleepSince = s.asleepSince := rfl
@[simp] theorem State.startUnparkWrite_closures : s.startUnparkWrite.closures = s.closures := rfl
@[simp] theorem State.startUnparkWrite_seats : s.startUnparkWrite.seats = s.seats := rfl
@[simp] theorem State.startUnparkWrite_front : s.startUnparkWrite.front = s.front := rfl
@[simp] theorem State.startUnparkWrite_arbiter : s.startUnparkWrite.arbiter =
    { s.arbiter with unparkWait := .writing } := rfl
@[simp] theorem State.startUnparkWrite_settings : s.startUnparkWrite.settings = s.settings := rfl
@[simp] theorem State.startUnparkWrite_words : s.startUnparkWrite.words = s.words := rfl
@[simp] theorem State.startUnparkWrite_window : s.startUnparkWrite.window = s.window := rfl
@[simp] theorem State.startUnparkWrite_link : s.startUnparkWrite.link = s.link := rfl
@[simp] theorem State.startUnparkWrite_store : s.startUnparkWrite.store =
    { s.store with job := .unparking, image := { s.store.image with valid := false } } := rfl
@[simp] theorem State.startUnparkWrite_deferred : s.startUnparkWrite.deferred = s.deferred := rfl
@[simp] theorem State.startUnparkWrite_freeCount : s.startUnparkWrite.freeCount = s.freeCount := rfl

end

section
variable (s : State) (dt : Nat)

@[simp] theorem State.later_pending : (s.later dt).pending = s.pending := rfl
@[simp] theorem State.later_now : (s.later dt).now = s.now + dt := rfl
@[simp] theorem State.later_powered : (s.later dt).powered = s.powered := rfl
@[simp] theorem State.later_loading : (s.later dt).loading = s.loading := rfl
@[simp] theorem State.later_asleepSince : (s.later dt).asleepSince = s.asleepSince := rfl
@[simp] theorem State.later_closures : (s.later dt).closures = s.closures := rfl
@[simp] theorem State.later_seats : (s.later dt).seats = s.seats := rfl
@[simp] theorem State.later_front : (s.later dt).front = s.front := rfl
@[simp] theorem State.later_arbiter : (s.later dt).arbiter = s.arbiter := rfl
@[simp] theorem State.later_settings : (s.later dt).settings = s.settings := rfl
@[simp] theorem State.later_words : (s.later dt).words = s.words := rfl
@[simp] theorem State.later_window : (s.later dt).window = s.window := rfl
@[simp] theorem State.later_link : (s.later dt).link = s.link := rfl
@[simp] theorem State.later_store : (s.later dt).store = s.store := rfl
@[simp] theorem State.later_deferred : (s.later dt).deferred = s.deferred := rfl
@[simp] theorem State.later_freeCount : (s.later dt).freeCount = s.freeCount := rfl

end

section
variable (s : State) (k : ClosureId) (c : ClosureState)

@[simp] theorem State.withClosure_pending : (s.withClosure k c).pending = s.pending := rfl
@[simp] theorem State.withClosure_now : (s.withClosure k c).now = s.now := rfl
@[simp] theorem State.withClosure_powered : (s.withClosure k c).powered = s.powered := rfl
@[simp] theorem State.withClosure_loading : (s.withClosure k c).loading = s.loading := rfl
@[simp] theorem State.withClosure_asleepSince : (s.withClosure k c).asleepSince = s.asleepSince := rfl
@[simp] theorem State.withClosure_closures : (s.withClosure k c).closures = s.closures.set k c := rfl
@[simp] theorem State.withClosure_seats : (s.withClosure k c).seats = s.seats := rfl
@[simp] theorem State.withClosure_front : (s.withClosure k c).front = s.front := rfl
@[simp] theorem State.withClosure_arbiter : (s.withClosure k c).arbiter = s.arbiter := rfl
@[simp] theorem State.withClosure_settings : (s.withClosure k c).settings = s.settings := rfl
@[simp] theorem State.withClosure_words : (s.withClosure k c).words = s.words := rfl
@[simp] theorem State.withClosure_window : (s.withClosure k c).window = s.window := rfl
@[simp] theorem State.withClosure_link : (s.withClosure k c).link = s.link := rfl
@[simp] theorem State.withClosure_store : (s.withClosure k c).store = s.store := rfl
@[simp] theorem State.withClosure_deferred : (s.withClosure k c).deferred = s.deferred := rfl
@[simp] theorem State.withClosure_freeCount : (s.withClosure k c).freeCount = s.freeCount := rfl

end

section
variable (s : State) (k : ClosureId) (n : Nat) (r : EndReason) (w : Option SeatId)

@[simp] theorem State.moveEnded_pending : (s.moveEnded k n r w).pending = s.pending := rfl
@[simp] theorem State.moveEnded_now : (s.moveEnded k n r w).now = s.now := rfl
@[simp] theorem State.moveEnded_powered : (s.moveEnded k n r w).powered = s.powered := rfl
@[simp] theorem State.moveEnded_loading : (s.moveEnded k n r w).loading = s.loading := rfl
@[simp] theorem State.moveEnded_asleepSince : (s.moveEnded k n r w).asleepSince = s.asleepSince := rfl
@[simp] theorem State.moveEnded_closures : (s.moveEnded k n r w).closures =
    s.closures.set k (s.closures[k].settledAt n r w) := rfl
@[simp] theorem State.moveEnded_seats : (s.moveEnded k n r w).seats = s.seats := rfl
@[simp] theorem State.moveEnded_front : (s.moveEnded k n r w).front = s.front := rfl
@[simp] theorem State.moveEnded_arbiter : (s.moveEnded k n r w).arbiter =
    { s.arbiter with held := s.arbiter.held.set k false } := rfl
@[simp] theorem State.moveEnded_settings : (s.moveEnded k n r w).settings = s.settings := rfl
@[simp] theorem State.moveEnded_words : (s.moveEnded k n r w).words = s.words := rfl
@[simp] theorem State.moveEnded_window : (s.moveEnded k n r w).window = s.window := rfl
@[simp] theorem State.moveEnded_link : (s.moveEnded k n r w).link = s.link := rfl
@[simp] theorem State.moveEnded_store : (s.moveEnded k n r w).store = s.store := rfl
@[simp] theorem State.moveEnded_deferred : (s.moveEnded k n r w).deferred = s.deferred := rfl
@[simp] theorem State.moveEnded_freeCount : (s.moveEnded k n r w).freeCount = s.freeCount := rfl

end

end Sys2Proof.Machine
end

