-- ==== Sys2Proof/Laws/Ops.lean ====
section
/-! SUPPORT. What the shared operations can do, each said once: an event at a part at work, a command at a part at work,
and what a motion operation leaves alone. -/
namespace Sys2Proof.Machine

/-! One closure, one seat. -/

@[simp] theorem State.modClosure_self (s : State) (k : ClosureId) (f : ClosureState → ClosureState) :
    (s.modClosure k f).closures[k] = f s.closures[k] := by simp

theorem State.modClosure_other (s : State) {j k : ClosureId} (f : ClosureState → ClosureState) (h : j ≠ k) :
    (s.modClosure k f).closures[j] = s.closures[j] := by
  have : (k : Nat) ≠ j := fun e => h (Fin.ext e.symm)
  simp [this]

theorem State.modSeat_self (s : State) (n : SeatId) (f : SeatState → SeatState) :
    (s.modSeat n f).seats[n] = f s.seats[n] := by simp

theorem State.modSeat_other (s : State) {m n : SeatId} (f : SeatState → SeatState) (h : m ≠ n) :
    (s.modSeat n f).seats[m] = s.seats[m] := by
  have : (n : Nat) ≠ m := fun e => h (Fin.ext e.symm)
  simp [this]

@[simp] theorem State.withClosure_self (s : State) (k : ClosureId) (c : ClosureState) :
    (s.withClosure k c).closures[k] = c := by simp

theorem State.withClosure_other (s : State) {j k : ClosureId} (c : ClosureState) (h : j ≠ k) :
    (s.withClosure k c).closures[j] = s.closures[j] := by
  have : (k : Nat) ≠ j := fun e => h (Fin.ext e.symm)
  simp [this]

/-! Events and frames of a part at work. -/

/-- A part that has heard the link within the last 2 s does not enter sleep. -/
theorem State.sleepTest_of_quietTimer {s : State} (h : s.link.quietTimer.isSome = true) : s.sleepTest = s := by
  have : s.link.quietTimer.isNone = false := by
    cases hq : s.link.quietTimer <;> simp_all
  simp [State.sleepTest, State.maySleep, this]

theorem State.wake_of_awake {s : State} (h : s.asleepSince = none) : s.wake = s := by simp [State.wake, h]

/-- An event of its own at an attentive part is the event's effect at its time. -/
theorem State.onEvent_attentive {s : State} {act : State → State} {dt : Nat} (h : s.Attentive)
    (ha : (act (s.later dt)).link.quietTimer.isSome = true) : s.onEvent dt act = act (s.later dt) := by
  have hl : s.advance dt = s.later dt := rfl
  simp [State.onEvent, hl, h.1, h.2.1, State.sleepTest_of_quietTimer ha]

/-- With no frame in progress a start ends none. -/
theorem State.endOther_of_between {s : State} {heard : Heard} (h : s.link.midFrame = false) : s.endOther heard = s := by
  unfold State.endOther
  split
  · rfl
  · unfold Link.midFrame at h
    split at h
    all_goals simp_all

/-- A frame that goes on the one in progress ends none. -/
theorem State.endOther_of_continues {s : State} {heard : Heard} (h : s.link.continues heard = true) :
    s.endOther heard = s := by simp [State.endOther, h]

/-- A start ends another write frame in progress as a repeated start after its bytes does (R146, R147). -/
theorem State.endOther_writing {s : State} {heard : Heard} {target : Target} {bytes : List Byte} {discard : Bool}
    (hl : s.loading = false) (hr : s.link.receiver = .writing target bytes discard)
    (hc : s.link.continues heard = false) :
    s.endOther heard =
      (if discard then s.frameError target bytes
       else s.frameEffect (decodeWriteFrame 0 target .repeatedStart bytes)).awaitAddress := by
  simp only [State.endOther, hl, hc, hr, Bool.or_self, Bool.false_eq_true, if_false]

/-- A start ends another read frame in progress as a repeated start after the bytes sent does (R146, R150). -/
theorem State.endOther_reading {s : State} {heard : Heard} {n : SeatId} {sent : Nat} (hl : s.loading = false)
    (hr : s.link.receiver = .reading n sent) (hc : s.link.continues heard = false) :
    s.endOther heard = (s.readEffect n sent).awaitAddress := by
  simp only [State.endOther, hl, hc, hr, Bool.or_self, Bool.false_eq_true, if_false]

/-- A frame at a part that is awake is its effect at the frame's time, then what every frame leaves on the link. -/
theorem State.onFrame_awake {s : State} {act : State → State} {dt : Nat} {heard : Heard} {fin : FrameEnd}
    {acks : List Bool} (h : s.Awake) :
    s.onFrame dt heard fin acks act = (act (s.later dt)).frameSeen (receiverAfter fin) acks := by
  have hl : s.advance dt = s.later dt := rfl
  have hw : (s.later dt).wake = s.later dt := State.wake_of_awake (by simp [h.2.2.1])
  have he : (s.later dt).endOther heard = s.later dt := State.endOther_of_between h.2.2.2
  simp only [State.onFrame, hl, hw, he]
  simp [h.1, h.2.1]
  exact State.sleepTest_of_quietTimer rfl

/-- A frame under way at a part that is awake is its effect so far, then what it leaves on the link. -/
theorem State.onFrameUnderWay_awake {s : State} {act : State → State} {dt : Nat} {heard : Heard} {receiver : Receiver}
    {acks : List Bool} (h : s.Awake) :
    s.onFrameUnderWay dt heard receiver acks act =
      (act (s.later dt)).frameUnderWay (s.link.startsAfresh heard) receiver acks := by
  have hl : s.advance dt = s.later dt := rfl
  have hw : (s.later dt).wake = s.later dt := State.wake_of_awake (by simp [h.2.2.1])
  have he : (s.later dt).endOther heard = s.later dt := State.endOther_of_between h.2.2.2
  simp only [State.onFrameUnderWay, hl, hw, he]
  simp [h.1, h.2.1]

/-- A command at a part that is awake: its answer at the frame's time, the reply placed, the link left. -/
theorem State.seatCommand_awake {s : State} {f : SeatFrame} {code : Byte} {args : List Byte} {body : State → Answer}
    (h : s.Awake) :
    s.seatCommand f code args body =
      ((body (s.later f.dt)).placed f.seat code).frameSeen (receiverAfter f.fin)
        (List.replicate (args.length + 4) true) :=
  State.onFrame_awake h

/-- A command at a part that is awake whose answer leaves clock and link alone is `answered` of the state with its
effect. -/
theorem State.seatCommand_answered {s u : State} {f : SeatFrame} {code : Byte} {args : List Byte}
    {body : State → Answer} {r : Result} {items : List Byte} (h : s.Awake)
    (hb : body (s.later f.dt) = { state := u.later f.dt, result := r, items := items }) :
    s.seatCommand f code args body = u.answered f code args.length r items := by
  rw [State.seatCommand_awake h, hb]
  cases f with | mk dt n fin => cases fin <;> rfl

/-- A refused command at a part that is awake changes nothing but the seat's pending reply and the link. -/
theorem State.seatCommand_refused {s : State} {f : SeatFrame} {code : Byte} {args : List Byte}
    {body : State → Answer} {r : Result} (h : s.Awake) (hb : body (s.later f.dt) = (s.later f.dt).refuse r) :
    s.seatCommand f code args body = s.answered f code args.length r [] := State.seatCommand_answered h hb

/-! What the motion operations leave alone. -/

/-- Everything outside the closures, the seats, the slot arbiter, the store and the count of free values agrees. -/
structure State.SameOutside (s t : State) : Prop where
  pending : t.pending = s.pending
  now : t.now = s.now
  powered : t.powered = s.powered
  loading : t.loading = s.loading
  asleepSince : t.asleepSince = s.asleepSince
  front : t.front = s.front
  settings : t.settings = s.settings
  words : t.words = s.words
  window : t.window = s.window
  link : t.link = s.link
  deferred : t.deferred = s.deferred

theorem State.SameOutside.refl (s : State) : s.SameOutside s := by
  constructor <;> rfl

theorem State.SameOutside.trans {s t u : State} (h : s.SameOutside t) (g : t.SameOutside u) : s.SameOutside u :=
  ⟨g.1.trans h.1, g.2.trans h.2, g.3.trans h.3, g.4.trans h.4, g.5.trans h.5, g.6.trans h.6, g.7.trans h.7,
    g.8.trans h.8, g.9.trans h.9, g.10.trans h.10, g.11.trans h.11⟩

theorem State.sameOutside_modClosure (s : State) (k : ClosureId) (f : ClosureState → ClosureState) :
    s.SameOutside (s.modClosure k f) := by constructor <;> rfl
theorem State.sameOutside_modArbiter (s : State) (f : Arbiter → Arbiter) : s.SameOutside (s.modArbiter f) := by
  constructor <;> rfl
theorem State.sameOutside_mapClosures (s : State) (f : ClosureId → ClosureState → ClosureState) :
    s.SameOutside (s.mapClosures f) := by constructor <;> rfl
theorem State.sameOutside_modSeat (s : State) (n : SeatId) (f : SeatState → SeatState) :
    s.SameOutside (s.modSeat n f) := by constructor <;> rfl
theorem State.sameOutside_postTo (s : State) (p : SeatId → Bool) (b : NoticeBody) : s.SameOutside (s.postTo p b) := by
  constructor <;> rfl
theorem State.sameOutside_settle (s : State) (k : ClosureId) (r : EndReason) (w : Option SeatId) :
    s.SameOutside (s.settle k r w) := by constructor <;> rfl

theorem State.sameOutside_askUnpark (s : State) : s.SameOutside s.askUnpark := by
  unfold State.askUnpark
  split <;> constructor <;> rfl

theorem State.sameOutside_grant (s : State) (k : ClosureId) : s.SameOutside (s.grant k) := by
  unfold State.grant
  dsimp only
  split
  · constructor <;> rfl
  · split <;> constructor <;> rfl

theorem State.sameOutside_grantLoop (fuel : Nat) (s : State) : s.SameOutside (s.grantLoop fuel) := by
  induction fuel generalizing s with
  | zero => constructor <;> rfl
  | succ n ih =>
    unfold State.grantLoop
    split
    · constructor <;> rfl
    · split
      · split
        · exact s.sameOutside_askUnpark
        · split
          · exact (s.sameOutside_grant _).trans (ih _)
          · constructor <;> rfl
      · constructor <;> rfl

theorem State.sameOutside_grantTest (s : State) : s.SameOutside s.grantTest := s.sameOutside_grantLoop _

theorem State.sameOutside_endMove (s : State) (k : ClosureId) (r : EndReason) (w : Option SeatId) :
    s.SameOutside (s.endMove k r w) :=
  .trans (t := s.settle k r w) (by constructor <;> rfl) (State.sameOutside_grantTest _)

theorem State.sameOutside_remove (s : State) (k : ClosureId) (r : EndReason) (w : Option SeatId) :
    s.SameOutside (s.remove k r w) := by
  unfold State.remove
  dsimp only
  split <;> constructor <;> rfl

theorem State.sameOutside_leaveQueue (s : State) (k : ClosureId) : s.SameOutside (s.leaveQueue k) :=
  s.sameOutside_modArbiter _

theorem State.foldl_leaveQueue (closures : List ClosureId) (s : State) :
    closures.foldl State.leaveQueue s =
      { s with arbiter := { s.arbiter with queue := s.arbiter.queue.filter fun e => decide (e.closure ∉ closures) } } := by
  induction closures generalizing s with
  | nil => simp
  | cons k rest ih => simp [ih, State.leaveQueue, State.modArbiter, List.filter_filter, Bool.and_comm]

/-- A GLOBAL command that clears the way for a release takes entries out of the slot queue, exactly those of the closures
given whose moves it removes, and changes nothing else (R104, operation 1). -/
theorem State.clearQueue_eq (s : State) (ask : Move) (closures : List ClosureId) :
    s.clearQueue ask closures =
      { s with arbiter := { s.arbiter with
          queue := s.arbiter.queue.filter fun e =>
            decide (e.closure ∉ closures.filter fun k => s.removesQueued k ask) } } :=
  State.foldl_leaveQueue _ s

theorem State.sameOutside_clearQueue (s : State) (ask : Move) (closures : List ClosureId) :
    s.SameOutside (s.clearQueue ask closures) := by
  rw [s.clearQueue_eq]; constructor <;> rfl

theorem State.sameOutside_enqueue (s : State) (k : ClosureId) (m : Move) : s.SameOutside (s.enqueue k m) := by
  constructor <;> rfl

theorem State.sameOutside_dropFollowOn (s : State) (k : ClosureId) (c : DropCause) :
    s.SameOutside (s.dropFollowOn k c) := by
  unfold State.dropFollowOn
  split <;> constructor <;> rfl

theorem State.sameOutside_storeFollowOn (s : State) (k : ClosureId) (m : Move) :
    s.SameOutside (s.storeFollowOn k m) :=
  (s.sameOutside_dropFollowOn k .superseded).trans (by constructor <;> rfl)

theorem State.sameOutside_settleEnd (s : State) (k : ClosureId) : s.SameOutside (s.settleEnd k) := by
  unfold State.settleEnd
  dsimp only
  split
  · split
    · constructor <;> simp [State.postOwner]
    · refine .trans ?_ (State.sameOutside_grantTest _)
      constructor <;> simp [State.enqueue, State.arrive, State.postOwner]
    · constructor <;> simp [State.postOwner, State.postSeat]
  · exact .refl s

theorem State.sameOutside_losePosition (s : State) (k : ClosureId) : s.SameOutside (s.losePosition k) := by
  unfold State.losePosition
  dsimp only
  split
  · constructor <;> rfl
  · split
    · constructor <;> rfl
    · split
      · split
        · exact .trans (by constructor <;> rfl) (State.sameOutside_endMove _ _ _ _)
        · exact .trans (by constructor <;> rfl) (State.sameOutside_endMove _ _ _ _)
        · exact .trans (by constructor <;> rfl) (State.sameOutside_remove _ _ _ _)
        · constructor <;> rfl
        · constructor <;> rfl
      · constructor <;> rfl

theorem State.sameOutside_recordAt (s : State) (k : ClosureId) (c : VerdictCause) (p : Int) (l t : Nat) :
    s.SameOutside (s.recordAt k c p l t).1 := by
  unfold State.recordAt
  split <;> constructor <;> rfl

theorem State.sameOutside_startReversal (s : State) (k : ClosureId) (m : Move) (r : VerdictRecord) :
    s.SameOutside (s.startReversal k m r) := by constructor <;> rfl

theorem State.sameOutside_loadVerdict (s : State) (k : ClosureId) (p : Int) (l t : Nat) :
    s.SameOutside (s.loadVerdict k p l t) := by
  unfold State.loadVerdict
  dsimp only
  split
  · exact .trans (by constructor <;> rfl) (State.sameOutside_endMove _ _ _ _)
  · split
    · exact (s.sameOutside_recordAt _ _ _ _ _).trans (State.sameOutside_startReversal _ _ _ _)
    · exact ((s.sameOutside_recordAt _ _ _ _ _).trans (State.sameOutside_modClosure _ _ _)).trans
        (State.sameOutside_endMove _ _ _ _)
  · constructor <;> rfl

theorem State.sameOutside_judgeStep (s : State) (k : ClosureId) (d : Direction) (path : Path) (p : Int) (l : Nat) :
    s.SameOutside (s.judgeStep k d path p l) := by
  unfold State.judgeStep
  dsimp only
  split
  · split
    · split
      · exact .trans (by constructor <;> rfl) (State.sameOutside_loadVerdict _ _ _ _ _)
      · constructor <;> rfl
    · constructor <;> rfl
  · constructor <;> rfl

theorem State.sameOutside_stepCompleted (s : State) (k : ClosureId) (d : Direction) (p : Nat) :
    s.SameOutside (s.stepCompleted k d p) := by
  unfold State.stepCompleted
  dsimp only
  split
  · split
    · constructor <;> rfl
    · exact .trans (by constructor <;> rfl) (State.sameOutside_judgeStep _ _ _ _ _ _)
  · constructor <;> rfl

theorem State.sameOutside_stallVerdict (s : State) (k : ClosureId) (m : Move) : s.SameOutside (s.stallVerdict k m) :=
  (s.sameOutside_recordAt _ _ _ _ _).trans (State.sameOutside_startReversal _ _ _ _)

theorem State.sameOutside_closedEndStall (s : State) (k : ClosureId) (m : Move) :
    s.SameOutside (s.closedEndStall k m) :=
  .trans (t := s.modClosure k (ClosureState.closedEnd m.kind)) (by constructor <;> rfl)
    (State.sameOutside_endMove _ _ _ _)

theorem State.sameOutside_classifyStall (s : State) (k : ClosureId) : s.SameOutside (s.classifyStall k) := by
  unfold State.classifyStall
  dsimp only
  split
  · split
    · split
      · exact s.sameOutside_closedEndStall _ _
      · exact s.sameOutside_stallVerdict _ _
    · exact .trans (by constructor <;> rfl) (State.sameOutside_endMove _ _ _ _)
  · split
    · exact .trans (by constructor <;> rfl) (State.sameOutside_endMove _ _ _ _)
    · constructor <;> rfl
  · constructor <;> rfl

/-! The grant test. -/

/-- With nothing waiting a grant test does nothing (R111). -/
theorem State.grantTest_empty {s : State} (h : s.arbiter.queue = []) : s.grantTest = s := by
  simp [State.grantTest, State.grantLoop, h]

/-- With no slot free a grant test does nothing (R111). -/
theorem State.grantTest_full {s : State} (h : s.arbiter.effective ≤ s.arbiter.heldCount) : s.grantTest = s := by
  unfold State.grantTest
  cases hq : s.arbiter.queue with
  | nil => rfl
  | cons x rest =>
    have : ¬ s.arbiter.heldCount < s.arbiter.effective := by omega
    simp [State.grantLoop, hq, this]

/-- A move's end with nothing waiting is `moveEnded` (R102, R107). -/
theorem State.endMove_empty {s : State} (k : ClosureId) (r : EndReason) (w : Option SeatId)
    (h : s.arbiter.queue = []) : s.endMove k r w = s.moveEnded k s.now r w := by
  unfold State.endMove
  rw [State.grantTest_empty (by simpa using h)]
  rfl

/-! Grant order (R110). -/

/-- Where an entry goes depends on the classes of the closures alone. -/
theorem State.insertEntry_congr {s t : State} (h : ∀ k, t.classOf k = s.classOf k) (e : QueueEntry)
    (q : List QueueEntry) : t.insertEntry e q = s.insertEntry e q := by
  induction q with
  | nil => rfl
  | cons x rest ih => simp [State.insertEntry, h, ih]

theorem State.mem_insertEntry (s : State) (e x : QueueEntry) (q : List QueueEntry) :
    x ∈ s.insertEntry e q ↔ x = e ∨ x ∈ q := by
  induction q with
  | nil => simp [State.insertEntry]
  | cons y rest ih =>
    unfold State.insertEntry
    split
    · simp
    · simp [ih]
      tauto

theorem State.length_insertEntry (s : State) (e : QueueEntry) (q : List QueueEntry) :
    (s.insertEntry e q).length = q.length + 1 := by
  induction q with
  | nil => rfl
  | cons y rest ih =>
    unfold State.insertEntry
    split <;> simp_all

/-! What a grant test leaves alone. -/

theorem State.askUnpark_closures (s : State) : s.askUnpark.closures = s.closures := by
  unfold State.askUnpark
  split <;> rfl

theorem State.askUnpark_seats (s : State) : s.askUnpark.seats = s.seats := by
  unfold State.askUnpark
  split <;> rfl

theorem State.grant_seats (s : State) (k : ClosureId) : (s.grant k).seats = s.seats := by
  unfold State.grant
  dsimp only
  split
  · rfl
  · split <;> rfl

theorem State.grantLoop_seats (fuel : Nat) (s : State) : (s.grantLoop fuel).seats = s.seats := by
  induction fuel generalizing s with
  | zero => rfl
  | succ n ih =>
    unfold State.grantLoop
    split
    · rfl
    · split
      · split
        · exact s.askUnpark_seats
        · split
          · rw [ih, State.grant_seats]
          · rfl
      · rfl

/-- A grant leaves every other closure as it was (R92). -/
theorem State.grant_other (s : State) {j k : ClosureId} (h : j ≠ k) : (s.grant k).closures[j] = s.closures[j] := by
  have h' : (k : Nat) ≠ j := fun e => h (Fin.ext e.symm)
  unfold State.grant
  dsimp only
  split
  · rfl
  · split <;> simp [h']

/-- A grant takes its closure out of the slot queue and no other (R92, R110). -/
theorem State.grant_queue (s : State) (k : ClosureId) :
    (s.grant k).arbiter.queue = s.arbiter.queue.filter fun e => decide (e.closure ≠ k) := by
  unfold State.grant
  dsimp only
  split
  · rfl
  · split <;> rfl

/-- A grant test with `fuel + 1` grants left and something waiting (R111). -/
theorem State.grantLoop_cons {s : State} {head : QueueEntry} {rest : List QueueEntry} (fuel : Nat)
    (h : s.arbiter.queue = head :: rest) :
    s.grantLoop (fuel + 1) =
      if s.arbiter.heldCount < s.arbiter.effective then
        if s.arbiter.unparkPending then s.askUnpark
        else if s.arbiter.unparkWait = .none then (s.grant head.closure).grantLoop fuel
        else s
      else s := by simp only [State.grantLoop, h]

/-- A grant test touches no closure that does not wait (R111). -/
theorem State.grantLoop_other (fuel : Nat) (s : State) (j : ClosureId)
    (h : ∀ e ∈ s.arbiter.queue, e.closure ≠ j) : (s.grantLoop fuel).closures[j] = s.closures[j] := by
  induction fuel generalizing s with
  | zero => rfl
  | succ n ih =>
    rcases hq : s.arbiter.queue with _ | ⟨head, rest⟩
    · have e : s.grantLoop (n + 1) = s := by simp only [State.grantLoop, hq]
      rw [e]
    · have hne : j ≠ head.closure := fun e => h head (by simp [hq]) e.symm
      rw [State.grantLoop_cons n hq]
      split
      · split
        · simp only [State.askUnpark_closures]
        · split
          · rw [ih _ (by
              intro e he
              rw [State.grant_queue] at he
              exact h e (List.mem_of_mem_filter he)), State.grant_other s hne]
          · rfl
      · rfl

end Sys2Proof.Machine
end

