-- ==== Sys2Proof/Tests/Slice0.lean ====
section
/-! SUPPORT. The tests: ill-formed commands, frames written out from the catalogue, the spec's worked examples, single
steps on small states, and for each obligation with hypotheses a witness that meets them. -/
namespace Sys2Proof.Tests
open Sys2Proof.Machine

/-! Small states. -/

/-- The frame of the spec's worked request: seat 1, 5 µs after the command before, ended by a stop. -/
def f1 : SeatFrame := { dt := 5, seat := 1, fin := .stop }
/-- A frame of seat 0, which holds every right on a blank store. -/
def f0 : SeatFrame := { dt := 5, seat := 0, fin := .stop }

/-- A WINDOW with a learned profile at a trusted position. -/
def window : ClosureState :=
  { desc := { cls := .window }, counter := { position := 500, validity := .valid }, profile := { status := .learned } }

/-- A part after its start-up load, the ignition on, closure 0 a WINDOW, closures 1 to 7 UNUSED. -/
def base : State :=
  { State.reset.withClosure 0 window with loading := false, words := State.reset.words.set 1 1 }

/-- The state after a command. -/
def after (c : Instr) (s : State) : State :=
  match exec c s with
  | .next t => t
  | .fault _ | .refused _ => s

/-- The result and the items of a seat's pending reply. -/
def replyOf (s : State) (n : SeatId) : Option (Result × List Byte) := s.seats[n].reply.map fun r => (r.result, r.items)

/-- A move of seat 0 from its panel. -/
def ask (kind : Kind) (d : Direction) : Move :=
  { seat := 0, kind := kind, direction := d, origin := .panel, target := none }

/-- `base` with closure 0 in a context, its slot held or not. -/
def withCtx (x : Context) (holds : Bool) (queue : List QueueEntry) : State :=
  { base.withClosure 0 { window with ctx := x } with
    arbiter := { base.arbiter with held := base.arbiter.held.set 0 holds, queue := queue } }

/-- Closure 0 RUNNING a move since 0 µs, its permit active. -/
def running (m : Move) : State :=
  withCtx { state := .running, move := some m, startPos := some 500, startTime := some 0,
            holdDeadline := if m.kind = .held then some 200000 else none, permit := .drive m.direction } true []

/-- Closure 0 QUEUED with a move since 0 µs. -/
def queued (m : Move) : State :=
  withCtx { state := .queued, move := some m, queueEntry := some 0,
            holdDeadline := if m.kind = .held then some 200000 else none } false [{ closure := 0, arrival := 1 }]

/-- Closure 0 SETTLING since 0 µs. -/
def settling (m : Move) : State :=
  withCtx { state := .settling, move := some m, endReason := some .stopped, endedBy := some 0, startPos := some 500,
            startTime := some 0, quietTimer := some 30000, limitTimer := some 300000 } false []

/-! Well-formedness: one ill-formed command for each check. -/

/-- 33 argument bytes fit no frame (R147). -/
theorem test_illFormed_argument_count : (Instr.move f1 (List.replicate 33 0)).wellFormed = false := by decide
/-- ALL-STOP at the broadcast address carries no argument (R151). -/
theorem test_illFormed_broadcast_allStop : (Instr.allStop 5 .broadcast .stop [0]).wellFormed = false := by decide
/-- READ SETTING of identifier 0x20 belongs to READ_DEVICE_SETTING (R4, R108). -/
theorem test_illFormed_readSetting_device : (Instr.readSetting f1 [0, 0x20]).wellFormed = false := by decide
/-- READ SETTING of identifier 0x30 belongs to READ_SLOT_STATE (R109). -/
theorem test_illFormed_readSetting_slots : (Instr.readSetting f1 [0, 0x30]).wellFormed = false := by decide
/-- WRITE SETTING of identifier 0x24 belongs to WRITE_T_RET (R127). -/
theorem test_illFormed_writeSetting : (Instr.writeSetting f1 [0, 0x24, 0, 45]).wellFormed = false := by decide
/-- 0x10 is MOVE's code, so it is no unknown command (R148). -/
theorem test_illFormed_unknownCommand : (Instr.unknownCommand f1 0x10 []).wellFormed = false := by decide
/-- A frame whose sum is 0 is not discarded (R147). -/
theorem test_illFormed_frameDiscard : (Instr.frameDiscard 5 (.seat 1) (some .stop) [0x60, 0x00, 0xA0]).wellFormed = false := by
  decide
/-- LINK RESET is taken at the broadcast address (R151). -/
theorem test_illFormed_broadcastFrame : (Instr.broadcastFrameDiscarded 5 0x7F [] .stop).wellFormed = false := by decide
/-- The worked request is well formed. -/
theorem test_wellFormed_move : (Instr.move f1 [3, 1, 0, 2]).wellFormed = true := by decide

/-! Frames, written out byte by byte from the catalogue (R147, R154). -/

/-- The worked request of The Closure Link: 0x10 + 0x04 + 0x03 + 0x01 + 0x00 + 0x02 = 0x1A, check byte 0xE6. -/
theorem test_frame_move : decodeWriteFrame 5 (.seat 1) .stop [0x10, 0x04, 0x03, 0x01, 0x00, 0x02, 0xE6] =
    .move f1 [3, 1, 0, 2] := by decide
/-- One argument bit changed: the check fails. -/
theorem test_frame_damaged : parseFrame [0x10, 0x04, 0x03, 0x01, 0x00, 0x03, 0xE6] = none := by decide
/-- Its last byte is not acknowledged; the bytes before it are. -/
theorem test_frame_damaged_acks :
    frameAcks [0x10, 0x04, 0x03, 0x01, 0x00, 0x03, 0xE6] = [true, true, true, true, true, true, false] := by decide
/-- READ CLOSURE 2: 0x20 + 0x01 + 0x02 = 0x23, check byte 0xDD. -/
theorem test_frame_readClosure : decodeWriteFrame 5 (.seat 1) .stop [0x20, 0x01, 0x02, 0xDD] = .readClosure f1 [2] := by
  decide
/-- MARK LEARNED 5: 0x32 + 0x01 + 0x05 = 0x38, check byte 0xC8. -/
theorem test_frame_markLearned : decodeWriteFrame 5 (.seat 1) .stop [0x32, 0x01, 0x05, 0xC8] = .markLearned f1 [5] := by
  decide
/-- WRITE SETTING of T_ret, 0x24, to 60: 0x41 + 0x04 + 0x00 + 0x24 + 0x00 + 0x3C = 0xA5, check byte 0x5B. -/
theorem test_frame_writeTRet :
    decodeWriteFrame 5 (.seat 1) .stop [0x41, 0x04, 0x00, 0x24, 0x00, 0x3C, 0x5B] = .writeTRet f1 0 60 := by decide
/-- READ SEAT RECORD 3: 0x48 + 0x01 + 0x03 = 0x4C, check byte 0xB4. -/
theorem test_frame_readSeatRecord :
    decodeWriteFrame 5 (.seat 1) .stop [0x48, 0x01, 0x03, 0xB4] = .readSeatRecord f1 [3] := by decide
/-- SET BITS of word 0 with set 0x0C: 0x52 + 0x02 + 0x00 + 0x0C = 0x60, check byte 0xA0. -/
theorem test_frame_setBits : decodeWriteFrame 5 (.seat 1) .stop [0x52, 0x02, 0x00, 0x0C, 0xA0] = .setBits f1 [0, 12] := by
  decide
/-- READ SEAT STATUS: 0x61 + 0x00, check byte 0x9F. -/
theorem test_frame_readSeatStatus : decodeWriteFrame 5 (.seat 1) .stop [0x61, 0x00, 0x9F] = .readSeatStatus f1 [] := by
  decide
/-- COMMIT with park: 0x70 + 0x01 + 0x01 = 0x72, check byte 0x8E. -/
theorem test_frame_commit : decodeWriteFrame 5 (.seat 1) .stop [0x70, 0x01, 0x01, 0x8E] = .commit f1 [1] := by decide
/-- ALL-STOP at the broadcast address: 0x1F + 0x00, check byte 0xE1. -/
theorem test_frame_allStop : decodeWriteFrame 5 .broadcast .stop [0x1F, 0x00, 0xE1] = .allStop 5 .broadcast .stop [] := by
  decide
/-- LINK RESET through a seat is an unknown command (R148): 0x7F + 0x00, check byte 0x81. -/
theorem test_frame_linkReset_at_seat :
    decodeWriteFrame 5 (.seat 1) .stop [0x7F, 0x00, 0x81] = .unknownCommand f1 0x7F [] := by decide
/-- A part strapped 0 takes 0x62 as a write and 0x63 as a read of seat 1 (The Closure Link, worked request). -/
theorem test_address : addressedBy 0x30 0x62 = .write (.seat 1) ∧ addressedBy 0x30 0x63 = .read 1 ∧
    addressedBy 0x30 0x70 = .other ∧ addressedBy 0x30 0x00 = .write .broadcast ∧ addressedBy 0x30 0x01 = .other := by
  decide
/-- The worked reply: m = 7, ACCEPTED, 0x10, no mark, closure 3, no target, QUEUED; the eight bytes and the check byte
sum to 0. -/
theorem test_reply_frame :
    ({ result := .accepted, command := 0x10, overwritten := false, items := [3, 0x7F, 0xFF, 0] } : Reply).frame =
      [0x07, 0x00, 0x10, 0x00, 0x03, 0x7F, 0xFF, 0x00, 0x68] := by decide

/-! The load estimator's worked examples. -/

/-- The ordinary step: T_exp 2,700, E 204, L_s 153, L_c 195, L_raw 174, L_f 135. -/
theorem test_load_ordinary :
    expectedPeriod { tRef := 2400, vRef := 13500, iRef := 3200 } 12000 = 2700 ∧ excessPeriod 3240 2700 = 204 ∧
    speedLoad 48 204 = 153 ∧ currentLoad 40 4450 3200 = 195 ∧ blendLoad 8 195 153 = 174 ∧
    filteredLoad [96, 120, 151, 174] = 135 := by decide
/-- Rounding half up, and both clamps of stage 1. -/
theorem test_load_expected :
    expectedPeriod { tRef := 1000, vRef := 12006 } 12000 = 1001 ∧
    expectedPeriod { tRef := 1000, vRef := 12006 } 12001 = 1000 ∧
    expectedPeriod { tRef := 200, vRef := 6000 } 18000 = 100 ∧
    expectedPeriod { tRef := 40000, vRef := 15000 } 6000 = 65535 := by decide
/-- Stage 2 at its upper clamp; the largest speed load. -/
theorem test_load_clamps :
    excessPeriod 14000 2700 = 4095 ∧ speedLoad 48 4095 = 3071 ∧ speedLoad 255 4095 = 16316 ∧
    excessPeriod 260 100 = 1638 ∧ speedLoad 48 1638 = 1228 := by decide
/-- Faster than expected: every division truncates toward zero. -/
theorem test_load_fast :
    excessPeriod 2160 2700 = -204 ∧ speedLoad 48 (-204) = -153 ∧ currentLoad 40 3000 3200 = -31 ∧
    blendLoad 8 (-31) (-153) = -92 ∧ filteredLoad [10, 4, -20, -92] = 0 ∧ filteredLoad [4, -20, -92, 150] = 10 ∧
    filteredLoad [2600, 2900, 3100, 3300] = 2047 := by decide
/-- The blend at its ends, and the fallback path. -/
theorem test_load_blend_fallback :
    blendLoad 16 195 153 = 195 ∧ blendLoad 0 195 153 = 153 ∧ blendLoad 5 195 153 = 166 ∧
    fallbackLoad { currentGain := 40 } 4450 = 695 ∧ filteredLoad [650, 672, 695] = 672 := by decide
/-- The mean current of one step: 9,355 over 3 samples. -/
theorem test_current_mean : ({ isOpen := true, sum := 9355, count := 3 } : Sense).mean = 3118 ∧
    ({ isOpen := true, lastMean := 3118 } : Sense).mean = 3118 := by decide
/-- The trace of one zone, steps a to c. -/
theorem test_trace :
    let e : ZoneEntry := { vRef := 13500 }
    let t := ((({} : TraceEntry).add .oneTouch e 2400 13500 3150).add .oneTouch e 2520 12900 3260).add
      .oneTouch e 3240 12000 4450
    t = { period := 7688, supply := 0, current := 10860, count := 3 } := by decide

/-! Profiles, zones and thresholds. -/

/-- Adapting zone 40, and the three further cases. -/
theorem test_adapt :
    (({ tRef := 2400, iRef := 3200, tAnchor := 2400, iAnchor := 3200 } : ZoneEntry).adapt
      { period := 7688, current := 10860, count := 3 } =
        { tRef := 2420, iRef := 3252, tAnchor := 2400, iAnchor := 3200 }) ∧
    adaptValue 2980 2400 4000 200 65535 = 3000 ∧ adaptValue 2420 2400 2413 200 65535 = 2420 ∧
    adaptValue 3252 3200 3100 0 40000 = 3233 := by decide
/-- Learning a vent: zones 62, 61 and 0. -/
theorem test_learned :
    ({ period := 7780, supply := 37870, current := 8100, count := 3 } : TraceEntry).learned =
      { tRef := 2593, iRef := 2700, vRef := 12623, tAnchor := 2593, iAnchor := 2700 } ∧
    ({ period := 5110, supply := 25200, current := 5290, count := 2 } : TraceEntry).learned =
      { tRef := 2555, iRef := 2645, vRef := 12600, tAnchor := 2555, iAnchor := 2645 } ∧
    ({ period := 17500, supply := 38100, current := 15300, count := 3 } : TraceEntry).learned =
      { tRef := 5833, iRef := 5100, vRef := 12700, tAnchor := 5833, iAnchor := 5100 } := by decide
/-- The zones of a front door window, L_full = 3,000. -/
theorem test_zones :
    let d : Description := {}
    d.zoneWidth = 46 ∧ (d.zone (-64)).val = 0 ∧ (d.zone 45).val = 0 ∧ (d.zone 46).val = 1 ∧ (d.zone 827).val = 17 ∧
    (d.zone 2897).val = 62 ∧ (d.zone 2898).val = 63 ∧ (d.zone 3064).val = 63 := by decide

/-- The sliding-door window of the examples as closure 2, FULL. -/
def slider : ClosureState :=
  { desc := { cls := .window, travel := 1280, pinchLimit := 1000 }
    counter := { position := 806, validity := .valid }
    profile := { status := .learned } }
/-- A part with the sliding-door window, at a temperature, SPEED BAND and ROUGHNESS. -/
def road (t : Int) (band rough : Byte) (c : ClosureState) : State :=
  { base.withClosure 2 c with
    front := { base.front with temperature := t }
    words := (base.words.set 3 band).set 4 rough }

/-- Composing thresholds, cases a to d. -/
theorem test_threshold_closing :
    (road 22 1 1 slider).threshold 2 .closing .profile 806 = 270 ∧
    (road (-18) 1 2 slider).threshold 2 .closing .profile 806 = 332 ∧
    (road (-40) 2 3 slider).threshold 2 .closing .profile 806 = 400 ∧
    (road (-40) 2 3 slider).threshold 2 .closing .profile 1100 = 690 := by decide
/-- Cases e to h. -/
theorem test_threshold_other :
    (road (-18) 0 3 slider).threshold 2 .closing .profile 806 = 272 ∧
    (road (-18) 1 2 slider).threshold 2 .closing .fallback 806 = 400 ∧
    (road (-18) 1 2 slider).threshold 2 .closing .fallback 1100 = 452 ∧
    (road (-18) 1 2 slider).threshold 2 .opening .fallback 806 = 692 := by decide
/-- Cases i to k: ESCAPE, and a LOST position. -/
theorem test_threshold_escape_lost :
    (road 22 1 1 { slider with verdict := { escape := true } }).threshold 2 .closing .profile 806 = 400 ∧
    (road 22 1 1 { slider with counter := { validity := .lost } }).threshold 2 .closing .fallback 1100 = 390 ∧
    (road (-11) 0 0 { slider with counter := { validity := .lost } }).threshold 2 .closing .fallback 10 = 364 := by decide
/-- Reversal targets of the hand and of the second failure. -/
theorem test_reversal_target : slider.reversalTarget 790 = 1190 ∧ slider.reversalTarget 830 = 1230 := by decide
/-- The week of a sliding-door window: run time and remainder after endings a, b, d and e. -/
theorem test_run_time :
    let a := ({ counters := { runTime := 1204 } } : Stats).addTime 2430
    let b := a.addTime 1870
    let d := b.addTime 980
    let e := d.addTime 640
    (a.counters.runTime, a.remainder) = (1228, 30) ∧ (b.counters.runTime, b.remainder) = (1247, 0) ∧
    (d.counters.runTime, d.remainder) = (1256, 80) ∧ (e.counters.runTime, e.remainder) = (1263, 20) := by decide

/-! One step each: motion commands. -/

/-- A MOVE at an IDLE context with a slot free is RUNNING at once, its permit CLOSE, and the reply says QUEUED (R88, R92).
-/
theorem test_move :
    let t := after (.move f0 [0, 1, 0, 0]) base
    t.closures[0].ctx.state = .running ∧ t.closures[0].ctx.permit = .drive .closing ∧ t.arbiter.held[0] = true ∧
    t.closures[0].counter.stallTimer = some 120005 ∧
    replyOf t 0 = some (.accepted, [0, 0x7F, 0xFF, 0]) := by decide
/-- Two seats on one window, time 260: an opening MOVE of seat 0 ends the held closing of seat 1 SUPERSEDED. -/
theorem test_move_supersedes :
    let t := after (.move f0 [0, 1, 1, 0]) (running { ask .held .closing with seat := 1 })
    t.closures[0].ctx.state = .settling ∧ t.closures[0].ctx.endReason = some .superseded ∧
    t.closures[0].ctx.endedBy = some 0 ∧ t.closures[0].ctx.followOn = some (ask .oneTouch .opening) ∧
    replyOf t 0 = some (.accepted, [0, 0x7F, 0xFF, 2]) := by decide
/-- RENEW of a held move sets the deadline one hold window of 200 ms on (R94). -/
theorem test_renew :
    (after (.renew f0 [0]) (running (ask .held .closing))).closures[0].ctx.holdDeadline = some 200005 := by decide
/-- STOP ends a RUNNING move whoever owns it (R95). -/
theorem test_stop :
    let t := after (.stop f1 [0]) (running (ask .oneTouch .opening))
    t.closures[0].ctx.state = .settling ∧ t.closures[0].ctx.endReason = some .stopped ∧
    t.closures[0].ctx.endedBy = some 1 ∧ t.arbiter.held[0] = false := by decide
/-- GLOBAL of closures 0 and 1, of which 1 is UNUSED: 0 is taken, and the first refusal is BAD_CLOSURE (R96). -/
theorem test_global :
    let t := after (.global f0 [3, 0, 2]) base
    replyOf t 0 = some (.accepted, [1, 1]) ∧ t.closures[0].ctx.state = .running ∧ t.closures[1].ctx.state = .idle := by
  decide
/-- CLEAR takes a closure out of ESCAPE (R98). -/
theorem test_clear :
    let t := after (.clear f0 [0]) (base.withClosure 0 { window with verdict := { reversals := 3, escape := true } })
    t.closures[0].verdict.reversals = 0 ∧ t.closures[0].verdict.escape = false := by decide
/-- ALL-STOP at the broadcast address has no reply and no ended-by seat (R97). -/
theorem test_allStop :
    let t := after (.allStop 5 .broadcast .stop []) (running (ask .oneTouch .closing))
    t.closures[0].ctx.endReason = some .allStopped ∧ t.closures[0].ctx.endedBy = none ∧ replyOf t 0 = none := by decide

/-! One step each: reads and writes. -/

/-- READ CLOSURE: position 500, VALID, FULL, IDLE, no owner (R20). -/
theorem test_readClosure : replyOf (after (.readClosure f1 [0]) base) 1 =
    some (.accepted, [0, 0x01, 0xF4, 0, 0, 0, 0, 0, 0xFF, 0, 0, 0, 0]) := by decide
/-- READ OUTCOME of a closure without one (R138). -/
theorem test_readOutcome : replyOf (after (.readOutcome f1 [0]) base) 1 = some (.accepted, [0]) := by decide
/-- READ STATS of a block at its reset values, statistics ON (R143). -/
theorem test_readStats : replyOf (after (.readStats f1 [0]) base) 1 =
    some (.accepted, [0, 0, 0, 0, 0, 0, 0, 0, 0, 0, 0, 0, 0, 0, 0, 0, 0, 0, 1]) := by decide
/-- CLEAR STATS zeroes the block, remainder and all (R144). -/
theorem test_clearStats :
    (after (.clearStats f0 [0]) (base.withClosure 0 { window with
      stats := { counters := { granted := 41, peak := 512 }, remainder := 30 } })).closures[0].stats = {} := by decide
/-- READ PROFILE of zone 63: T and I 2,000 = 0x07D0, V 13,500 = 0x34BC (R45, R56). -/
theorem test_readProfile : replyOf (after (.readProfile f1 [0, 63, 1]) base) 1 =
    some (.accepted, [0, 1, 63, 0x07, 0xD0, 0x07, 0xD0, 0x34, 0xBC, 0x07, 0xD0, 0x07, 0xD0]) := by decide
/-- WRITE PROFILE ZONE clamps 100 µs, 50,000 mA and 5,000 mV to 200, 40,000 and 6,000 (R57). -/
theorem test_writeProfileZone :
    replyOf (after (.writeProfileZone f0 [0, 5, 0x00, 0x64, 0xC3, 0x50, 0x13, 0x88]) base) 0 =
      some (.accepted, [5, 0x00, 0xC8, 0x9C, 0x40, 0x17, 0x70]) := by decide
/-- MARK LEARNED needs the SETTINGS right, which seat 1 has not (R58). -/
theorem test_markLearned :
    replyOf (after (.markLearned f1 [0]) base) 1 = some (.notPermitted, []) ∧
    (after (.markLearned f0 [1]) base).closures[1].profile.status = .learned := by decide
/-- READ SETTING of L_full: 3,000 = 0x0BB8 (R4). -/
theorem test_readSetting : replyOf (after (.readSetting f1 [0, 0x02]) base) 1 = some (.accepted, [2, 0x0B, 0xB8]) := by
  decide
/-- READ SETTING of V_low, whatever the closure byte: 10,500 = 0x2904 (R108). -/
theorem test_readDeviceSetting :
    replyOf (after (.readDeviceSetting f1 0xFF (.supply .vLow)) base) 1 = some (.accepted, [0x21, 0x29, 0x04]) := by
  decide
/-- READ SETTING of the slot state with closure 0 RUNNING (R109). -/
theorem test_readSlotState : replyOf (after (.readSlotState f1 0) (running (ask .held .opening))) 1 =
    some (.accepted, [3, 0, 0, 1, 0xFF, 0xFF, 0xFF, 0xFF, 0xFF, 0xFF, 0xFF, 0xFF, 0, 0]) := by decide
/-- WRITE SETTING of Zp clamps 10 to Zs + 4 = 20 (R1, R2). -/
theorem test_writeSetting : replyOf (after (.writeSetting f0 [0, 0x04, 0, 10]) base) 0 =
    some (.accepted, [4, 0, 20]) := by decide
/-- WRITE SETTING of V_low to 12,000 clamps V_resume to 12,200 (R108). -/
theorem test_writeDeviceSetting :
    let x := (after (.writeDeviceSetting f0 0 .vLow 12000) base).settings
    x.vLow = 12000 ∧ x.vResume = 12200 ∧ x.vMin = 8000 := by decide
/-- WRITE SETTING of T_ret clamps 300 to 255 (R127). -/
theorem test_writeTRet : (after (.writeTRet f0 0 300) base).settings.tRet = 255 := by decide
/-- READ SEAT RECORD of seat 1 at its blank-store defaults (R120, R122). -/
theorem test_readSeatRecord : replyOf (after (.readSeatRecord f1 [1]) base) 1 =
    some (.accepted, [1, 0xFF, 0x01, 0x3E, 0x00, 20, 1, 50]) := by decide
/-- WRITE SEAT RECORD reduces the rights and the word mask and clamps the rest (R122). -/
theorem test_writeSeatRecord : replyOf (after (.writeSeatRecord f0 [3, 0x0F, 0xF1, 0xC1, 0xF0, 0, 99, 0]) base) 0 =
    some (.accepted, [3, 0x0F, 0x01, 0x01, 0xF0, 6, 16, 5]) := by decide
/-- READ WORDS with the ignition on and the window CLOSED (R125). -/
theorem test_readWords : replyOf (after (.readWords f1 []) base) 1 = some (.accepted, [0, 1, 0, 0, 0, 0, 0, 0, 0]) := by
  decide
/-- WRITE WORD of IGNITION to 0 opens the retained window for 45 s (R126, R127). -/
theorem test_writeWord : (after (.writeWord f1 [1, 0]) base).window = some 45000005 := by decide
/-- SET BITS of CHILD LOCK by seat 0; seat 1's mask 0x3E does not hold word 0 (R124). -/
theorem test_setBits :
    replyOf (after (.setBits f0 [0, 0x0C]) base) 0 = some (.accepted, [0, 0, 0x0C]) ∧
    replyOf (after (.setBits f1 [0, 0x0C]) base) 1 = some (.notPermitted, []) := by decide
/-- CLEAR BITS of IGNITION (R124). -/
theorem test_clearBits : replyOf (after (.clearBits f1 [1, 1]) base) 1 = some (.accepted, [1, 1, 0]) := by decide
/-- COMPARE AND WRITE that does not match carries the present value (R124). -/
theorem test_compareAndWrite :
    replyOf (after (.compareAndWrite f1 [1, 0, 2]) base) 1 = some (.mismatch, [1]) ∧
    replyOf (after (.compareAndWrite f1 [1, 1, 2]) base) 1 = some (.accepted, [1, 1, 2]) := by decide

/-! One step each: notices, store, link. -/

/-- A queue of two notices, the older posted 510 ms before the frame's end. -/
def noticed : State :=
  { base with
    now := 509995
    seats := base.seats.set 0 { base.seats[0] with
      queue := [{ body := .movedUndriven 5, time := 0 }, { body := .storeDone .commit, time := 120000 }]
      record := { base.seats[0].record with trigger := 4 }
      staleDeadline := some 500000, cause := .stale, line := true } }

/-- A queue that falls behind, time 510: TAKE NOTICE returns U5 with age 510 = 0x01FE; the stale deadline is 620 ms. -/
theorem test_takeNotice :
    let t := after (.takeNotice f0 []) noticed
    replyOf t 0 = some (.accepted, [3, 0, 5, 0x01, 0xFE]) ∧ t.seats[0].queue.length = 1 ∧
    t.seats[0].staleDeadline = some 620000 ∧ t.seats[0].line = false := by decide
/-- READ SEAT STATUS: count, urgent present, loss count, cause STALE, store IDLE, source DEFAULTS (R133). -/
theorem test_readSeatStatus :
    let t := after (.readSeatStatus f0 []) { noticed with
      seats := noticed.seats.set 0 { noticed.seats[0] with lossCount := 3 } }
    replyOf t 0 = some (.accepted, [2, 0, 3, 3, 0, 1]) ∧ t.seats[0].lossCount = 0 := by decide
/-- COMMIT with park (Parking and a restart, first row): COMMITTING, unpark pending set, image-valid still as it was. -/
theorem test_commit :
    let t := after (.commit f0 [1]) base
    t.store.job.code = 1 ∧ t.arbiter.unparkPending = true ∧ replyOf t 0 = some (.accepted, []) ∧
    t.closures[0].profile.capture = true := by decide
/-- `base` with a parking commit of seat 0 in flight. -/
def committing (park : Bool) : State :=
  { base with store := { base.store with job := .committing 0 park base.capture } }
/-- Its completion (third row): both markers set, closure 0 stored at 500, STORE_DONE to seat 0. -/
theorem test_commitCompletion :
    let t := after (.commitCompletion 5) (committing true)
    t.store.image.valid = true ∧ t.store.image.parked = true ∧ t.store.image.positions[0].pos = 500 ∧
    t.store.job.code = 0 ∧ t.seats[0].queue = [{ body := .storeDone .parkingCommit, time := 5 }] := by decide
/-- A failure leaves the image-valid marker clear and unpark pending clear (R117, R157). -/
theorem test_commitFailure :
    let t := after (.commitFailure 5) (committing true)
    t.store.image.valid = false ∧ t.arbiter.unparkPending = false ∧
    t.seats[0].queue = [{ body := .storeFailed .parkingCommit, time := 5 }] := by decide
/-- `base` with unpark pending and an image that holds both markers. -/
def parked : State :=
  { base with
    arbiter := { base.arbiter with unparkPending := true }
    store := { base.store with image := { base.capture with valid := true, parked := true } } }
/-- A MOVE then waits and the unpark write is asked for (fifth row). -/
theorem test_move_waits_for_unpark :
    let t := after (.move f1 [0, 0, 1, 0]) parked
    t.closures[0].ctx.state = .queued ∧ t.store.job.code = 2 ∧ t.store.image.valid = false ∧
    t.arbiter.unparkWait = .writing := by decide
/-- Its completion grants the closure (last rows). -/
theorem test_unparkWriteCompletion :
    let t := after (.unparkWriteCompletion 5) (after (.move f1 [0, 0, 1, 0]) parked)
    t.store.image.valid = true ∧ t.store.image.parked = false ∧ t.arbiter.unparkPending = false ∧
    t.closures[0].ctx.state = .running := by decide
/-- Its failure leaves the image-valid marker clear and grants the closure as well (R118, R158). -/
theorem test_unparkWriteFailure :
    let t := after (.unparkWriteFailure 5) (after (.move f1 [0, 0, 1, 0]) parked)
    t.store.image.valid = false ∧ t.store.job.code = 0 ∧ t.closures[0].ctx.state = .running := by decide
/-- LINK RESET empties the pending replies (R153). -/
theorem test_linkReset : replyOf (after (.linkReset 5 .stop) (after (.readWords f1 []) base)) 1 = none := by decide
/-- An unknown command is refused so (R148). -/
theorem test_unknownCommand : replyOf (after (.unknownCommand f1 0x7F []) base) 1 = some (.unknownCommand, []) := by decide
/-- The damaged request leaves FRAME_ERROR with command byte 0x10 (R149). -/
theorem test_frameDiscard :
    (after (.frameDiscard 5 (.seat 1) (some .stop) [0x10, 0x04, 0x03, 0x01, 0x00, 0x03, 0xE6]) base).seats[1].reply.map
      (fun r => (r.result, r.command)) = some (.frameError, 0x10) := by decide
/-- A read frame of nine bytes sends the worked reply whole and empties the slot (R150). -/
theorem test_readFrame :
    let t := after (.readFrame { dt := 5, seat := 1, ended := some .stop } 9) (after (.move f1 [0, 1, 0, 2]) base)
    t.link.lastRead = [0x07, 0x00, 0x10, 0x00, 0x00, 0x7F, 0xFF, 0x00, 0x6B] ∧ t.seats[1].reply = none := by decide
/-- A read frame cut off has zeroed the loss count at its address, and losses counted since then stand (R150, R152). -/
theorem test_readFrame_cut :
    let lossy := { base with seats := base.seats.set 1 { base.seats[1] with lossCount := 3 } }
    let begun := after (.readFrame { dt := 5, seat := 1, ended := none } 2) lossy
    let later := { begun with seats := begun.seats.set 1 { begun.seats[1] with lossCount := 1 } }
    begun.seats[1].lossCount = 0 ∧ begun.link.receiver = .reading 1 2 ∧
    (after (.stuckLinkRecovery 35000 ⟨.clock, 35000⟩) later).seats[1].lossCount = 1 := by decide
/-- A write frame begun and cut off 35 ms later leaves FRAME_ERROR (R152); the link-quiet timer counts from its start
(R159). -/
theorem test_stuckLinkRecovery :
    let t := after (.stuckLinkRecovery 35000 ⟨.data, 35000⟩) (after (.frameDiscard 5 (.seat 1) none [0x10]) base)
    replyOf t 1 = some (.frameError, []) ∧ t.link.receiver = .idle ∧ t.link.quietTimer = some 2000005 := by decide
/-- Short of 35 ms the frame goes on (R152). -/
theorem test_stuckLinkRecovery_early :
    (after (.stuckLinkRecovery 34999 ⟨.data, 34999⟩) (after (.frameDiscard 5 (.seat 1) none [0x10]) base)).link.receiver =
      .writing (.seat 1) [0x10] false := by decide
/-- A line that changed 10 ms ago, in a frame to another address, restarts the 35 ms timer: no recovery (R152). -/
theorem test_stuckLinkRecovery_changed :
    let t := after (.stuckLinkRecovery 35000 ⟨.data, 10000⟩) (after (.frameNotAcknowledged 5 (some 0x70) none) base)
    t.link.receiver = .passive ∧ t.link.stuckTimer = 60005 ∧
    (after (.stuckLinkRecovery 25000 ⟨.data, 35000⟩) t).link.receiver = .idle := by decide
/-- Seat 1's write frame in progress, some bytes received. -/
def writing (bytes : List Byte) : State := after (.frameDiscard 5 (.seat 1) none bytes) base
/-- Seat 1's read frame in progress, its words reply pending before. -/
def reading (sent : Nat) : State :=
  after (.readFrame { dt := 5, seat := 1, ended := none } sent) (after (.readWords f1 []) base)
/-- A start ends the write frame in progress (R146): READ WORDS not whole leaves FRAME_ERROR, and whole it is taken. -/
theorem test_start_ends_write :
    replyOf (after (.readWords f0 []) (writing [0x50, 0x00])) 1 = some (.frameError, []) ∧
    replyOf (after (.frameNotAcknowledged 5 none none) (writing [0x50, 0x00, 0xB0])) 1 =
      some (.accepted, [0, 1, 0, 0, 0, 0, 0, 0, 0]) ∧
    (after (.frameNotAcknowledged 5 none none) (writing [0x50, 0x00, 0xB0])).link.receiver = .address := by decide
/-- A start ends the read frame in progress (R146, R150): a reply of 14 bytes is consumed after its check byte, not before.
-/
theorem test_start_ends_read :
    replyOf (after (.frameNotAcknowledged 5 (some 0x70) none) (reading 13)) 1 =
      some (.accepted, [0, 1, 0, 0, 0, 0, 0, 0, 0]) ∧
    replyOf (after (.frameNotAcknowledged 5 (some 0x70) none) (reading 14)) 1 = none := by decide
/-- The bytes that follow go on the frame in progress: nothing ends before its stop. -/
theorem test_write_goes_on :
    (after (.readWords f1 []) (writing [0x50])).seats[1].reply.map (fun r => (r.result, r.overwritten)) =
      some (.accepted, false) := by decide
/-- A frame to another part makes the receiver PASSIVE until it ends (R146). -/
theorem test_frameNotAcknowledged :
    (after (.frameNotAcknowledged 5 (some 0x70) none) base).link.receiver = .passive ∧
    (after (.frameNotAcknowledged 5 (some 0x70) (some .stop)) base).link.receiver = .idle := by decide
/-- A frame to seat 1 refused in the start-up load ends after it: IDLE, the link-quiet timer restarted (R146, R159). -/
theorem test_frameNotAcknowledged_across_load :
    let t := after (.startUpLoadEnd 5) (after (.frameNotAcknowledged 5 (some 0x62) none) { base with loading := true })
    t.link.receiver = .passive ∧
    (after (.frameNotAcknowledged 5 (some 0x62) (some .stop)) t).link.receiver = .idle ∧
    (after (.frameNotAcknowledged 5 (some 0x62) (some .stop)) t).link.quietTimer = some 2000015 := by decide
/-- A broadcast frame that is not taken leaves no reply (R151). -/
theorem test_broadcastFrameDiscarded :
    (after (.broadcastFrameDiscarded 5 0x60 [] .stop) base).seats = base.seats := by decide

/-- Closure 0 RUNNING and closure 1 QUEUED behind it with one slot, both closing; closures 2 to 7 UNUSED. -/
def oneSlot : State :=
  let s := (running (ask .global .closing)).withClosure 1
    { window with ctx := { state := .queued, move := some (ask .global .closing), queueEntry := some 0 } }
  { s with arbiter := { s.arbiter with effective := 1, queue := [{ closure := 1, arrival := 1 }], lastArrival := 1 } }
/-- An opening GLOBAL of both: closure 1's old move leaves the queue before closure 0's slot is released, so closure 1 is
granted its new move (R111; log entry 14). -/
theorem test_global_grants_last :
    let t := after (.global f0 [3, 1, 0]) oneSlot
    t.closures[0].ctx.state = .settling ∧ t.closures[1].ctx.state = .running ∧
    t.closures[1].ctx.permit = .drive .opening ∧ t.closures[1].lastOutcome.map (·.stepCount) = some 0 := by decide
/-- One slot, closure 0 RUNNING OPEN, closure 3 QUEUED with a closing move of seat 0, closure 4 behind it. -/
def threeWaiting : State :=
  let waits := fun n : Nat =>
    { window with ctx := { state := .queued, move := some (ask .oneTouch .closing), queueEntry := some n } }
  let s := ((running (ask .oneTouch .opening)).withClosure 3 (waits 0)).withClosure 4 (waits 1)
  let queue := [{ closure := 3, arrival := 1 }, { closure := 4, arrival := 2 }]
  { s with arbiter := { s.arbiter with effective := 1, queue := queue, lastArrival := 2 } }
/-- A closing GLOBAL of closures 0 and 3, at 8,000 ms in the queue and no more: the slot that closure 0 releases goes to
closure 3, whose move is then replaced in place, and closure 4 waits on (R96, R111, R114). -/
theorem test_global_release_grants_head :
    let t := after (.global f0 [9, 0, 0]) { threeWaiting with now := 7999995 }
    t.closures[0].ctx.state = .settling ∧ t.closures[3].ctx.state = .running ∧
    t.closures[3].ctx.move.map (·.kind) = some .global ∧ t.closures[4].ctx.state = .queued ∧ t.arbiter.held[3] = true := by
  decide
/-- What a seat is told of each move, as closure and end reason, none for a dropped follow-on. -/
def endings (s : State) (n : SeatId) : List (Option (ClosureId × EndReason)) :=
  s.seats[n].queue.map fun x => match x.body with
    | .moveEnded o => some (o.closure, o.reason)
    | _ => none
/-- An opening GLOBAL of closure 0, which settles with a follow-on of seat 0, and closure 1, QUEUED the other way: the
follow-on is dropped before the queued move is removed (R96). -/
theorem test_global_ascending :
    let s := (oneSlot.modCtx 0 fun x =>
      { x with state := .settling, permit := .hold, followOn := some (ask .global .closing) })
    endings (after (.global f0 [3, 1, 0]) s) 0 = [none, some (1, .superseded)] := by decide
/-- A closing GLOBAL of closures 0, 3 and 4, of which 0 runs open, 3 has waited for more than 8 s with a closing move and 4
waits with an opening one: 3 and 4 leave the queue before the release, and are told in ascending order (R104, R111, R114). -/
theorem test_global_late :
    let opens := threeWaiting.modCtx 4 fun x =>
      { x with move := some (ask .oneTouch .opening), queueEntry := some 9000000 }
    let s := { opens with now := 9000000 }
    let t := after (.global f0 [25, 0, 0]) s
    endings t 0 = [some (3, .queueTimeout), some (4, .superseded)] ∧ t.closures[3].ctx.state = .idle ∧
    t.closures[4].ctx.state = .running ∧ replyOf t 0 = some (.accepted, [25, 0]) := by decide
/-- STOP's slot goes to the head of the queue (R111). -/
theorem test_stop_grants_head :
    let t := after (.stop f0 [0]) oneSlot
    t.closures[0].ctx.endReason = some .stopped ∧ t.closures[1].ctx.state = .running := by decide

/-! One step each: travel, timers, front end. -/

/-- From both phases low, phase A rising leads: an opening pulse, undriven at an IDLE context (R8, R18). -/
theorem test_hallEdge :
    let t := after (.hallEdge 5 0 .a) base
    t.closures[0].counter.position = 501 ∧ t.closures[0].counter.lastDir = some .opening ∧
    t.closures[0].counter.burst = 1 ∧ t.closures[0].counter.undrivenTimer = some 1000005 := by decide
/-- At the lower limit a closing edge is refused and the position is LOST (R10); phase B rising first closes (R8). -/
theorem test_hallEdge_refused :
    let t := after (.hallEdge 5 0 .b) (base.withClosure 0 { window with counter := { position := -64, validity := .valid } })
    t.closures[0].counter.position = -64 ∧ t.closures[0].counter.validity = .lost := by decide
/-- A phase fault at an IDLE context makes the position LOST (R9). -/
theorem test_phaseFault : (after (.phaseFault 5 0) base).closures[0].counter.validity = .lost := by decide
/-- `running` with the stall timer running out at 5 µs, at a position. -/
def stalling (m : Move) (p : Int) (v : Validity) : State :=
  (running m).modCounter 0 fun x => { x with stallTimer := some 5, position := p, validity := v }
/-- A normalisation: the stall at -64 sets 0 and VALID, and the move ends NORMALISED (R16, R17, R69). -/
theorem test_stallExpiry_normalise :
    let t := after (.stallExpiry 5 0) (stalling (ask .normalise .closing) (-64) .lost)
    t.closures[0].counter.position = 0 ∧ t.closures[0].counter.validity = .valid ∧
    t.closures[0].ctx.endReason = some .normalised ∧ t.closures[0].ctx.permit = .hold := by decide
/-- A stall at 17, just above the end band, is a verdict: REVERSING in its brake phase, target 800 (R68, R74). -/
theorem test_stallExpiry_verdict :
    let t := after (.stallExpiry 5 0) (stalling (ask .oneTouch .closing) 17 .valid)
    t.closures[0].ctx.state = .reversing ∧ t.closures[0].verdict.phase = some .brake ∧
    t.closures[0].verdict.target = some 800 ∧ t.closures[0].verdict.reversals = 1 := by decide
/-- The undriven quiet expiry ends a burst (R18). -/
theorem test_undrivenQuietExpiry :
    (after (.undrivenQuietExpiry 1000000 0) (after (.hallEdge 5 0 .a) base)).closures[0].counter.burst = 0 := by decide
/-- The brake expiry below the target begins the reverse phase with permit OPEN (R76). -/
theorem test_brakeTimerExpiry :
    let t := after (.brakeTimerExpiry 15000 0) (after (.stallExpiry 5 0) (stalling (ask .oneTouch .closing) 17 .valid))
    t.closures[0].verdict.phase = some .reverse ∧ t.closures[0].ctx.permit = .drive .opening := by decide
/-- The quiet timer's expiry ends settling: IDLE, with the outcome STOPPED posted to seat 0 (R102, R103). -/
theorem test_quietTimerExpiry :
    let t := after (.quietTimerExpiry 30000 0) (settling (ask .held .closing))
    t.closures[0].ctx.state = .idle ∧ t.closures[0].lastOutcome.map (·.reason) = some .stopped ∧
    t.seats[0].queue.length = 1 ∧ t.closures[0].stats.counters.granted = 1 := by decide
/-- The limit timer's expiry sets the long run-on mark (R102). -/
theorem test_limitTimerExpiry :
    (after (.limitTimerExpiry 300000 0) (settling (ask .held .closing))).closures[0].lastOutcome.map (·.longRunOn) =
      some true := by decide
/-- A held move lapses (R94). -/
theorem test_holdDeadlineExpiry :
    (after (.holdDeadlineExpiry 200000 0) (running (ask .held .closing))).closures[0].ctx.endReason =
      some .holdLapsed := by decide
/-- 8,000 ms after its entry a queued ONE_TOUCH move is removed (R114). -/
theorem test_queueTimeout :
    let t := after (.queueTimeout 8000000 0) (queued (ask .oneTouch .closing))
    t.closures[0].ctx.state = .idle ∧ t.arbiter.queue = [] ∧
    t.closures[0].lastOutcome.map (·.reason) = some .queueTimeout := by decide
/-- A sample below 0 mA counts as 0 (R22). -/
theorem test_currentSample :
    let s := base.withClosure 0 { window with sense := { isOpen := true, sum := 3100, count := 1 } }
    (after (.currentSample 5 0 (-7)) s).closures[0].sense = { isOpen := true, sum := 3100, count := 2 } := by decide
/-- The window holds 20 samples (R24). -/
theorem test_supplySample :
    (after (.supplySample 5 12001) { base with front := { base.front with window := List.replicate 20 12000 } }).front.window
      = List.replicate 19 12000 ++ [12001] := by decide
/-- A sagging supply, refreshes 1 and 2: derating at 9,200; at 7,950 a fall ends the closing move. -/
theorem test_supplyRefresh :
    let sagging := fun v => { running (ask .oneTouch .closing) with
      front := { base.front with window := List.replicate 20 v } }
    (after (.supplyRefresh 5) (sagging 9200)).arbiter.effective = 1 ∧
    (after (.supplyRefresh 5) (sagging 7950)).closures[0].ctx.endReason = some .supplyLow ∧
    (after (.supplyRefresh 5) (sagging 7950)).seats[3].queue = [{ body := .supplyLowEntered 7950, time := 5 }] := by
  decide
/-- A measurement of -60 °C is published as -40 °C (R25). -/
theorem test_temperature : (after (.temperatureMeasurement 5 (-60)) base).front.temperature = -40 := by decide
/-- The retained window closes at its expiry, not before (R127). -/
theorem test_retainedWindowExpiry :
    (after (.retainedWindowExpiry 5) { base with window := some 5 }).window = none ∧
    (after (.retainedWindowExpiry 4) { base with window := some 5 }).window = some 5 := by decide
/-- A queue that falls behind, time 500: STALE, and the line active. -/
theorem test_staleExpiry :
    let s := { noticed with
      now := 499995
      seats := noticed.seats.set 0 { noticed.seats[0] with cause := .none, line := false } }
    (after (.staleExpiry 5 0) s).seats[0].cause = .stale ∧ (after (.staleExpiry 5 0) s).seats[0].line = true := by decide
/-- SLEEP PERMIT 1 and IGNITION 0, everything at rest, the link-quiet timer running out at 5 µs. -/
def resting : State := { base with words := #v[0, 0, 0, 0, 0, 1], link := { base.link with quietTimer := some 5 } }
/-- The part then sleeps at the link-quiet expiry (R159). -/
theorem test_linkQuietExpiry : (after (.linkQuietExpiry 5) resting).asleepSince = some 5 := by decide
/-- A hall edge on a closure in use wakes it (R160). -/
theorem test_wake : (after (.hallEdge 5 0 .a) (after (.linkQuietExpiry 5) resting)).asleepSince = none := by decide

/-! One step each: reset, start-up and power. -/

/-- The reset input keeps the position and ends the move (R21, R161). -/
theorem test_resetInput :
    let t := after (.resetInput 5 2) (running (ask .held .closing))
    t.loading = true ∧ t.closures[0].counter.position = 500 ∧ t.closures[0].ctx.state = .idle ∧
    t.link.seatBase = 0x38 := by decide
/-- Power lost, then a cold start: with both markers set closure 0 stands VALID at 500 (Parking and a restart). -/
theorem test_coldStart :
    let t := after (.coldStart 5 0 0 0) (after (.powerLoss 5) parked)
    t.closures[0].counter.position = 500 ∧ t.closures[0].counter.validity = .valid ∧ t.store.source = .restored := by
  decide
/-- The end of the load of a parked image sets unpark pending (R117). -/
theorem test_startUpLoadEnd :
    let t := after (.startUpLoadEnd 20000) (after (.coldStart 5 0 0 0) parked)
    t.loading = false ∧ t.arbiter.unparkPending = true := by decide
/-- A loss of power in an unpark write leaves the image-valid marker clear (R158). -/
theorem test_powerLoss :
    let t := after (.powerLoss 5) (after (.move f1 [0, 0, 1, 0]) parked)
    t.powered = false ∧ t.store.image.valid = false ∧ t.closures[0].ctx.permit = .hold := by decide

/-! Witnesses: for each obligation with hypotheses, states and operands that meet them, clause by clause. -/

/-- `running` with a waiting command. -/
def moving : State := { running (ask .held .closing) with pending := [.stop f0 [0]] }
/-- Closure 0 at its lowest position, another at its highest. -/
def atLimits : State :=
  { base.withClosure 0 { window with counter := { position := -64, validity := .lost } } with
    pending := [.hallEdge 5 0 .b] }
/-- Closure 0 in ESCAPE, its published load and the words at their largest values. -/
def full : State :=
  { base.withClosure 0 { window with verdict := { reversals := 3, escape := true }, est := { published := 2047 } } with
    words := #v[255, 2, 3, 3, 3, 1]
    pending := [.clear f0 [0]] }
/-- A HELD move RUNNING on a LOST position. -/
def blind : State :=
  { (running (ask .held .closing)).modCounter 0 fun x => { x with validity := .lost } with
    pending := [.phaseFault 5 0] }
/-- The part asleep, a hall edge to come. -/
def asleep : State := { after (.linkQuietExpiry 5) resting with pending := [.hallEdge 5 0 .a] }
/-- A reversal in its brake phase. -/
def braking (p : Int) : State :=
  { base.withClosure 0 { window with
      ctx := { state := .reversing, move := some (ask .oneTouch .closing), startPos := some 900, startTime := some 0 }
      verdict :=
        { phase := some .brake, target := some p, brakeTimer := some 5
          record := some { cause := .load, pos := 500, load := 300, threshold := 240, region := .pinch } } } with
    arbiter := { base.arbiter with held := base.arbiter.held.set 0 true } }
/-- Three slots held by closures 5, 6 and 7. -/
def crowded : State := { base with
  arbiter := { base.arbiter with held := #v[false, false, false, false, false, true, true, true] } }
/-- An outcome. -/
def someOutcome : OutcomeRecord :=
  { closure := 0, move := ask .held .closing, reason := .stopped, endedBy := some 0, startPos := 900, endPos := 500,
    peak := { load := 0, pos := 900 }, stepCount := 0, travelTime := 0, minSupply := 13500, verdict := none,
    longRunOn := false, followOnStarted := false }
/-- A notice that is not urgent, and one that is. -/
def calm : Notice := { body := .movedUndriven 0, time := 0 }
/-- An urgent notice. -/
def alarm : Notice :=
  { body := .pinch 0 { cause := .load, pos := 500, load := 300, threshold := 240, region := .pinch }, time := 0 }

theorem witness_StepRunsFrontCommand : moving.pending = .stop f0 [0] :: [] := rfl
theorem witness_PermitLawKept : moving.PermitLaw ∧ ∃ t, step moving = .next t := ⟨by decide, _, rfl⟩
theorem witness_MotionLawKept : (moving.MotionLaw ∧ 1 ≤ moving.settings.slots) ∧ ∃ t, step moving = .next t :=
  ⟨by decide, _, rfl⟩
theorem witness_NoticeLawsKept :
    let s : State := { noticed with pending := [.takeNotice f0 []] }
    (s.NoticeLaw ∧ s.RecordLaw ∧ s.LineLaw) ∧ ∃ t, step s = .next t :=
  ⟨⟨by decide, ⟨by decide, by decide, trivial⟩, by decide⟩, _, rfl⟩
theorem witness_PositionLawKept :
    (atLimits.PositionLaw ∧ atLimits.StoredPositionLaw) ∧ ∃ t, step atLimits = .next t :=
  ⟨⟨by decide, by decide, trivial⟩, _, rfl⟩
theorem witness_PositionLawKept_parking :
    let s : State := { committing true with pending := [.commitCompletion 5] }
    (s.PositionLaw ∧ s.StoredPositionLaw) ∧ ∃ t, step s = .next t :=
  ⟨⟨by decide, by decide, by show ∀ k : ClosureId, -64 ≤ base.capture.positions[k].pos; decide⟩, _, rfl⟩
theorem witness_BoundedStateKept :
    (full.EscapeLaw ∧ full.LoadLaw ∧ full.WordLaw) ∧ ∃ t, step full = .next t := ⟨by decide, _, rfl⟩
theorem witness_TrustLawKept : (blind.MotionLaw ∧ blind.TrustLaw) ∧ ∃ t, step blind = .next t := ⟨by decide, _, rfl⟩
theorem witness_SleepLawKept : (asleep.SleepLaw ∧ asleep.asleepSince = some 5) ∧ ∃ t, step asleep = .next t :=
  ⟨by decide, _, rfl⟩
theorem witness_EncodedFramesDecode :
    (Instr.move f1 [3, 1, 0, 2]).wellFormed = true ∧
    encodeCommand (.move f1 [3, 1, 0, 2]) = some (5, .seat 1, .stop, [0x10, 0x04, 0x03, 0x01, 0x00, 0x02, 0xE6]) := by
  decide
theorem witness_awake : base.Awake := by decide
theorem witness_attentive : base.Attentive := by decide
theorem witness_DispatchRefusals :
    base.Awake ∧ ([] : List Byte).length ∉ [4, 6] ∧ (List.replicate 32 (0 : Byte)).length ∉ [0] := by decide
theorem witness_FramesInLoadAndSleep :
    (State.reset.powered = true ∧ State.reset.loading = true) ∧
    (asleep.powered = true ∧ asleep.loading = false ∧ asleep.asleepSince = some 5 ∧
      asleep.closures[(0 : ClosureId)].desc.cls ≠ .unused) ∧
    encodeCommand (.readWords f1 []) = some (5, .seat 1, .stop, [0x50, 0x00, 0xB0]) := by decide
theorem witness_ZonesAndReversalTarget :
    let d : Description := { travel := 512, pinchLimit := 512 }
    512 ≤ d.travel ∧ (-1 : Int) < 0 ∧
    (0 < 63 ∧ ((0 * (d.travel / 64) : Nat) : Int) ≤ 0 ∧ (0 : Int) < ((0 + 1) * (d.travel / 64) : Nat)) ∧
    (62 < 63 ∧ ((62 * (d.travel / 64) : Nat) : Int) ≤ 503 ∧ (503 : Int) < ((62 + 1) * (d.travel / 64) : Nat)) ∧
    ((63 * (d.travel / 64) : Nat) : Int) ≤ 504 ∧
    (window.counter.validity = .valid ∧ window.desc.reversalMode = .distance ∧ window.desc.pinchLimit ≤ window.desc.travel) ∧
    ({ d with reversalMode := .full } : Description).reversalMode = .full ∧
    ({ window with counter := {} } : ClosureState).counter.validity = .lost := by decide
theorem witness_EstimatorArithmetic :
    (6000 ≤ 12000 ∧ 2 * 12000 * 1001 ≤ 2 * (1000 * 12006) + 12000 ∧ 2 * (1000 * 12006) + 12000 < 2 * 12000 * (1001 + 1)) ∧
    (6000 ≤ 6000 ∧ 2 * 6000 * 100000 ≤ 2 * (40000 * 15000) + 6000 ∧
      2 * (40000 * 15000) + 6000 < 2 * 6000 * (100000 + 1)) ∧
    (200 ≤ 200 ∧ 100 ≤ 100) ∧ (255 ≤ 255 ∧ (-1024 : Int) ≤ -1024 ∧ (-1024 : Int) ≤ 4095) ∧ 40000 ≤ 40000 ∧
    (16 ≤ 16 ∧ (-39843 : Int) ≤ -39843 ∧ (-39843 : Int) ≤ 39843 ∧ (-4080 : Int) ≤ -4080 ∧ (-4080 : Int) ≤ 16316) ∧
    (({ rawList := [1, 2, 3, 4], listPath := some .profile } : Estimator).rawList.length ≤ 4 ∧
      ({ listPath := some .profile } : Estimator).listPath ≠ some .fallback ∧
      ({ rawList := [1, 2, 3] } : Estimator).rawList.length < 4) ∧
    ([10, 4, -20, -92] : List Int) ≠ [] := by decide
theorem witness_ThresholdComposition :
    (slider.desc.endBand < (17 : Int) ∧ (17 : Int) ≤ slider.desc.pinchLimit ∧ slider.verdict.escape = false) ∧
    ({ slider with verdict := { escape := true } } : ClosureState).verdict.escape = true ∧
    ({ slider with counter := {} } : ClosureState).counter.validity = .lost ∧
    ¬ (slider.counter.validity = .lost ∨ (slider.desc.endBand < (1001 : Int) ∧ (1001 : Int) ≤ slider.desc.pinchLimit)) := by
  decide
theorem witness_AnchorBandKept :
    ({ tRef := 1800, tAnchor := 2400, iRef := 4000, iAnchor := 3200 } : ZoneEntry).InBand ∧
    ({ tRef := 200, tAnchor := 200, iRef := 0, iAnchor := 0 } : ZoneEntry).InBand ∧ ({} : TraceEntry).count = 0 ∧
    1 ≤ ({ count := 1 } : TraceEntry).count := by decide
/-- A move under way on blank profiles: what the step lemmas of the zones ask for. -/
theorem witness_AnchorBandKept_step :
    (moving.TraceLaw ∧ moving.ZoneLaw) ∧ ∃ t, step moving = .next t := by
  have zones : ∀ k : ClosureId, moving.closures[k].profile.zones = Vector.replicate 64 {} := by decide
  refine ⟨⟨?_, fun k z => ?_, by decide, trivial⟩, _, rfl⟩
  · intro k
    have plain : moving.closures[k].ctx.move.map (·.kind) ≠ some .learn ∧
        moving.closures[k].ctx.endReason ≠ some .learnDone ∧
        moving.closures[k].sense.sum ≤ 40000 * moving.closures[k].sense.count ∧
        moving.closures[k].sense.lastMean ≤ 40000 := by revert k; decide
    exact ⟨fun _ _ h => absurd h plain.1, fun _ h => absurd h plain.2.1, plain.2.2⟩
  · simp only [zones k]
    simp [ZoneEntry.InBand]
theorem witness_ArrivalKeepsGrantOrder :
    let s := base.withClosure 0 { window with ctx := { state := .queued, move := some (ask .oneTouch .closing) } }
    let q : List QueueEntry := [{ closure := 1, arrival := 2 }, { closure := 0, arrival := 1 }]
    (q.Pairwise fun x y =>
      s.classOf x.closure < s.classOf y.closure ∨
      (s.classOf x.closure = s.classOf y.closure ∧ x.arrival < y.arrival)) ∧
    ∀ x ∈ q, x.arrival ≠ ({ closure := 2, arrival := 3 } : QueueEntry).arrival := by decide
theorem witness_ArrivalKeepsGrantOrder_step :
    let s : State := { oneSlot with pending := [.stop f0 [0]] }
    (s.MotionLaw ∧ s.QueueLaw) ∧ ∃ t, step s = .next t := ⟨by decide, _, rfl⟩
theorem witness_PostingRules :
    ((List.replicate 15 calm).length < 16 ∧ (List.replicate 16 calm).length = 16 ∧ calm.body.urgent = false) ∧
    (alarm.body.urgent = true ∧ ∀ y ∈ List.replicate 16 alarm, y.body.urgent = true) ∧
    ((List.replicate 1 alarm ++ calm :: List.replicate 14 calm).length = 16 ∧
      (∀ z ∈ List.replicate 1 alarm, z.body.urgent = true)) := by decide
theorem witness_ReadClosure : base.Awake ∧ 8 ≤ (8 : Byte).toNat := by decide
theorem witness_OutcomeAndStatistics :
    base.Awake ∧ base.closures[(0 : ClosureId)].lastOutcome = none ∧
    (base.withClosure 0 { window with lastOutcome := some someOutcome }).closures[(0 : ClosureId)].lastOutcome =
      some someOutcome ∧
    base.seats[f0.seat].record.grants .service = true ∧ base.seats[f1.seat].record.grants .service = false := by decide
theorem witness_ProfileCommands :
    base.Awake ∧ (1 ≤ 1 ∧ 1 ≤ 4 ∧ 63 ≤ 63 ∧ 63 + 1 ≤ 64) ∧ (1 ≤ 4 ∧ 4 ≤ 4 ∧ 60 ≤ 63 ∧ 60 + 4 ≤ 64) ∧
    ((0 : Byte) = 0 ∧ 4 < (5 : Byte).toNat ∧ 63 < (64 : Byte).toNat ∧ 64 < (61 : Byte).toNat + (4 : Byte).toNat) ∧
    (base.seats[f0.seat].record.grants .settings = true ∧ base.closures[(0 : ClosureId)].ctx.state = .idle ∧
      base.closures[(0 : ClosureId)].profile.status = .learned ∧
      base.closures[(1 : ClosureId)].profile.status = .unlearned) ∧
    ((running (ask .held .closing)).Awake ∧
      (running (ask .held .closing)).seats[f0.seat].record.grants .settings = true ∧
      (running (ask .held .closing)).closures[(0 : ClosureId)].ctx.state ≠ .idle) ∧
    base.seats[f1.seat].record.grants .settings = false ∧ 64 ≤ (64 : Byte).toNat ∧ (63 : Byte).toNat < 64 ∧
    8 ≤ (8 : Byte).toNat := by decide
theorem witness_ReadSettings :
    base.Awake ∧ (0x15 : Byte).toNat ≤ 0x15 ∧ base.closures[(0 : ClosureId)].desc.read (0x15 : Byte).toNat = some 1 ∧
    (0x15 < (0x16 : Byte).toNat ∧ (0x16 : Byte).toNat < 0x20) ∧ (0x24 < (0x25 : Byte).toNat ∧ (0x25 : Byte) ≠ 0x30) := by
  decide
theorem witness_SeatRecords :
    base.Awake ∧ 4 ≤ (4 : Byte).toNat ∧ base.seats[f0.seat].record.grants .settings = true ∧
    base.seats[f1.seat].record.grants .settings = false := by decide
theorem witness_ReadWords :
    (base.Awake ∧ base.window = none) ∧
    (let s : State := { base with window := some 5 }
     s.Awake ∧ s.now + f1.dt ≤ 5 ∧ 0 * 100000 < 5 - (s.now + f1.dt) + 100000 ∧ 5 - (s.now + f1.dt) ≤ 0 * 100000) ∧
    (let s : State := { base with window := some 100006 }
     s.Awake ∧ s.now + f1.dt ≤ 100006 ∧ 2 * 100000 < 100006 - (s.now + f1.dt) + 100000 ∧
       100006 - (s.now + f1.dt) ≤ 2 * 100000) := by decide
/-- An empty queue; a calm notice left below the trigger level, before its stale deadline and at it; an urgent one, a level
of 1 reached, and none left. -/
theorem witness_NoticeCommands :
    let holding := fun (q : List Notice) => { base with seats := base.seats.set 0 { base.seats[0] with queue := q } }
    let ok := fun (s : State) (x : Notice) (rest : List Notice) =>
      s.Awake ∧ s.seats[f0.seat].queue = x :: rest ∧ 1 ≤ s.seats[f0.seat].record.trigger
    (base.Awake ∧ base.seats[f0.seat].queue = []) ∧
    (ok noticed { body := .movedUndriven 5, time := 0 } [{ body := .storeDone .commit, time := 120000 }] ∧
      [({ body := .storeDone .commit, time := 120000 } : Notice)].length < noticed.seats[f0.seat].record.trigger ∧
      noticed.now + f0.dt < 120000 + noticed.seats[f0.seat].record.staleUnits * 10000) ∧
    (let s := { noticed with now := 619995 }
     ok s { body := .movedUndriven 5, time := 0 } [{ body := .storeDone .commit, time := 120000 }] ∧
       120000 + s.seats[f0.seat].record.staleUnits * 10000 ≤ s.now + f0.dt) ∧
    (ok (holding [calm, alarm]) calm [alarm] ∧ ∃ y ∈ [alarm], y.body.urgent = true) ∧
    (ok (holding [calm, calm]) calm [calm] ∧ (∀ y ∈ [calm], y.body.urgent = false) ∧
      (holding [calm, calm]).seats[f0.seat].record.trigger ≤ [calm].length) ∧
    ok (holding [calm]) calm [] := by decide
theorem witness_FieldWritesClamp :
    ((0x02, 512, 16000) ∈ [((0x02 : Nat), (512 : Nat), (16000 : Nat))] ∧ (0x04 : Nat) ≠ 0x02 ∧ (0x15 : Nat) ≤ 0x15) ∧
    (0x00 ∈ [0x00, 0x01, 0x05, 0x15] ∧ 4 ∈ [if (0x00 : Nat) = 0x00 then 4 else 1] ∧ 4 < 5 ∧ 4 ≤ 4) ∧
    ({ endBand := 16, travel := 20 } : Description).endBand + 4 ≤ ({ endBand := 16, travel := 20 } : Description).travel ∧
    40 ≤ ({ thCeiling := 40 } : Description).thCeiling := by decide
theorem witness_WriteSetting :
    let d := base.closures[(0 : ClosureId)].desc
    let escaping := (running (ask .held .closing)).modVerdict 0 fun v => { v with reversals := 2 }
    (0x15 < (0x16 : Byte).toNat ∧ (0x16 : Byte).toNat < 0x20 ∧ 0x24 < (0x30 : Byte).toNat ∧ 8 ≤ (8 : Byte).toNat) ∧
    (base.Awake ∧ base.closures[(0 : ClosureId)].ctx.state = .idle ∧ base.seats[f1.seat].record.grants .settings = false) ∧
    (base.seats[f0.seat].record.grants .settings = true ∧ d.write 0x00 (5 : BitVec 16).toNat = none) ∧
    ((running (ask .held .closing)).Awake ∧ (0x04 : Byte).toNat ≤ 0x04 ∧
      ((running (ask .held .closing)).closures[(0 : ClosureId)].desc.write 0x04 800).isSome = true ∧
      (running (ask .held .closing)).closures[(0 : ClosureId)].ctx.state ≠ .idle) ∧
    (d.write 0x05 1 = some { d with reversalMode := .full } ∧
      ({ d with reversalMode := .full } : Description).read 0x05 = some 1) ∧
    (d.write 0x00 3 = some { d with cls := .panel, reversalMode := .full } ∧
      ({ d with cls := .panel, reversalMode := .full } : Description).cls ≠ d.cls) ∧
    ((1 : BitVec 16).toNat = Polarity.swapped.code ∧ (0 : BitVec 16).toNat = Polarity.normal.code) ∧
    (d.endBand ≤ 64 ∧ max 512 (min 16000 (512 : BitVec 16).toNat) ≠ d.travel) ∧
    (512 ≤ d.travel ∧ max 4 (min 64 (64 : BitVec 16).toNat) ≠ d.endBand) ∧ d.endBand + 4 ≤ d.travel ∧
    max 1 (min 7 (7 : BitVec 16).toNat) ≠ d.escapeMax ∧
    (max 200 (min 400 (200 : BitVec 16).toNat) ≠ d.thCeiling ∧ 200 < d.thPinch) ∧
    ((1 : BitVec 16).toNat = d.cls.code ∧ max 512 (min 16000 (3000 : BitVec 16).toNat) = d.travel ∧
      max 4 (min 64 (16 : BitVec 16).toNat) = d.endBand ∧ max 200 (min 400 (400 : BitVec 16).toNat) = d.thCeiling ∧
      max 1 (min 7 (3 : BitVec 16).toNat) = d.escapeMax) ∧
    (escaping.Awake ∧ escaping.seats[f0.seat].record.grants .settings = true ∧
      max 1 (min 7 (2 : BitVec 16).toNat) ≠ escaping.closures[(0 : ClosureId)].desc.escapeMax) := by decide
theorem witness_WriteDeviceSettings :
    (base.Awake ∧ base.seats[f0.seat].record.grants .settings = true ∧
      (∀ k : ClosureId, base.closures[k].ctx.state = .idle ∨ base.closures[k].ctx.state = .settling) ∧
      9000 ≤ base.settings.vLow ∧ base.settings.vLow ≤ 12000) ∧
    ((running (ask .held .closing)).Awake ∧ ∃ k : ClosureId,
      (running (ask .held .closing)).closures[k].ctx.state ≠ .idle ∧
      (running (ask .held .closing)).closures[k].ctx.state ≠ .settling) ∧
    9000 ≤ ({ vLow := 9000 } : Settings).vLow ∧ base.seats[f1.seat].record.grants .settings = false := by decide
theorem witness_WordOperations :
    (base.Awake ∧ 3 ≤ (5 : Fin 6).val ∧ hasMember base.seats[f0.seat].record.wordMask (5 : Fin 6).val = true ∧
      base.words[(5 : Fin 6)] = 0) ∧
    (hasMember base.seats[f0.seat].record.wordMask (1 : Fin 6).val = true ∧ base.words[(1 : Fin 6)] ≠ 0) ∧
    6 ≤ (6 : Byte).toNat ∧
    ((0 : Byte).toNat < 6 ∧ hasMember base.seats[f1.seat].record.wordMask (0 : Byte).toNat = false) := by decide
theorem witness_RetainedWindowFollowsWords :
    base.Awake ∧ hasMember base.seats[f0.seat].record.wordMask 1 = true ∧
    hasMember base.seats[f0.seat].record.wordMask 2 = true := by decide

/-- A LOCAL move RUNNING and one QUEUED on closure 0, and `base` without one. -/
theorem witness_ChildLockEndsLocalMoves :
    let m : Move := { ask .held .closing with origin := .seatSwitch }
    let ok := fun s : State => s.Awake ∧ hasMember s.seats[f0.seat].record.wordMask 0 = true ∧
      hasMember s.words[0] (0 : ClosureId).val = false ∧ s.closures[(0 : ClosureId)].ctx.move = some m ∧
      m.origin = .seatSwitch
    (ok (running m) ∧ (running m).closures[(0 : ClosureId)].ctx.state = .running ∧ (running m).arbiter.queue = []) ∧
    (ok (queued m) ∧ (queued m).closures[(0 : ClosureId)].ctx.state = .queued) ∧
    (base.Awake ∧ ∀ m ∈ base.closures[(0 : ClosureId)].ctx.move, m.origin = .seatSwitch →
      base.closures[(0 : ClosureId)].ctx.state ≠ .running ∧ base.closures[(0 : ClosureId)].ctx.state ≠ .queued) := by decide
/-- A LOCAL move RUNNING on closure 0 and one QUEUED on closure 1; the same with a move of a panel QUEUED on closure 1,
granted at the release. -/
theorem witness_ChildLockEndsLocalMoves_several :
    let local_ : Move := { ask .global .closing with origin := .seatSwitch }
    let both := (oneSlot.modCtx 0 fun x => { x with move := some local_ }).modCtx 1 fun x => { x with move := some local_ }
    let one := oneSlot.modCtx 0 fun x => { x with move := some local_ }
    let panel := ask .global .closing
    let added := fun (s : State) (k : ClosureId) (state : CtxState) =>
      hasMember (3 : Byte) k.val && !hasMember s.words[0] k.val && decide (s.closures[k].ctx.state = state) &&
        decide (s.closures[k].ctx.move.map (·.origin) = some .seatSwitch)
    (both.Awake ∧ hasMember both.seats[f0.seat].record.wordMask 0 = true ∧ added both 0 .running = true ∧
      added both 1 .queued = true ∧ (both.arbiter.queue.filter fun e => !added both e.closure .queued) = []) ∧
    (one.Awake ∧ hasMember one.seats[f0.seat].record.wordMask 0 = true ∧ added one 0 .running = true ∧
      (∀ j : ClosureId, added one j .running = true → j = 0) ∧ added one 1 .queued = false ∧
      one.arbiter.queue = [{ closure := 1, arrival := 1 }] ∧ one.closures[(1 : ClosureId)].ctx.move = some panel ∧
      panel.Runs ∧ one.arbiter.held[(1 : ClosureId)] = false ∧ one.arbiter.heldCount = one.arbiter.effective ∧
      one.arbiter.unparkPending = false ∧ one.arbiter.unparkWait = .none) := by decide
theorem witness_MoveRefusals :
    let m := ask .oneTouch .closing
    let far : Move := { m with target := some 32766 }
    let low : Move := { m with target := some (-32768) }
    (base.Awake ∧ m.seat = f0.seat ∧ (∀ p ∈ far.target, -32768 ≤ p ∧ p < 32767) ∧
      (∀ p ∈ low.target, -32768 ≤ p ∧ p < 32767)) ∧
    base.moveRefusal 1 m = some .badClosure ∧
    (let s := running { m with seat := 1 }
     s.Awake ∧ s.moveRefusal 0 m = none ∧ s.closures[(0 : ClosureId)].ctx.move = some { m with seat := 1 } ∧
       s.closures[(0 : ClosureId)].ctx.state = .running ∧ ({ m with seat := 1 } : Move).seat ≠ m.seat) ∧
    ((braking 900).Awake ∧ (braking 900).moveRefusal 0 m = none ∧
      (braking 900).closures[(0 : ClosureId)].ctx.state = .reversing ∧ m.direction = .closing) ∧
    (([] : List Byte).length = 0 ∧ ([0, 0] : List Byte).length = 2 ∧ 8 ≤ (8 : Byte).toNat) ∧
    ((7 : Byte) = byteOf (7 : ClosureId).val ∧ base.closures[(7 : ClosureId)].desc.cls = .unused) ∧
    (base.closures[(0 : ClosureId)].desc.cls ≠ .unused ∧ 4 < (5 : Byte).toNat ∧ 1 < (2 : Byte).toNat) := by decide
theorem witness_MoveQueues :
    let m : Move := { ask .oneTouch .closing with target := some 3000 }
    crowded.Awake ∧ m.seat = f0.seat ∧
    (∀ p ∈ m.target, 0 ≤ p ∧ p ≤ crowded.closures[(0 : ClosureId)].desc.travel ∧ p < 32767) ∧
    crowded.moveRefusal 0 m = none ∧ crowded.closures[(0 : ClosureId)].ctx.state = .idle ∧
    crowded.arbiter.effective ≤ crowded.arbiter.heldCount := by decide
/-- A target one pulse off, and the target reached exactly. -/
theorem witness_MoveGranted :
    let far : Move := { ask .oneTouch .closing with target := some 499 }
    let here : Move := { ask .oneTouch .closing with target := some 500 }
    let ok := fun m : Move => base.Awake ∧ m.seat = f0.seat ∧
      (∀ p ∈ m.target, 0 ≤ p ∧ p ≤ base.closures[(0 : ClosureId)].desc.travel ∧ p < 32767) ∧
      base.moveRefusal 0 m = none ∧ base.closures[(0 : ClosureId)].ctx.state = .idle ∧ base.arbiter.queue = [] ∧
      base.SlotFree
    (ok far ∧ ¬ base.closures[(0 : ClosureId)].counter.position ≤ 499) ∧
    (ok here ∧ base.closures[(0 : ClosureId)].counter.position ≤ 500) := by decide
/-- `oneSlot`, whose slot STOP releases; and the same while derating, a second slot to come at 13,000 mV. -/
theorem witness_MoveGranted_head :
    let m := ask .global .closing
    let derated : State := { oneSlot with
      settings := { oneSlot.settings with slots := 2 }
      arbiter := { oneSlot.arbiter with derating := true }
      front := { base.front with window := List.replicate 20 13000 } }
    let ok := fun s : State => s.arbiter.queue = [{ closure := 1, arrival := 1 }] ∧
      s.closures[(1 : ClosureId)].ctx.move = some m ∧ m.Runs ∧ s.arbiter.held[(1 : ClosureId)] = false ∧
      s.arbiter.unparkPending = false ∧ s.arbiter.unparkWait = .none
    (ok oneSlot ∧ oneSlot.Awake ∧ oneSlot.arbiter.heldCount = oneSlot.arbiter.effective ∧
      hasMember oneSlot.seats[f0.seat].record.moveMask (0 : ClosureId).val = true ∧
      oneSlot.closures[(0 : ClosureId)].ctx.followOn = none ∧ oneSlot.closures[(0 : ClosureId)].ctx.state = .running ∧
      oneSlot.arbiter.held[(0 : ClosureId)] = true) ∧
    (ok derated ∧ derated.Attentive ∧ derated.arbiter.heldCount + 1 = derated.settings.slots ∧
      derated.arbiter.derating = true ∧ derated.arbiter.supplyNotice = false ∧ derated.front.window.length = 20 ∧
      derated.settings.vResume ≤ max 6000 (min 18000 (derated.front.window.sum / 20)) ∧
      derated.settings.vMin ≤ max 6000 (min 18000 (derated.front.window.sum / 20))) := by decide
/-- The store idle, a commit in flight, and a wait already begun. -/
theorem witness_MoveWaitsForUnpark :
    let m := ask .oneTouch .closing
    let ok := fun s : State => s.Awake ∧ m.seat = f0.seat ∧ m.target = none ∧ s.moveRefusal 0 m = none ∧
      s.closures[(0 : ClosureId)].ctx.state = .idle ∧ s.arbiter.queue = [] ∧ s.arbiter.heldCount < s.arbiter.effective ∧
      s.arbiter.unparkPending = true
    let busy : State := { parked with store := { parked.store with job := (committing true).store.job } }
    let begun : State := { busy with arbiter := { parked.arbiter with unparkWait := .waitingForStore } }
    (ok parked ∧ parked.arbiter.unparkWait = .none ∧ parked.store.job = .idle) ∧
    (ok busy ∧ busy.arbiter.unparkWait = .none) ∧ busy.store.job = .committing 0 true base.capture ∧
    (ok begun ∧ begun.arbiter.unparkWait ≠ .none) :=
  ⟨by decide, by decide, rfl, by decide⟩
/-- `queued` since 0 µs at 9 s. -/
def overdue (m : Move) : State := { queued m with now := 9000000 }
/-- A context with a follow-on of seat 1. -/
def following (s : State) : State :=
  s.modCtx 0 fun x => { x with followOn := some { ask .oneTouch .closing with seat := 1 } }
/-- A running move replaced, with a target still to reach and one reached, and ended for a follow-on by a move of kind
NORMALISE: each of the owner seat, in the same direction. -/
theorem witness_MoveAtBusyContext_replaced :
    let old := ask .held .closing
    let far : Move := { ask .oneTouch .closing with target := some 499 }
    let here : Move := { ask .oneTouch .closing with target := some 500 }
    let home := ask .normalise .closing
    let s := running old
    let ok := fun m : Move => s.Awake ∧ m.seat = f0.seat ∧
      (∀ p ∈ m.target, 0 ≤ p ∧ p ≤ s.closures[(0 : ClosureId)].desc.travel ∧ p < 32767) ∧ s.moveRefusal 0 m = none ∧
      s.closures[(0 : ClosureId)].ctx.state = .running ∧ s.closures[(0 : ClosureId)].ctx.move = some old ∧
      old.direction = m.direction ∧ old.seat = f0.seat ∧ s.arbiter.queue = [] ∧
      s.closures[(0 : ClosureId)].ctx.followOn = none
    let ends := fun x : Move => x.kind = .learn ∨ x.kind = .normalise
    (ok far ∧ ¬ ends old ∧ ¬ ends far ∧ ¬ s.closures[(0 : ClosureId)].counter.position ≤ 499) ∧
    (ok here ∧ ¬ ends here ∧ s.closures[(0 : ClosureId)].counter.position ≤ 500) ∧ (ok home ∧ ends home) := by decide
theorem witness_MoveAtBusyContext :
    let m := ask .oneTouch .opening
    let ok := fun s : State => s.Awake ∧ m.seat = f0.seat ∧ m.target = none ∧ s.moveRefusal 0 m = none
    let free := fun s : State => ok s ∧ s.closures[(0 : ClosureId)].ctx.followOn = none
    (let s := running (ask .held .opening)
     free s ∧ s.closures[(0 : ClosureId)].ctx.state = .running ∧
       s.closures[(0 : ClosureId)].ctx.move = some (ask .held .opening) ∧ (ask .held .opening).direction = m.direction ∧
       (ask .held .opening).seat = f0.seat) ∧
    (let s := running (ask .held .closing)
     free s ∧ s.closures[(0 : ClosureId)].ctx.state = .running ∧
       s.closures[(0 : ClosureId)].ctx.move = some (ask .held .closing) ∧ (ask .held .closing).direction ≠ m.direction ∧
       s.arbiter.queue = []) ∧
    (free (settling m) ∧ (settling m).closures[(0 : ClosureId)].ctx.state = .settling) ∧
    (free (braking 900) ∧ (braking 900).closures[(0 : ClosureId)].ctx.state = .reversing ∧ m.direction = .opening) ∧
    (ok (following (settling m)) ∧ (following (settling m)).closures[(0 : ClosureId)].ctx.state = .settling ∧
      (following (settling m)).closures[(0 : ClosureId)].ctx.followOn.isSome = true) := by decide
/-- A waiting move replaced in time, replaced too late, and superseded. -/
theorem witness_MoveAtBusyContext_queued :
    let m := ask .oneTouch .opening
    let old := ask .held .opening
    let e : QueueEntry := { closure := 0, arrival := 1 }
    let shut : State := { queued (ask .held .closing) with arbiter := { (queued old).arbiter with
      effective := 1, held := #v[false, true, false, false, false, false, false, false] } }
    let ok := fun (s : State) (x : Move) => s.Awake ∧ s.moveRefusal 0 m = none ∧
      s.closures[(0 : ClosureId)].ctx.state = .queued ∧ s.closures[(0 : ClosureId)].ctx.move = some x
    (ok (queued old) old ∧ old.direction = m.direction ∧ old.seat = f0.seat ∧
      (queued old).closures[(0 : ClosureId)].ctx.queueEntry = some 0 ∧ e ∈ (queued old).arbiter.queue ∧ e.closure = 0 ∧
      ((queued old).arbiter.queue.map (·.closure)).Nodup ∧ ¬ 0 + 8000000 < (queued old).now + f0.dt) ∧
    (ok (overdue old) old ∧ (overdue old).closures[(0 : ClosureId)].ctx.queueEntry = some 0 ∧
      e ∈ (overdue old).arbiter.queue ∧ m.kind = .oneTouch ∧ 0 + 8000000 < (overdue old).now + f0.dt) ∧
    (ok shut (ask .held .closing) ∧ (ask .held .closing).direction ≠ m.direction ∧
      shut.arbiter.effective ≤ shut.arbiter.heldCount) := by decide
theorem witness_RenewSetsDeadline :
    let s := running (ask .held .closing)
    (s.Awake ∧ s.closures[(0 : ClosureId)].ctx.state = .running ∧
      ∃ m ∈ s.closures[(0 : ClosureId)].ctx.move, (m.kind = .held ∨ m.kind = .normalise) ∧ m.seat = f0.seat) ∧
    (base.Awake ∧ ¬ (base.closures[(0 : ClosureId)].ctx.state = .queued ∨
      base.closures[(0 : ClosureId)].ctx.state = .running)) ∧ 8 ≤ (8 : Byte).toNat := by decide
theorem witness_StopAndClearHalt :
    let s := running (ask .held .closing)
    let masked := { base with seats := base.seats.set 0 { base.seats[0] with
      record := { base.seats[0].record with moveMask := 0xFE } } }
    let may := fun s : State => s.Awake ∧ hasMember s.seats[f0.seat].record.moveMask (0 : ClosureId).val = true ∧
      s.seats[f0.seat].record.grants .service = true
    (may s ∧ s.arbiter.queue = [] ∧ s.closures[(0 : ClosureId)].ctx.followOn = none ∧
      s.closures[(0 : ClosureId)].ctx.state = .running) ∧
    (may (braking 900) ∧ (braking 900).closures[(0 : ClosureId)].ctx.state = .reversing) ∧
    (may (settling (ask .held .closing)) ∧
      (settling (ask .held .closing)).closures[(0 : ClosureId)].ctx.state = .settling) ∧
    (may (queued (ask .held .closing)) ∧ (queued (ask .held .closing)).closures[(0 : ClosureId)].ctx.state = .queued) ∧
    (may (following (braking 900)) ∧ (following (braking 900)).closures[(0 : ClosureId)].ctx.state = .reversing ∧
      (following (braking 900)).arbiter.queue = [] ∧
      (following (braking 900)).closures[(0 : ClosureId)].ctx.followOn.isSome = true) ∧
    (may (following (settling (ask .held .closing))) ∧
      (following (settling (ask .held .closing))).closures[(0 : ClosureId)].ctx.state = .settling ∧
      (following (settling (ask .held .closing))).closures[(0 : ClosureId)].ctx.followOn.isSome = true) ∧
    (base.Awake ∧ base.closures[(0 : ClosureId)].ctx.state = .idle ∧
      base.seats[f1.seat].record.grants .service = false) ∧
    (masked.Awake ∧ hasMember masked.seats[f0.seat].record.moveMask (0 : ClosureId).val = false) ∧
    8 ≤ (8 : Byte).toNat := by decide
theorem witness_AllStopHalts : oneSlot.Awake ∧ oneSlot.MotionLaw ∧ oneSlot.seats[(0 : SeatId)].queue.length + 1 ≤ 16 := by
  decide
theorem witness_GlobalQueues :
    let m : Move := { ask .global .closing with seat := f0.seat }
    let barred := { base with seats := base.seats.set 0 { base.seats[0] with
      record := { base.seats[0].record with rights := 0 } } }
    (crowded.Awake ∧ hasMember crowded.seats[f0.seat].record.rights 0 = true ∧ crowded.moveRefusal 0 m = none ∧
      crowded.closures[(0 : ClosureId)].ctx.state = .idle ∧ crowded.arbiter.queue = [] ∧
      crowded.arbiter.effective ≤ crowded.arbiter.heldCount) ∧
    ((0xFE : Byte) ≠ 0 ∧ ∀ k : ClosureId, hasMember (0xFE : Byte) k.val = true →
      base.closures[k].desc.cls = .unused) ∧
    (let pair := crowded.withClosure 3 window
     let taken := [(0 : ClosureId), 1, 3].filter fun k => (pair.moveRefusal k m).isNone
     pair.Awake ∧ hasMember pair.seats[f0.seat].record.rights 0 = true ∧ (0x0B : Byte) ≠ 0 ∧
       (allClosures.filter fun k => hasMember (0x0B : Byte) k.val) = [0, 1, 3] ∧ taken = [0, 3] ∧
       (∀ k ∈ taken, pair.closures[k].ctx.state = .idle) ∧ pair.arbiter.queue = [] ∧
       pair.arbiter.effective ≤ pair.arbiter.heldCount) ∧
    (barred.Awake ∧ (1 : Byte) ≠ 0 ∧ hasMember barred.seats[f0.seat].record.rights 0 = false) := by decide
/-- Slots free for a mask of closures 0 and 3, one slot for the two of them, a mask of one closure at a RUNNING context,
and bytes that code no direction or no origin. -/
theorem witness_GlobalQueues_granted :
    let m : Move := { ask .global .closing with seat := f0.seat }
    let pair := base.withClosure 3 window
    let one : State := { pair with arbiter := { pair.arbiter with effective := 1 } }
    let taken := fun s : State => (allClosures.filter fun k => hasMember (0x0B : Byte) k.val).filter fun k =>
      (s.moveRefusal k m).isNone
    let ok := fun s : State => s.Awake ∧ hasMember s.seats[f0.seat].record.rights 0 = true ∧ s.arbiter.queue = [] ∧
      s.SlotFree ∧ taken s = [0, 3] ∧
      ∀ k ∈ taken s, s.closures[k].ctx.state = .idle ∧ s.arbiter.held[k] = false
    (ok pair ∧ 1 < pair.arbiter.effective - pair.arbiter.heldCount) ∧
    (ok one ∧ one.arbiter.effective - one.arbiter.heldCount = 1) ∧
    (let s := running (ask .held .opening)
     s.Awake ∧ hasMember s.seats[f0.seat].record.rights 0 = true ∧
       (match exec (.move f0 (moveArgs 0 m)) s with
        | .next u => u.seats[f0.seat].reply.isSome
        | .fault _ | .refused _ => false) = true) ∧
    1 < (2 : Byte).toNat ∧ 4 < (5 : Byte).toNat := by decide
/-- Closure 0 RUNNING OPEN in the only slot, closure 3 QUEUED, and a closing GLOBAL of seat 0 passes its checks at both. -/
abbrev Releasing (s : State) : Prop :=
  let m : Move := { ask .global .closing with seat := f0.seat }
  let other := ask .oneTouch .opening
  s.Awake ∧ hasMember s.seats[f0.seat].record.rights 0 = true ∧ s.moveRefusal 0 m = none ∧ s.moveRefusal 3 m = none ∧
  s.closures[(0 : ClosureId)].ctx.state = .running ∧ s.closures[(0 : ClosureId)].ctx.move = some other ∧
  other.direction ≠ m.direction ∧ s.closures[(0 : ClosureId)].ctx.followOn = none ∧
  s.arbiter.held[(0 : ClosureId)] = true ∧ s.arbiter.held[(3 : ClosureId)] = false ∧
  s.arbiter.heldCount = s.arbiter.effective ∧ s.arbiter.unparkPending = false ∧ s.arbiter.unparkWait = .none ∧
  s.closures[(3 : ClosureId)].ctx.state = .queued
/-- `threeWaiting` with closure 3 alone in the slot queue. -/
def threeAlone : State :=
  { threeWaiting with arbiter := { threeWaiting.arbiter with queue := [{ closure := 3, arrival := 1 }] } }
/-- Closure 3 the head of the queue with a closing move of the asking seat, at exactly 8,000 ms in the queue. -/
theorem witness_GlobalQueues_release :
    let s : State := { threeWaiting with now := 7999995 }
    let mine := ask .oneTouch .closing
    Releasing s ∧ s.arbiter.queue = [{ closure := 3, arrival := 1 }, { closure := 4, arrival := 2 }] ∧
    s.closures[(3 : ClosureId)].ctx.move = some mine ∧ mine.Runs ∧ mine.direction = .closing ∧ mine.seat = f0.seat ∧
    s.closures[(3 : ClosureId)].ctx.queueEntry = some 0 ∧ 0 + 8000000 = s.now + f0.dt := by decide
/-- The same move, alone in the queue, 1 µs past 8,000 ms. -/
theorem witness_GlobalQueues_release_late :
    let s : State := { threeAlone with now := 7999996 }
    let mine := ask .oneTouch .closing
    Releasing s ∧ s.arbiter.queue = [{ closure := 3, arrival := 1 }] ∧
    s.closures[(3 : ClosureId)].ctx.move = some mine ∧ mine.direction = .closing ∧ mine.seat = f0.seat ∧
    s.closures[(3 : ClosureId)].ctx.queueEntry = some 0 ∧ 0 + 8000000 + 1 = s.now + f0.dt := by decide
/-- Closure 3 alone in the queue with an opening move. -/
theorem witness_GlobalQueues_release_against :
    let s := threeAlone.modCtx 3 fun x => { x with move := some (ask .oneTouch .opening) }
    Releasing s ∧ s.arbiter.queue = [{ closure := 3, arrival := 1 }] ∧
    s.closures[(3 : ClosureId)].ctx.move = some (ask .oneTouch .opening) := by decide
/-- Every slot held, closure 1 QUEUED open: closure 0 settles with a follow-on, and waits with a closing move of the asking
seat for more than 8 s. -/
theorem witness_GlobalQueues_ascending :
    let m : Move := { ask .global .closing with seat := f0.seat }
    let other := ask .oneTouch .opening
    let ok := fun s : State => s.Awake ∧ hasMember s.seats[f0.seat].record.rights 0 = true ∧ s.moveRefusal 0 m = none ∧
      s.moveRefusal 1 m = none ∧ s.closures[(1 : ClosureId)].ctx.state = .queued ∧
      s.closures[(1 : ClosureId)].ctx.move = some other ∧ other.direction ≠ m.direction ∧
      s.arbiter.effective ≤ s.arbiter.heldCount
    let full := fun s : State => (s.withClosure 1
      { window with ctx := { state := .queued, move := some other, queueEntry := some 0 } })
    let dropping : State := { full (following (settling m)) with
      arbiter := { base.arbiter with held := crowded.arbiter.held, queue := [{ closure := 1, arrival := 1 }] } }
    let late : State := { full (queued (ask .oneTouch .closing)) with now := 9000000, arbiter := { base.arbiter with
      held := crowded.arbiter.held, queue := [{ closure := 1, arrival := 1 }, { closure := 0, arrival := 2 }] } }
    (ok dropping ∧ dropping.closures[(0 : ClosureId)].ctx.state = .settling ∧
      dropping.closures[(0 : ClosureId)].ctx.followOn.isSome = true ∧
      ∀ e ∈ dropping.arbiter.queue, e.closure = 1) ∧
    (ok late ∧ late.closures[(0 : ClosureId)].ctx.state = .queued ∧
      late.closures[(0 : ClosureId)].ctx.move = some (ask .oneTouch .closing) ∧
      late.closures[(0 : ClosureId)].ctx.queueEntry = some 0 ∧ 0 + 8000000 < late.now + f0.dt ∧
      ∀ e ∈ late.arbiter.queue, e.closure = 0 ∨ e.closure = 1) := by decide
theorem witness_LinkEvents :
    (base.Awake ∧ base.Attentive ∧ addressedBy base.link.seatBase 0x70 = .other ∧ base.link.receiver = .idle) ∧
    (base.now + 34999 < base.link.stuckTimer ∧ base.link.stuckTimer ≤ base.now + 35000) ∧
    ((writing [0x10]).Attentive ∧ (writing [0x10]).link.stuckTimer ≤ (writing [0x10]).now + 35000 ∧
      (writing [0x10]).link.receiver = .writing (.seat 1) [0x10] false) ∧
    (let s : State := { base with link := { base.link with receiver := .passive } }
     s.powered = true ∧ s.asleepSince = none ∧ s.link.midFrame = false ∧ s.link.receiver = .passive) ∧
    (State.reset.powered = true ∧ State.reset.asleepSince = none ∧ State.reset.link.midFrame = false ∧
      State.reset.loading = true) := by decide
/-- Within the 35 ms of a change that no frame shows, and after it. -/
theorem witness_LinkEvents_unchanged :
    let s : State := { base with link := { base.link with receiver := .passive, stuckTimer := 5 } }
    s.Attentive ∧ s.now + 35000 < max s.link.stuckTimer (s.now + 35000 + 35000 - 10000) ∧
    max s.link.stuckTimer (s.now + 35000 + 35000 - 35000) ≤ s.now + 35000 := by decide
/-- No seat's write frame is in progress. -/
theorem witness_LinkEvents_idle (n : SeatId) (bytes : List Byte) (discard : Bool) :
    base.link.receiver ≠ .writing (.seat n) bytes discard := nofun
/-- A frame in progress that another's start ends: a write frame whole, one broken, and a read frame. -/
theorem witness_LinkEvents_cut :
    let ok := fun s : State => s.powered = true ∧ s.loading = false ∧ s.asleepSince = none
    (ok (writing [0x50, 0x00, 0xB0]) ∧
      (writing [0x50, 0x00, 0xB0]).link.endedBy 5 = some (.readWords { f1 with fin := .repeatedStart } []) ∧
      ¬ [0x50, 0x00, 0xB0] <+: ([0x60, 0x00, 0xA0] : List Byte)) ∧
    (ok (writing [0x50, 0x21]) ∧
      (writing [0x50, 0x21]).link.receiver = .writing (.seat 1) [0x50, 0x21] (decide (false ∈ frameAcks [0x50, 0x21])) ∧
      (writing [0x50, 0x21]).link.endedBy 5 =
        some (.frameDiscard 5 (.seat 1) (some .repeatedStart) [0x50, 0x21])) ∧
    (ok (reading 12) ∧ (reading 12).link.receiver = .reading 1 12 ∧
      (reading 12).link.endedBy 5 = some (.readFrame { dt := 5, seat := 1, ended := some .repeatedStart } 12)) ∧
    [0x50, 0x00] <+: ([0x50, 0x00, 0xB0] : List Byte) := by decide
/-- The frame that ends the one in progress gives a next state. -/
theorem witness_LinkEvents_ends : ∃ u, exec (.readWords { f1 with fin := .repeatedStart } []) (writing [0x50, 0x00, 0xB0]) =
    .next u := ⟨_, rfl⟩
theorem witness_ReadFrameSendsReply :
    let words : Reply := { result := .accepted, command := 0x50, overwritten := false, items := [0, 1, 0, 0, 0, 0, 0, 0, 0] }
    let ok := fun s : State => s.powered = true ∧ s.loading = false ∧ s.asleepSince = none
    (ok base ∧ base.link.midFrame = false ∧ base.seats[f1.seat].reply = none) ∧
    (let s := after (.readWords f1 []) base
     ok s ∧ s.link.midFrame = false ∧ s.seats[f1.seat].reply = some words) ∧
    (ok (reading 2) ∧ (reading 2).link.receiver = .reading 1 2 ∧ (reading 2).link.sending = some words) := by decide
/-- Closure 0 at a position, so many pulses into an undriven burst. -/
def undriven (p : Int) (burst : Nat) : State :=
  base.withClosure 0 { window with counter := { position := p, validity := .valid, burst := burst } }
theorem witness_HallEdgeCountsUndriven :
    let ok := fun (s : State) (ph : Phase) => s.Attentive ∧ s.closures[(0 : ClosureId)].Counts ph ∧
      s.closures[(0 : ClosureId)].ctx.state = .idle ∧ s.closures[(0 : ClosureId)].ctx.permit = .hold
    (ok (undriven (-64) 6) .a ∧ (undriven (-64) 6).closures[(0 : ClosureId)].counter.burst ≠ 7) ∧ ok (undriven 3064 8) .b ∧
    (ok (undriven 500 7) .a ∧ (undriven 500 7).loading = false ∧
      (undriven 500 7).closures[(0 : ClosureId)].counter.burst = 7 ∧
      (undriven 500 7).arbiter.unparkPending = false ∧
      hasMember (undriven 500 7).seats[(0 : SeatId)].record.subscription (0 : ClosureId).val = true ∧
      hasMember (undriven 500 7).seats[(1 : SeatId)].record.subscription (0 : ClosureId).val = false) := by decide
/-- The eighth pulse in the start-up load, and with unpark pending: the store idle, and a commit in flight. -/
theorem witness_HallEdgeCountsUndriven_unpark :
    let ok := fun s : State => s.Attentive ∧ s.closures[(0 : ClosureId)].Counts .a ∧
      s.closures[(0 : ClosureId)].ctx.state = .idle ∧ s.closures[(0 : ClosureId)].ctx.permit = .hold ∧
      s.closures[(0 : ClosureId)].counter.burst = 7
    let pending := fun st : Store => ({ undriven 500 7 with arbiter := parked.arbiter, store := st } : State)
    let asks := fun s : State => ok s ∧ s.loading = false ∧ s.arbiter.unparkPending = true ∧ s.arbiter.unparkWait = .none
    ok { undriven 500 7 with loading := true } ∧
    (asks (pending parked.store) ∧ (pending parked.store).store.job = .idle) ∧
    (asks (pending (committing true).store) ∧ (pending (committing true).store).store.job.code = 1) := by decide
/-- Closure 0 in a context at 500, moving toward `d`, a rising edge of phase A next, the step that it completes begun at
0 µs with a sum of current of `mA` in one sample, `confirm` steps above their threshold so far. -/
def riding (x : Context) (v : Verdict) (d : Direction) (mA confirm : Nat) : State :=
  { base.withClosure 0 { window with
      ctx := x
      verdict := { v with confirm := confirm }
      counter := { window.counter with
        phaseB := decide (d = .closing), lastDir := some d, stepRecord := some { time := 0, dir := d } }
      sense := { isOpen := true, sum := mA, count := 1 } } with now := 3000 }
/-- A move's context in a state, its permit toward `d` when it drives. -/
def driving (st : CtxState) (m : Move) (permit : Permit) : Context :=
  { state := st, move := some m, permit := permit, startPos := some 500, startTime := some 0 }
/-- The reverse phase toward a target. -/
def reverse (p : Int) : Verdict :=
  { phase := some .reverse, target := some p
    record := some { cause := .load, pos := 400, load := 300, threshold := 240, region := .pinch } }
/-- An edge of phase A of closure 0 is a counted pulse. -/
def countsA (s : State) : Bool := decide (s.closures[(0 : ClosureId)].Counts .a)
/-- Pulses at every context that end in no verdict: a step of the profile path, a target and a reversal target reached,
an edge that only QUEUED and SETTLING contexts count. -/
theorem witness_HallEdgeCountsUndriven_steps :
    let aimed : Move := { ask .oneTouch .closing with target := some 499 }
    let ok := fun s : State => s.Attentive ∧ countsA s = true ∧
      (s.closures[(0 : ClosureId)].ctx.permit = .hold ∨
        (s.closures[(0 : ClosureId)].pulsedAt .a (s.now + 5)).counter.dirFaultRun < 8) ∧
      (s.steppedAt 0 .a (s.now + 5)).isSome = true
    ok (riding (driving .running (ask .oneTouch .closing) (.drive .closing)) {} .closing 2000 0) ∧
    (ok (riding (driving .running aimed (.drive .closing)) {} .closing 2000 0) ∧
      (riding (driving .running aimed (.drive .closing)) {} .closing 2000 0).arbiter.queue = [] ∧ (500 : Int) - 1 ≤ 499) ∧
    (ok (riding (driving .reversing aimed (.drive .opening)) (reverse 900) .opening 2000 0) ∧ ¬ (900 : Int) ≤ 500 + 1) ∧
    (ok (riding (driving .reversing aimed (.drive .opening)) (reverse 501) .opening 2000 0) ∧ (501 : Int) ≤ 500 + 1) ∧
    ok (riding (driving .queued aimed .hold) {} .closing 2000 0) ∧
    ok (riding (driving .settling aimed .hold) {} .closing 2000 0) := by decide
/-- Verdicts at 40 A: a closing move, an opening one, the reverse phase. -/
theorem witness_HallEdgeCountsUndriven_verdicts :
    let e : StepEdge := { time := 0, dir := .closing }
    let ok := fun (s : State) (d : Direction) =>
      let c := s.closures[(0 : ClosureId)]
      let p := c.pulsedAt .a (s.now + 5)
      s.Attentive ∧ countsA s = true ∧ c.edgeToward .a = d ∧ c.completes .a p = some { e with dir := d } ∧
      c.ctx.permit = .drive d ∧ c.est.blankingCount = 0 ∧ p.ComparedAt p.counter.position ∧
      s.threshold 0 d (p.pathToward d) p.counter.position < p.loadAt { e with dir := d } (s.now + 5) s.front.reading d ∧
      c.desc.confirmSteps ≤ c.verdict.confirm + 1 ∧ s.arbiter.queue = []
    ok (riding (driving .running (ask .oneTouch .closing) (.drive .closing)) {} .closing 40000 1) .closing ∧
    ok (riding (driving .running (ask .oneTouch .opening) (.drive .opening)) {} .opening 40000 1) .opening ∧
    ok (riding (driving .reversing (ask .oneTouch .closing) (.drive .opening)) (reverse 900) .opening 40000 1)
      .opening := by decide
/-- The eighth pulse in a row against permit CLOSE, on phase B, and on a rising edge of phase A. -/
theorem witness_HallEdgeCountsUndriven_fault :
    let ok := fun (high : Bool) (ph : Phase) =>
      let s := (running (ask .held .closing)).modCounter 0 fun x => { x with dirFaultRun := 7, phaseA := high }
      let c := s.closures[(0 : ClosureId)]
      s.Attentive ∧ c.Counts ph ∧ c.ctx.permit = .drive .closing ∧ Direction.closing ≠ c.edgeToward ph ∧
      c.counter.dirFaultRun = 7 ∧ c.ctx.state = .running ∧ s.arbiter.queue = []
    ok true .b ∧ (ok false .a ∧ (running (ask .held .closing)).closures[(0 : ClosureId)].Rising .a) := by decide
theorem witness_PositionLosses :
    let s := base.withClosure 0 { window with counter := { position := 3064, validity := .valid } }
    (s.Attentive ∧ s.closures[(0 : ClosureId)].desc.cls ≠ .unused ∧ s.closures[(0 : ClosureId)].ctx.state = .idle ∧
      s.closures[(0 : ClosureId)].ctx.move = none ∧ s.closures[(0 : ClosureId)].ctx.permit = .hold ∧
      s.closures[(0 : ClosureId)].edgeToward .a = .opening ∧
      s.closures[(0 : ClosureId)].counter.position = s.closures[(0 : ClosureId)].desc.travel + 64) ∧
    base.closures[(1 : ClosureId)].desc.cls = .unused := by decide
/-- The fourth phase fault, and an edge at the lower limit, at a VALID position: a move that needs its position and one
that does not, in each state of the context. -/
theorem witness_PositionLosses_moves :
    let touch := ask .oneTouch .closing
    let held := ask .held .closing
    let edge := fun s : State => s.modCounter 0 fun x => { x with phaseFaults := 3, position := -64 }
    let ok := fun (s : State) (st : CtxState) (m : Move) => s.Attentive ∧
      s.closures[(0 : ClosureId)].desc.cls ≠ .unused ∧ s.closures[(0 : ClosureId)].ctx.state = st ∧
      s.closures[(0 : ClosureId)].ctx.move = some m ∧ s.closures[(0 : ClosureId)].counter.validity = .valid ∧
      s.closures[(0 : ClosureId)].counter.phaseFaults = 3 ∧ s.closures[(0 : ClosureId)].edgeToward .b = .closing ∧
      s.closures[(0 : ClosureId)].counter.position = -64
    (ok (edge (running touch)) .running touch ∧ (edge (running touch)).arbiter.queue = [] ∧
      ¬ (touch.kind = .held ∨ touch.kind = .normalise)) ∧
    (ok (edge (running held)) .running held ∧
      (edge (running held)).closures[(0 : ClosureId)].ctx.permit = .drive .closing) ∧
    (ok (edge (settling touch)) .settling touch ∧ (edge (settling touch)).closures[(0 : ClosureId)].ctx.permit = .hold) ∧
    ok (edge (queued touch)) .queued touch ∧
    (ok (edge (queued held)) .queued held ∧ (edge (queued held)).closures[(0 : ClosureId)].ctx.permit = .hold) ∧
    (running touch).closures[(0 : ClosureId)].counter.phaseFaults ≠ 3 := by decide
/-- The brake phase at the lower limit: of a HELD move, and of one at a LOST position. -/
theorem witness_PositionLosses_brake :
    let held := ask .held .closing
    let at_ := fun (v : Validity) => (braking 900).modClosure 0 fun c =>
      { c with counter := { c.counter with position := -64, validity := v }, ctx := { c.ctx with move := some held } }
    let ok := fun s : State => s.Attentive ∧ s.closures[(0 : ClosureId)].desc.cls ≠ .unused ∧
      s.closures[(0 : ClosureId)].edgeToward .b = .closing ∧ s.closures[(0 : ClosureId)].counter.position = -64 ∧
      s.closures[(0 : ClosureId)].ctx.state = .reversing ∧ s.closures[(0 : ClosureId)].ctx.permit = .hold ∧
      s.closures[(0 : ClosureId)].ctx.move = some held
    ok (at_ .valid) ∧ (ok (at_ .lost) ∧ (at_ .lost).closures[(0 : ClosureId)].counter.validity = .lost) := by decide
/-- The closed end at 16, for a move and for a normalisation on a LOST position; an opening stall at the last end band; and
one in the reverse phase. -/
theorem witness_ClosedEndStall :
    let ok := fun (s : State) (m : Move) => s.Attentive ∧ s.closures[(0 : ClosureId)].counter.stallTimer = some 5 ∧
      5 ≤ s.now + 5 ∧ s.arbiter.queue = [] ∧ s.closures[(0 : ClosureId)].ctx.move = some m
    let ends := fun (m : Move) (v : Validity) =>
      let s := stalling m 16 v
      ok s m ∧ s.closures[(0 : ClosureId)].ctx.state = .running ∧ m.direction = .closing ∧
      s.closures[(0 : ClosureId)].counter.position ≤ s.closures[(0 : ClosureId)].desc.endBand ∧
      (s.closures[(0 : ClosureId)].counter.validity = .valid ∨ m.kind = .normalise)
    ends (ask .oneTouch .closing) .valid ∧ ends (ask .learn .closing) .valid ∧ ends (ask .normalise .closing) .lost ∧
    (ok (stalling (ask .held .opening) 2984 .valid) (ask .held .opening) ∧
      (stalling (ask .held .opening) 2984 .valid).closures[(0 : ClosureId)].ctx.state = .running) ∧
    (let s := (braking 900).modClosure 0 fun c =>
       { c with counter := { c.counter with stallTimer := some 5 }, verdict := { c.verdict with phase := some .reverse } }
     ok s (ask .oneTouch .closing) ∧ s.closures[(0 : ClosureId)].ctx.state = .reversing ∧
       s.closures[(0 : ClosureId)].verdict.phase = some .reverse) := by decide
/-- One pulse above the end band at a VALID position, and in it at a LOST one. -/
theorem witness_StallVerdictReverses :
    let ok := fun (s : State) (m : Move) =>
      let c := s.closures[(0 : ClosureId)]
      s.Attentive ∧ c.counter.stallTimer = some 5 ∧ 5 ≤ s.now + 5 ∧ c.ctx.state = .running ∧ c.ctx.move = some m ∧
      m.direction = .closing ∧ c.ctx.permit = .drive .closing
    (ok (stalling (ask .oneTouch .closing) 17 .valid) (ask .oneTouch .closing) ∧
      (stalling (ask .oneTouch .closing) 17 .valid).closures[(0 : ClosureId)].desc.endBand < (17 : Int)) ∧
    (ok (stalling (ask .held .closing) 5 .lost) (ask .held .closing) ∧
      (stalling (ask .held .closing) 5 .lost).closures[(0 : ClosureId)].counter.validity = .lost ∧
      (ask .held .closing).kind ≠ .normalise) := by decide
/-- A load at the threshold of 240 LU, one LU above it at count 0, and one above it at count 1 of 2. -/
theorem witness_ConfirmCount :
    let s := running (ask .oneTouch .closing)
    let once := s.modVerdict 0 fun v => { v with confirm := 1 }
    let c := s.closures[(0 : ClosureId)]
    (c.compares 500 = true ∧ 240 ≤ s.threshold 0 .closing .profile 500) ∧
    (s.threshold 0 .closing .profile 500 < 241 ∧ c.verdict.confirm + 1 < c.desc.confirmSteps) ∧
    (once.closures[(0 : ClosureId)].compares 500 = true ∧ once.threshold 0 .closing .profile 500 < 241 ∧
      once.closures[(0 : ClosureId)].desc.confirmSteps ≤ once.closures[(0 : ClosureId)].verdict.confirm + 1 ∧
      once.closures[(0 : ClosureId)].ctx.state = .running ∧
      once.closures[(0 : ClosureId)].ctx.move.map (·.direction) = some .closing) := by decide
theorem witness_BrakeExpiry :
    let ok := fun p : Int =>
      let s := braking p
      let c := s.closures[(0 : ClosureId)]
      s.Attentive ∧ c.verdict.brakeTimer = some 5 ∧ 5 ≤ s.now + 5 ∧ c.ctx.state = .reversing ∧
      c.verdict.phase = some .brake ∧ c.verdict.target = some p ∧ c.verdict.record.isSome = true
    (ok 501 ∧ (braking 501).closures[(0 : ClosureId)].counter.position < 501) ∧
    (ok 500 ∧ 500 ≤ (braking 500).closures[(0 : ClosureId)].counter.position ∧ (braking 500).arbiter.queue = []) := by
  decide
/-- What SettlingEnds asks of a state whose closure 0 settles for `reason`. -/
abbrev SettlesFor (s : State) (m : Move) (reason : EndReason) : Prop :=
  let c := s.closures[(0 : ClosureId)]
  s.Attentive ∧ c.ctx.state = .settling ∧ c.ctx.move = some m ∧ c.ctx.endReason = some reason ∧
  c.ctx.startPos = some 500 ∧ c.ctx.startTime = some 0 ∧ c.ctx.quietTimer = some 30000 ∧ c.ctx.limitTimer = some 300000 ∧
  30000 ≤ s.now + 30000 ∧ 300000 ≤ s.now + 300000
/-- A settling closure 0 whose move ends for `reason`. -/
def endedFor (reason : EndReason) : State :=
  (settling (ask .held .closing)).modCtx 0 fun x => { x with endReason := some reason }
/-- A settling closure 0 with a follow-on, every slot held. -/
def settlingFull : State :=
  let s := following (settling (ask .held .closing))
  { s with arbiter := { s.arbiter with held := crowded.arbiter.held } }
/-- A settling that ends by either timer: without a follow-on, with one and no slot free, and after a learning run. -/
theorem witness_SettlingEnds :
    (SettlesFor (settling (ask .held .closing)) (ask .held .closing) .stopped ∧
      (settling (ask .held .closing)).closures[(0 : ClosureId)].ctx.followOn = none) ∧
    (SettlesFor settlingFull (ask .held .closing) .stopped ∧
      settlingFull.closures[(0 : ClosureId)].ctx.followOn.isSome = true ∧
      settlingFull.arbiter.effective ≤ settlingFull.arbiter.heldCount) ∧
    SettlesFor (endedFor .learnDone) (ask .held .closing) .learnDone := by decide
/-- A settling with a follow-on and slots free: without a target, and with one that its position meets. -/
theorem witness_SettlingEnds_granted :
    let here : Move := { ask .oneTouch .closing with seat := 1, target := some 500 }
    let near := (settling (ask .held .closing)).modCtx 0 fun x => { x with followOn := some here }
    let ok := fun s : State => s.Attentive ∧ s.closures[(0 : ClosureId)].ctx.state = .settling ∧
      s.closures[(0 : ClosureId)].ctx.followOn.isSome = true ∧ s.arbiter.queue = [] ∧ s.SlotFree
    ok (following (settling (ask .held .closing))) ∧
    (ok near ∧ near.followOnCause 0 near.closures[(0 : ClosureId)] here = none ∧
      near.closures[(0 : ClosureId)].counter.position ≤ 500) := by decide
/-- A settling after a run that adapts the profile, and after one that does not. -/
theorem witness_SettlingEnds_adapts :
    (SettlesFor (endedFor .closed) (ask .held .closing) .closed ∧
      (endedFor .closed).AdaptsAt (endedFor .closed).closures[(0 : ClosureId)] (ask .held .closing) .closed) ∧
    ¬ (settling (ask .held .closing)).AdaptsAt (settling (ask .held .closing)).closures[(0 : ClosureId)]
      (ask .held .closing) .stopped := by decide
theorem witness_LapsedMovesEnd :
    let held := queued (ask .held .closing)
    let run := running (ask .held .closing)
    let touch := queued (ask .oneTouch .closing)
    (held.Attentive ∧ held.closures[(0 : ClosureId)].ctx.holdDeadline = some 200000 ∧ 200000 ≤ held.now + 200000 ∧
      held.closures[(0 : ClosureId)].ctx.state = .queued) ∧
    (run.Attentive ∧ run.closures[(0 : ClosureId)].ctx.holdDeadline = some 200000 ∧
      run.closures[(0 : ClosureId)].ctx.state = .running ∧ run.arbiter.queue = []) ∧
    (touch.Attentive ∧ touch.closures[(0 : ClosureId)].ctx.queueEntry = some 0 ∧ 0 + 8000000 ≤ touch.now + 8000000 ∧
      touch.closures[(0 : ClosureId)].ctx.state = .queued ∧ (ask .oneTouch .closing).kind = .oneTouch) := by decide
theorem witness_QuietExpiries :
    (let s := base.withClosure 0 { window with counter := { burst := 3, undrivenTimer := some 5 } }
     s.Attentive ∧ 5 ≤ s.now + 5 ∧ s.closures[(0 : ClosureId)].counter.undrivenTimer = some 5) ∧
    ({ base with window := some 5 } : State).window = some 5 ∧
    (noticed.Attentive ∧ noticed.seats[(0 : SeatId)].staleDeadline = some 500000 ∧ 500000 ≤ noticed.now + 0 ∧
      noticed.seats[(0 : SeatId)].queue ≠ [] ∧ (∀ x ∈ noticed.seats[(0 : SeatId)].queue, x.body.urgent = false) ∧
      noticed.seats[(0 : SeatId)].queue.length < noticed.seats[(0 : SeatId)].record.trigger) ∧
    (let s : State := { base with link := { base.link with quietTimer := some 5 } }
     s.Attentive ∧ s.link.quietTimer = some 5 ∧ s.words[5] = 0) ∧
    (resting.Attentive ∧ resting.link.quietTimer = some 5 ∧
      ({ resting with link := { resting.link with quietTimer := none } } : State).SleepConditions) := by decide
theorem witness_FrontEndSamples :
    base.Attentive ∧ (({ isOpen := true, count := 65534 } : Sense).isOpen = true ∧ 65534 < 65535) ∧
    (({} : Sense).isOpen = false ∧ 65535 ≤ ({ isOpen := true, count := 65535 } : Sense).count) ∧
    (List.replicate 20 12000).length ≤ 20 ∧ (List.replicate 19 12000).length ≤ 20 := by decide
/-- A reading of 7,999 mV against V_min = 8,000 mV. -/
theorem witness_SupplyRefreshAndFall :
    let front : FrontEnd := { base.front with window := List.replicate 20 7999 }
    let still : State := { base with front := front }
    let m := ask .oneTouch .closing
    let ok := fun s : State => s.Attentive ∧ s.loading = false ∧ s.front.window.length = 20 ∧
      s.arbiter.supplyState = .above ∧ s.front.window.sum / 20 < s.settings.vMin ∧ 6000 < s.settings.vMin ∧
      s.settings.vMin ≤ 18000 ∧ s.closures[(0 : ClosureId)].ctx.move = some m ∧ m.direction = .closing ∧
      (∀ j : ClosureId, j ≠ 0 → ∀ x ∈ s.closures[j].ctx.move, x.direction = .closing →
        s.closures[j].ctx.state ≠ .running ∧ s.closures[j].ctx.state ≠ .queued)
    (still.Attentive ∧ still.loading = false ∧ still.front.window.length = 20 ∧ still.arbiter.queue = [] ∧
      (∀ k : ClosureId, ∀ x ∈ still.closures[k].ctx.move, x.direction = .closing →
        still.closures[k].ctx.state ≠ .running ∧ still.closures[k].ctx.state ≠ .queued)) ∧
    (ok { running m with front := front } ∧ (running m).closures[(0 : ClosureId)].ctx.state = .running ∧
      (running m).arbiter.queue = []) ∧
    (ok { queued m with front := front } ∧ (queued m).closures[(0 : ClosureId)].ctx.state = .queued ∧
      (queued m).arbiter.derating = false) := by decide
theorem witness_CommitAccepted :
    (base.Awake ∧ base.seats[f0.seat].record.grants .commit = true ∧ base.store.job = .idle ∧
      ∀ k : ClosureId, base.closures[k].ctx.state = .idle) ∧
    base.seats[f1.seat].record.grants .commit = false ∧
    ((committing true).Awake ∧ (committing true).store.job.code ≠ 0) ∧
    ((running (ask .held .closing)).store.job = .idle ∧
      ¬ ∀ k : ClosureId, (running (ask .held .closing)).closures[k].ctx.state = .idle) ∧ 2 ≤ (2 : Byte).toNat := by decide
theorem witness_StoreWritesEnd :
    (∀ park : Bool, (committing park).Attentive ∧ (committing park).store.job.code = 1 ∧
      (committing park).arbiter.unparkWait = .none ∧ (committing park).seats[(0 : SeatId)].queue.length < 16) ∧
    (let s : State := { base with store := { base.store with job := .unparking } }
     s.Attentive ∧ s.store.job = .unparking ∧ s.arbiter.queue = [] ∧
       s.seats[(0 : SeatId)].record.grants .commit = true ∧ s.seats[(0 : SeatId)].queue.length < 16 ∧
       s.seats[(1 : SeatId)].record.grants .commit = false) ∧
    (let m := ask .held .opening
     let s : State := { queued m with
       store := { base.store with job := .unparking }
       arbiter := { (queued m).arbiter with effective := 1, unparkPending := true, unparkWait := .writing } }
     s.Attentive ∧ s.store.job = .unparking ∧ s.arbiter.queue = [{ closure := 0, arrival := 1 }] ∧
       s.closures[(0 : ClosureId)].ctx.move = some m ∧ m.Runs ∧ s.arbiter.held[(0 : ClosureId)] = false ∧
       s.arbiter.heldCount + 1 = s.arbiter.effective) := by decide
/-- An unpark wait for the store, the commit in flight parking or not: with nothing waiting for a slot, and with a move at
the head of the queue and one slot free. -/
theorem witness_StoreWritesEnd_waiting :
    let m := ask .held .opening
    let wait := fun (s : State) (park : Bool) => ({ s with
      store := (committing park).store
      arbiter := { s.arbiter with effective := 1, unparkPending := true, unparkWait := .waitingForStore } } : State)
    let ok := fun s : State => s.Attentive ∧ s.arbiter.unparkWait = .waitingForStore ∧ s.store.job.code = 1 ∧
      s.seats[(0 : SeatId)].queue.length < 16
    ∀ park : Bool,
      (ok (wait base park) ∧ (wait base park).arbiter.unparkPending = true ∧ (wait base park).arbiter.queue = []) ∧
      (ok (wait (queued m) park) ∧ (wait (queued m) park).arbiter.queue = [{ closure := 0, arrival := 1 }] ∧
        (wait (queued m) park).closures[(0 : ClosureId)].ctx.move = some m ∧ m.Runs ∧
        (wait (queued m) park).arbiter.held[(0 : ClosureId)] = false ∧
        (wait (queued m) park).arbiter.heldCount + 1 = (wait (queued m) park).arbiter.effective) := by decide
/-- `committing`'s job is the commit of seat 0. -/
theorem witness_StoreWritesEnd_job (park : Bool) : (committing park).store.job = .committing 0 park base.capture := rfl
theorem witness_ResetAndColdStart :
    (base.powered = true ∧ base.asleepSince = none ∧ base.store.job = .idle ∧ base.store.image.valid = false) ∧
    (parked.powered = true ∧ parked.asleepSince = none ∧ parked.store.job = .idle ∧ parked.store.image.valid = true ∧
      parked.store.image.parked = true ∧
      parked.store.image.positions[(0 : ClosureId)].pos ≤ parked.store.image.descriptions[(0 : ClosureId)].travel + 64) ∧
    (committing true).store.job ≠ .idle := ⟨by decide, by decide, nofun⟩
/-- A restored travel of 512 limits a position of 577, in the part and in the image; a restored polarity differs. -/
theorem witness_ResetAndColdStart_limits :
    let d : Description := { cls := .window, travel := 512, polarity := .swapped }
    let s : State :=
      { parked.modCounter 0 fun c => { c with position := 577 } with
        store := { parked.store with
          image := { parked.store.image with
            descriptions := parked.store.image.descriptions.set 0 d
            positions := parked.store.image.positions.set 0 { pos := 577, validity := .valid } } } }
    s.powered = true ∧ s.asleepSince = none ∧ s.store.image.valid = true ∧ s.store.image.parked = true ∧
    (d.travel : Int) + 64 < s.closures[(0 : ClosureId)].counter.position ∧
    (d.travel : Int) + 64 < s.store.image.positions[(0 : ClosureId)].pos ∧
    s.store.image.descriptions[(0 : ClosureId)] = d ∧ d.polarity ≠ s.closures[(0 : ClosureId)].desc.polarity := by decide
theorem witness_LoadEndAndPowerLoss :
    (State.reset.Attentive ∧ State.reset.loading = true ∧ State.reset.deferred = []) ∧
    (base.powered = true ∧ base.store.job = .idle) ∧ (committing true).store.job.code ≠ 0 ∧
    (let s : State := { parked with loading := true, deferred := [.supplyLowEntered 7999, .movedUndriven 0] }
     s.Attentive ∧ s.loading = true ∧ (s.store.image.valid && s.store.image.parked) = true ∧
       DueNotice.movedUndriven 0 ∈ s.deferred ∧ s.arbiter.unparkWait = .none ∧ s.store.job = .idle ∧
       s.seats[(0 : SeatId)].queue.length + 2 ≤ 16) := by decide

end Sys2Proof.Tests
end

section
/-! PROOFS. One closure replaced: each operation on one closure as the closure that it leaves, and a loss of position. -/
namespace Sys2Proof.Machine

section
variable (s : State) (k : ClosureId) (c d : ClosureState)

theorem State.modClosure_eq (f : ClosureState → ClosureState) :
    s.modClosure k f = s.withClosure k (f s.closures[k]) := rfl

theorem State.modCounter_eq (f : Counter → Counter) :
    s.modCounter k f = s.withClosure k { s.closures[k] with counter := f s.closures[k].counter } := rfl

theorem State.modVerdict_eq (f : Verdict → Verdict) :
    s.modVerdict k f = s.withClosure k { s.closures[k] with verdict := f s.closures[k].verdict } := rfl

@[simp] theorem State.withClosure_present : s.withClosure k s.closures[k] = s := by
  simp [State.withClosure]

@[simp] theorem State.withClosure_withClosure : (s.withClosure k c).withClosure k d = s.withClosure k d := by
  simp [State.withClosure]

@[simp] theorem State.modClosure_withClosure (f : ClosureState → ClosureState) :
    (s.withClosure k c).modClosure k f = s.withClosure k (f c) := by
  rw [State.modClosure_eq, State.withClosure_withClosure, State.withClosure_self]

@[simp] theorem State.modCounter_withClosure (f : Counter → Counter) :
    (s.withClosure k c).modCounter k f = s.withClosure k { c with counter := f c.counter } := by
  rw [State.modCounter_eq, State.withClosure_withClosure, State.withClosure_self]

@[simp] theorem State.modVerdict_withClosure (f : Verdict → Verdict) :
    (s.withClosure k c).modVerdict k f = s.withClosure k { c with verdict := f c.verdict } := by
  rw [State.modVerdict_eq, State.withClosure_withClosure, State.withClosure_self]

/-- An update that leaves its closure as it is leaves the state. -/
theorem State.modClosure_fixed {s : State} {k : ClosureId} {f : ClosureState → ClosureState}
    (h : f s.closures[k] = s.closures[k]) : s.modClosure k f = s := by
  rw [State.modClosure_eq, h, State.withClosure_present]

theorem State.moveEnded_self (now : Nat) (r : EndReason) (w : Option SeatId) :
    (s.moveEnded k now r w).closures[k] = s.closures[k].settledAt now r w := by
  simp

end

/-! Loss of position (R15, R101). -/

/-- A closure whose position is LOST. -/
def ClosureState.lose (c : ClosureState) : ClosureState := { c with counter := { c.counter with validity := .lost } }

theorem ClosureState.lose_of_lost {c : ClosureState} (h : c.counter.validity = .lost) : c.lose = c := by
  unfold ClosureState.lose
  rw [← h]

theorem Kind.needsPosition_iff (x : Kind) : x.needsPosition = true ↔ ¬ (x = .held ∨ x = .normalise) := by
  cases x <;> simp [Kind.needsPosition]

/-- A loss of position ends no move of the closure: the position was LOST before, the context holds no move that needs a
position, or it is IDLE or SETTLING. -/
abbrev ClosureState.KeepsMove (c : ClosureState) : Prop :=
  c.counter.validity = .lost ∨ (∀ m ∈ c.ctx.move, m.kind = .held ∨ m.kind = .normalise) ∨
    c.ctx.state = .idle ∨ c.ctx.state = .settling

theorem ClosureState.keepsMove_of_goesOn {c : ClosureState} {m : Move} (hm : c.ctx.move = some m)
    (h : (m.kind = .held ∨ m.kind = .normalise) ∨ c.counter.validity = .lost) : c.KeepsMove := by
  rcases h with h | h
  · refine .inr (.inl fun x hx => ?_)
    obtain rfl := Option.some.inj (hm.symm.trans hx)
    exact h
  · exact .inl h

section
variable (s : State) (k : ClosureId) (c : ClosureState)

theorem State.losePosition_kept (h : c.KeepsMove) :
    (s.withClosure k c).losePosition k = s.withClosure k c.lose := by
  simp only [State.losePosition, State.withClosure_self, State.modCounter_withClosure]
  cases hv : c.counter.validity with
  | lost => simp only [ClosureState.lose_of_lost hv]
  | valid =>
    cases hm : c.ctx.move with
    | none => rfl
    | some m =>
      by_cases needs : m.kind.needsPosition = true
      · have still : c.ctx.state = .idle ∨ c.ctx.state = .settling := by
          rcases h with h | h | h
          · exact absurd (hv.symm.trans h) (by decide)
          · exact absurd (h m hm) (m.kind.needsPosition_iff.mp needs)
          · exact h
        rcases still with still | still <;> simp only [needs, still, if_true] <;> rfl
      · simp only [needs]
        rfl

/-- A loss on a VALID position ends a RUNNING or REVERSING move that needs one. -/
theorem State.losePosition_ends {m : Move} (hv : c.counter.validity = .valid) (hm : c.ctx.move = some m)
    (needs : ¬ (m.kind = .held ∨ m.kind = .normalise)) (moves : c.ctx.state = .running ∨ c.ctx.state = .reversing) :
    (s.withClosure k c).losePosition k = (s.withClosure k c.lose).endMove k .positionLost none := by
  simp only [State.losePosition, State.withClosure_self, State.modCounter_withClosure, hv, hm,
    m.kind.needsPosition_iff.mpr needs, if_true]
  rcases moves with moves | moves <;> rw [moves] <;> rfl

/-- A loss on a VALID position removes a QUEUED move that needs one. -/
theorem State.losePosition_removes {m : Move} (hv : c.counter.validity = .valid) (hm : c.ctx.move = some m)
    (needs : ¬ (m.kind = .held ∨ m.kind = .normalise)) (queued : c.ctx.state = .queued) :
    (s.withClosure k c).losePosition k = (s.withClosure k c.lose).remove k .positionLost none := by
  simp only [State.losePosition, State.withClosure_self, State.modCounter_withClosure, hv, hm,
    m.kind.needsPosition_iff.mpr needs, if_true, queued]
  rfl

end

/-- The limit of a position at L_full + 64 (R3, R21, R161). -/
theorem ClosureState.limitPosition_eq (c : ClosureState) : c.limitPosition =
    { c with counter := { c.counter with
        position := min (c.desc.travel + 64 : Int) c.counter.position
        validity := if (c.desc.travel + 64 : Int) < c.counter.position then .lost else c.counter.validity } } := by
  by_cases beyond : (c.desc.travel + 64 : Int) < c.counter.position
  · rw [if_pos beyond, min_eq_left beyond.le]
    exact if_pos beyond
  · rw [if_neg beyond, min_eq_right (not_lt.mp beyond)]
    exact if_neg beyond

end Sys2Proof.Machine
end

section
/-! PROOFS. The state right after reset (R161): its blocks, and the laws that hold of it. -/
namespace Sys2Proof.Machine

theorem State.reset_closures (k : ClosureId) : State.reset.closures[k] = {} := by simp [State.reset]

theorem State.reset_seats (n : SeatId) : State.reset.seats[n] = { record := SeatRecord.blank n } := by
  simp [State.reset]

theorem SeatRecord.blank_inRange (n : SeatId) : (SeatRecord.blank n).InRange := by
  unfold SeatRecord.blank
  split <;> decide

/-- The blank zone entry stands in its anchor band (R45, R48). -/
theorem ZoneEntry.blank_inBand : ({} : ZoneEntry).InBand := by decide

theorem State.reset_heldCount : State.reset.arbiter.heldCount = 0 := by decide

theorem State.reset_motionLaw : State.reset.MotionLaw := by
  refine ⟨fun k => ?_, fun k => ?_, ⟨fun k => ?_, List.nodup_nil⟩, ?_⟩
  · rw [State.reset_closures]
    rfl
  · rw [State.reset_closures]
    simp
  · rw [State.reset_closures]
    simp [State.reset]
  · decide

/-- No seat has a notice, so no cause holds (R129, R134). -/
theorem State.reset_lineLaw : State.reset.LineLaw := by
  intro n
  have trigger := (SeatRecord.blank_inRange n).2.2.1
  rw [State.reset_seats]
  exact ⟨by simp, by simp, by simpa using Nat.one_le_iff_ne_zero.mp trigger, by simp, by simp, rfl⟩

theorem State.reset_recordLaw : State.reset.RecordLaw := by
  refine ⟨fun n => ?_, fun trusted => ?_, trivial⟩
  · rw [State.reset_seats]
    exact SeatRecord.blank_inRange n
  · exact absurd trusted (by decide)

theorem State.reset_zoneLaw : State.reset.ZoneLaw := by
  refine ⟨fun k z => ?_, fun trusted => ?_, trivial⟩
  · rw [State.reset_closures]
    simpa using ZoneEntry.blank_inBand
  · exact absurd trusted (by decide)

/-- Awake in its start-up load, with SLEEP PERMIT 0 (R159). -/
theorem State.reset_sleepLaw : State.reset.SleepLaw := by
  refine ⟨?_, fun _ => rfl⟩
  simp [State.reset]

/-- Settles O3: every block of `State.reset` read off. -/
theorem resetValues : Obligations.ResetValues := by
  refine ⟨fun k => ?_, rfl, rfl, rfl, State.reset_heldCount, rfl, rfl, rfl, rfl, rfl, rfl, fun n hn => ?_, fun n => ?_,
    fun w => ?_, rfl, rfl, rfl, rfl, rfl⟩
  · rw [State.reset_closures]
    exact ⟨rfl, rfl, rfl, rfl, rfl, rfl, rfl, rfl, rfl, rfl, rfl, rfl⟩
  · rw [State.reset_seats, SeatRecord.blank, if_neg hn]
  · rw [State.reset_seats]
    exact ⟨rfl, rfl, rfl, rfl, rfl⟩
  · simp [State.reset]

/-- Settles O4: law by law, from the blank closures and seats. -/
theorem resetKeepsLaws : Obligations.ResetKeepsLaws := by
  refine ⟨State.reset_motionLaw, fun n => ?_, State.reset_lineLaw, State.reset_recordLaw, fun k => ?_, fun k => ?_,
    ⟨fun valid => ?_, trivial⟩, fun k => ?_, by decide, fun k _ m hm => ?_, State.reset_sleepLaw, State.reset_zoneLaw,
    fun k => ?_, List.Pairwise.nil, List.nodup_nil, fun e he => ?_⟩
  · rw [State.reset_seats]
    simp
  · rw [State.reset_closures]
    simp
  · rw [State.reset_closures]
    simp
  · exact absurd valid (by decide)
  · rw [State.reset_closures]
    simp
  · rw [State.reset_closures] at hm
    exact absurd hm (Option.not_mem_none m)
  · rw [State.reset_closures]
    simp
  · exact absurd he List.not_mem_nil

end Sys2Proof.Machine
end

section
/-! PROOFS. Zones (R5) and the reversal target (R74). -/
namespace Sys2Proof.Machine

theorem Description.zone_val (d : Description) (p : Int) : (d.zone p).val = min 63 (p.toNat / (d.travel / 64)) := rfl

theorem Description.zone_of_neg (d : Description) {p : Int} (h : p < 0) : (d.zone p).val = 0 := by
  rw [d.zone_val, Int.toNat_of_nonpos h.le, Nat.zero_div, Nat.min_zero]

/-- Zone z below 63 covers z W to (z + 1) W - 1 (R5). -/
theorem Description.zone_of_mem (d : Description) {p : Int} {z : Nat} (hz : z < 63)
    (lo : (z * (d.travel / 64) : Nat) ≤ p) (hi : p < ((z + 1) * (d.travel / 64) : Nat)) : (d.zone p).val = z := by
  have quotient : p.toNat / (d.travel / 64) = z := Nat.div_eq_of_lt_le (by omega) (by omega)
  rw [d.zone_val, quotient]
  omega

/-- Zone 63 covers everything from 63 W up (R5). -/
theorem Description.zone_of_top (d : Description) {p : Int} (width : 0 < d.travel / 64)
    (lo : (63 * (d.travel / 64) : Nat) ≤ p) : (d.zone p).val = 63 := by
  have quotient : 63 ≤ p.toNat / (d.travel / 64) := (Nat.le_div_iff_mul_le width).mpr (by omega)
  rw [d.zone_val]
  omega

section
variable (c : ClosureState) (pos : Int)

theorem ClosureState.reversalTarget_distance (hv : c.counter.validity = .valid) (hm : c.desc.reversalMode = .distance) :
    c.reversalTarget pos = min (c.desc.travel : Int) (max (pos + c.desc.reversalDistance) c.desc.pinchLimit) := by
  simp only [ClosureState.reversalTarget, hv, hm]

theorem ClosureState.reversalTarget_full (hv : c.counter.validity = .valid) (hm : c.desc.reversalMode = .full) :
    c.reversalTarget pos = c.desc.travel := by
  simp only [ClosureState.reversalTarget, hv, hm]

theorem ClosureState.reversalTarget_lost (hv : c.counter.validity = .lost) :
    c.reversalTarget pos = min (pos + c.desc.reversalDistance) (c.desc.travel + 64) := by
  simp only [ClosureState.reversalTarget, hv, Description.highestPosition, Config.overTravel]
  exact min_comm _ _

theorem ClosureState.reversalTarget_le : c.reversalTarget pos ≤ c.desc.travel + 64 := by
  cases hv : c.counter.validity with
  | lost =>
    rw [c.reversalTarget_lost pos hv]
    omega
  | valid =>
    cases hm : c.desc.reversalMode with
    | distance =>
      rw [c.reversalTarget_distance pos hv hm]
      omega
    | full =>
      rw [c.reversalTarget_full pos hv hm]
      omega

theorem ClosureState.pinchLimit_le_reversalTarget (hv : c.counter.validity = .valid)
    (hp : c.desc.pinchLimit ≤ c.desc.travel) : c.desc.pinchLimit ≤ c.reversalTarget pos := by
  cases hm : c.desc.reversalMode with
  | distance =>
    rw [c.reversalTarget_distance pos hv hm]
    omega
  | full =>
    rw [c.reversalTarget_full pos hv hm]
    omega

end

/-- Settles O16: the zone is a quotient by the zone width; the target is read off the table of R74 and bounded in each
of its rows. -/
theorem zonesAndReversalTarget : Obligations.ZonesAndReversalTarget := by
  refine ⟨fun d p ht => ⟨d.zone_of_neg, fun z => d.zone_of_mem, d.zone_of_top (by omega)⟩, fun c pos => ?_⟩
  exact ⟨c.reversalTarget_distance pos, c.reversalTarget_full pos, c.reversalTarget_lost pos, c.reversalTarget_le pos,
    c.pinchLimit_le_reversalTarget pos⟩

end Sys2Proof.Machine
end

section
/-! PROOFS. Closure fields: the identifiers, and the values that a write takes (R1 to R4, R154). -/
namespace Sys2Proof.Machine

theorem clampNat_eq {lo hi : Nat} (h : lo ≤ hi) (x : Nat) : clampNat lo hi x = max lo (min hi x) := by
  unfold clampNat
  split
  · omega
  · split <;> omega

/-! Coded values (R154). -/

theorem classOf_code (x : ClosureClass) : classOf x.code = some x := by cases x <;> rfl

theorem polarityOf_code (x : Polarity) : polarityOf x.code = some x := by cases x <;> rfl

theorem exists_class_of_le {v : Nat} (h : v ≤ 4) : ∃ x, classOf v = some x ∧ x.code = v := by
  interval_cases v
  exacts [⟨.unused, rfl, rfl⟩, ⟨.window, rfl, rfl⟩, ⟨.vent, rfl, rfl⟩, ⟨.panel, rfl, rfl⟩, ⟨.shade, rfl, rfl⟩]

theorem exists_polarity_of_le {v : Nat} (h : v ≤ 1) : ∃ x, polarityOf v = some x ∧ x.code = v := by
  interval_cases v
  exacts [⟨.normal, rfl, rfl⟩, ⟨.swapped, rfl, rfl⟩]

theorem exists_mode_of_le {v : Nat} (h : v ≤ 1) : ∃ x, reversalModeOf v = some x ∧ x.code = v := by
  interval_cases v
  exacts [⟨.distance, rfl, rfl⟩, ⟨.full, rfl, rfl⟩]

theorem exists_onOff_of_le {v : Nat} (h : v ≤ 1) : ∃ x, onOffOf v = some x ∧ (if x then 1 else 0) = v := by
  interval_cases v
  exacts [⟨false, rfl, rfl⟩, ⟨true, rfl, rfl⟩]

theorem classOf_eq_none {v : Nat} (h : 4 < v) : classOf v = none := by
  obtain ⟨n, rfl⟩ := Nat.exists_eq_add_of_lt h
  rw [show 4 + n + 1 = n + 5 by omega]
  rfl

/-- A value above 1 codes no polarity, no reversal mode, and neither ON nor OFF. -/
theorem twoValued_eq_none {v : Nat} (h : 1 < v) : polarityOf v = none ∧ reversalModeOf v = none ∧ onOffOf v = none := by
  obtain ⟨n, rfl⟩ := Nat.exists_eq_add_of_lt h
  rw [show 1 + n + 1 = n + 2 by omega]
  exact ⟨rfl, rfl, rfl⟩

/-! The fields by identifier. -/

/-- The fields of a description as numbers, in the order of their identifiers. -/
def Description.fields (d : Description) : List Nat :=
  [d.cls.code, d.polarity.code, d.travel, d.endBand, d.pinchLimit, d.reversalMode.code, d.reversalDistance, d.speedGain,
    d.currentGain, d.blend, d.thPinch, d.thFree, d.thFallback, d.thOpen, d.thCeiling, d.roughStep, d.blanking,
    d.confirmSteps, d.stallUnits, d.brakeTime, d.escapeMax, if d.statsOn then 1 else 0]

theorem Description.read_eq (d : Description) : ∀ id : Nat, d.read id = d.fields[id]?
  | 0 | 1 | 2 | 3 | 4 | 5 | 6 | 7 | 8 | 9 | 10 | 11 | 12 | 13 | 14 | 15 | 16 | 17 | 18 | 19 | 20 | 21 => rfl
  | _ + 22 => rfl

section
variable {d e : Description} {id n : Nat}

/-- A field that has taken a value reads as that value, and every other as before. -/
theorem Description.read_of_set (h : e.fields = d.fields.set id n) (hid : id < 22) :
    e.read id = some n ∧ ∀ other ≠ id, e.read other = d.read other := by
  simp only [Description.read_eq, h]
  exact ⟨List.getElem?_set_self hid, fun other ne => List.getElem?_set_ne ne.symm⟩

/-- The same when a field that depends on it has followed. -/
theorem Description.read_of_set_set {dep m : Nat} (h : e.fields = (d.fields.set id n).set dep m) (hid : id < 22)
    (hdep : dep ≠ id) : e.read id = some n ∧ ∀ other ≠ id, other ≠ dep → e.read other = d.read other := by
  simp only [Description.read_eq, h]
  refine ⟨?_, fun other ne ne' => ?_⟩
  · rw [List.getElem?_set_ne hdep]
    exact List.getElem?_set_self hid
  · rw [List.getElem?_set_ne ne'.symm, List.getElem?_set_ne ne.symm]

end

/-! Writes of numeric fields (R1, R3). -/

section
variable (d : Description) (v : Nat)

theorem Description.write_travel : ∃ e m, d.write 0x02 v = some e ∧
    e.fields = (d.fields.set 0x02 (clampNat 512 16000 v)).set 0x04 m := by
  by_cases h : clampNat 512 16000 v = d.travel
  · refine ⟨d, d.pinchLimit, congrArg some (if_pos h), ?_⟩
    rw [h]
    rfl
  · exact ⟨_, _, congrArg some (if_neg h), rfl⟩

theorem Description.write_endBand : ∃ e m, d.write 0x03 v = some e ∧
    e.fields = (d.fields.set 0x03 (clampNat 4 64 v)).set 0x04 m := by
  by_cases h : clampNat 4 64 v = d.endBand
  · refine ⟨d, d.pinchLimit, congrArg some (if_pos h), ?_⟩
    rw [h]
    rfl
  · exact ⟨_, _, congrArg some (if_neg h), rfl⟩

theorem Description.write_thCeiling : ∃ e m, d.write 0x0E v = some e ∧
    e.fields = (d.fields.set 0x0E (clampNat 200 400 v)).set 0x0A m := by
  by_cases h : clampNat 200 400 v = d.thCeiling
  · refine ⟨d, d.thPinch, congrArg some (if_pos h), ?_⟩
    rw [h]
    rfl
  · exact ⟨_, _, congrArg some (if_neg h), rfl⟩

/-- The numeric fields on which no other depends, with their ranges (R1). -/
def freeFields : List (Nat × Nat × Nat) :=
  [(0x06, 40, 2000), (0x07, 0, 255), (0x08, 0, 255), (0x09, 0, 16), (0x0B, 40, 2047), (0x0C, 40, 2047), (0x0D, 40, 2047),
    (0x0F, 0, 60), (0x10, 2, 15), (0x11, 1, 4), (0x12, 4, 40), (0x13, 5, 50), (0x14, 1, 7)]

theorem Description.write_free {id lo hi : Nat} (h : (id, lo, hi) ∈ freeFields) :
    lo ≤ hi ∧ id < 22 ∧ ∃ e, d.write id v = some e ∧ e.fields = d.fields.set id (clampNat lo hi v) := by
  simp only [freeFields, List.mem_cons, Prod.mk.injEq, List.not_mem_nil, or_false] at h
  rcases h with ⟨rfl, rfl, rfl⟩ | ⟨rfl, rfl, rfl⟩ | ⟨rfl, rfl, rfl⟩ | ⟨rfl, rfl, rfl⟩ | ⟨rfl, rfl, rfl⟩ | ⟨rfl, rfl, rfl⟩ |
    ⟨rfl, rfl, rfl⟩ | ⟨rfl, rfl, rfl⟩ | ⟨rfl, rfl, rfl⟩ | ⟨rfl, rfl, rfl⟩ | ⟨rfl, rfl, rfl⟩ | ⟨rfl, rfl, rfl⟩ | ⟨rfl, rfl, rfl⟩
  all_goals exact ⟨by decide, by decide, _, rfl, rfl⟩

/-- A write to a numeric field takes the value clamped to the field's range, and leaves every field that does not depend
on it (R1, R2). -/
theorem Description.write_numeric {id lo hi : Nat}
    (h : (id, lo, hi) ∈ [(0x02, 512, 16000), (0x03, 4, 64), (0x0E, 200, 400)] ∨ (id, lo, hi) ∈ freeFields) :
    ∃ e, d.write id v = some e ∧ e.read id = some (max lo (min hi v)) ∧
      ∀ other ≤ 0x15, other ≠ id → (id ≠ 0x02 ∨ other ≠ 0x04) → (id ≠ 0x03 ∨ other ≠ 0x04) →
        (id ≠ 0x0E ∨ other ≠ 0x0A) → e.read other = d.read other := by
  rcases h with h | h
  · simp only [List.mem_cons, Prod.mk.injEq, List.not_mem_nil, or_false] at h
    rcases h with ⟨rfl, rfl, rfl⟩ | ⟨rfl, rfl, rfl⟩ | ⟨rfl, rfl, rfl⟩
    · obtain ⟨e, m, write, fields⟩ := d.write_travel v
      obtain ⟨taken, frame⟩ := Description.read_of_set_set fields (by decide) (by decide)
      rw [clampNat_eq (by decide)] at taken
      exact ⟨e, write, taken, fun other _ ne dep _ _ => frame other ne (dep.resolve_left (by decide))⟩
    · obtain ⟨e, m, write, fields⟩ := d.write_endBand v
      obtain ⟨taken, frame⟩ := Description.read_of_set_set fields (by decide) (by decide)
      rw [clampNat_eq (by decide)] at taken
      exact ⟨e, write, taken, fun other _ ne _ dep _ => frame other ne (dep.resolve_left (by decide))⟩
    · obtain ⟨e, m, write, fields⟩ := d.write_thCeiling v
      obtain ⟨taken, frame⟩ := Description.read_of_set_set fields (by decide) (by decide)
      rw [clampNat_eq (by decide)] at taken
      exact ⟨e, write, taken, fun other _ ne _ _ dep => frame other ne (dep.resolve_left (by decide))⟩
  · obtain ⟨range, hid, e, write, fields⟩ := d.write_free v h
    obtain ⟨taken, frame⟩ := Description.read_of_set fields hid
    rw [clampNat_eq range] at taken
    exact ⟨e, write, taken, fun other _ ne _ _ _ => frame other ne⟩

/-! Writes of enumerated fields (R2). -/

theorem Description.write_class : (4 < v → d.write 0x00 v = none) ∧
    (v ≤ 4 → (d.write 0x00 v).bind (·.read 0x00) = some v) := by
  refine ⟨fun h => by simp only [Description.write, classOf_eq_none h, Option.map_none], fun h => ?_⟩
  obtain ⟨x, hx, rfl⟩ := exists_class_of_le h
  simp only [Description.write, hx, Option.map_some, Option.bind_some]
  split
  · rename_i same
    rw [same]
    rfl
  · rfl

theorem Description.write_polarity : (1 < v → d.write 0x01 v = none) ∧
    (v ≤ 1 → (d.write 0x01 v).bind (·.read 0x01) = some v) := by
  refine ⟨fun h => by simp only [Description.write, (twoValued_eq_none h).1, Option.map_none], fun h => ?_⟩
  obtain ⟨x, hx, rfl⟩ := exists_polarity_of_le h
  simp only [Description.write, hx]
  rfl

theorem Description.write_mode : (1 < v → d.write 0x05 v = none) ∧
    (v ≤ 1 → (d.write 0x05 v).bind (·.read 0x05) = some v) := by
  refine ⟨fun h => by simp only [Description.write, (twoValued_eq_none h).2.1, Option.map_none], fun h => ?_⟩
  obtain ⟨x, hx, rfl⟩ := exists_mode_of_le h
  simp only [Description.write, hx]
  rfl

theorem Description.write_statsOn : (1 < v → d.write 0x15 v = none) ∧
    (v ≤ 1 → (d.write 0x15 v).bind (·.read 0x15) = some v) := by
  refine ⟨fun h => by simp only [Description.write, (twoValued_eq_none h).2.2, Option.map_none], fun h => ?_⟩
  obtain ⟨x, hx, rfl⟩ := exists_onOff_of_le h
  simp only [Description.write, hx]
  rfl

end

/-- Settles O29: the fields as a list by identifier, and each write as a change of one entry of it and of the entry that
depends on it. -/
theorem fieldWritesClamp : Obligations.FieldWritesClamp := by
  refine fun d v => ⟨fun id lo hi h => d.write_numeric v ?_, d.read_eq, fun id hid last hlast => ?_, fun h => ?_, fun h => ?_⟩
  · simp only [freeFields, List.mem_cons, List.not_mem_nil, or_false] at h ⊢
    tauto
  · simp only [List.mem_cons, List.not_mem_nil, or_false] at hid hlast
    rcases hid with rfl | rfl | rfl | rfl
    · exact hlast ▸ d.write_class v
    · exact hlast ▸ d.write_polarity v
    · exact hlast ▸ d.write_mode v
    · exact hlast ▸ d.write_statsOn v
  · exact congrArg some (clampNat_eq h v)
  · exact congrArg some (clampNat_eq h v)

end Sys2Proof.Machine
end

section
/-! PROOFS. Reading a closure (R7, R20) and its settings (R4, R108, R109), and the expiries that touch no move (R18,
R127, R135, R159). -/
namespace Sys2Proof.Machine

/-! Operand bytes (R154). -/

theorem byteOf_toNat {n : Nat} (h : n < 256) : (byteOf n).toNat = n := by
  simpa [byteOf] using h

@[simp] theorem closureOf_byteOf (k : ClosureId) : closureOf (byteOf k.val) = some k := by
  have hk := k.isLt
  have value : (byteOf k.val).toNat = k.val := byteOf_toNat (by omega)
  simp [closureOf, value]

theorem closureOf_of_le {b : Byte} (h : 8 ≤ b.toNat) : closureOf b = none := dif_neg (by omega)

/-- The two bytes of a number read back as the number. -/
theorem word16_extract (v : BitVec 16) : word16 (v.extractLsb' 8 8) (v.extractLsb' 0 8) = v := by
  have joined : v.extractLsb' 8 8 ++ v.extractLsb' 0 8 = v.extractLsb' 0 16 :=
    BitVec.extractLsb'_append_extractLsb'_eq_extractLsb' rfl
  exact joined.trans BitVec.extractLsb'_eq_self

/-- An identifier below 0x20 or above 0x24 names no device setting (R154). -/
theorem deviceSettingOf_eq_none {id : Byte} (h : id.toNat < 0x20 ∨ 0x24 < id.toNat) : deviceSettingOf id = none := by
  have ne : ∀ n : Byte, 0x20 ≤ n.toNat → n.toNat ≤ 0x24 → id ≠ n := by
    rintro n lo hi rfl
    omega
  simp only [deviceSettingOf, ne 0x20 (by decide) (by decide), ne 0x21 (by decide) (by decide),
    ne 0x22 (by decide) (by decide), ne 0x23 (by decide) (by decide), ne 0x24 (by decide) (by decide), if_false]

theorem isFieldId_iff {id : Byte} : isFieldId id = true ↔ id.toNat ≤ 0x15 := decide_eq_true_iff

/-! The answers (R7, R20, R4, R108, R109). -/

theorem ClosureState.readiness_eq (c : ClosureState) : c.readiness =
    match c.counter.validity, c.profile.status with
    | .valid, .learned => .full
    | .valid, .unlearned => .limited
    | .lost, .learned => .blind
    | .lost, .unlearned => .blind := by
  unfold ClosureState.readiness
  cases c.counter.validity <;> cases c.profile.status <;> rfl

theorem seatByte_owner (m : Option Move) :
    seatByte (m.map (·.seat)) = match m with | some m => byteOf m.seat.val | none => 0xFF := by
  cases m <;> rfl

/-- The closure status body, item by item (R20). -/
theorem closureBody_eq (k : ClosureId) (c : ClosureState) (outOfRange : Bool) : closureBody k c outOfRange =
    [byteOf k.val] ++ beInt16 c.counter.position ++
      [byteOf c.counter.validity.code, byteOf c.readiness.code,
        byteOf ((if c.counter.overspeed then 1 else 0) + (if outOfRange then 2 else 0)
          + (if c.verdict.escape then 4 else 0)),
        byteOf c.verdict.reversals, byteOf c.ctx.state.code,
        match c.ctx.move with | some m => byteOf m.seat.val | none => 0xFF] ++
      be16 c.est.published ++ be16 c.verdict.lastThreshold := by
  simp only [closureBody, seatByte_owner]
  rfl

theorem State.answerReadClosure_of (s : State) (k : ClosureId) :
    s.answerReadClosure [byteOf k.val] = s.accept (closureBody k s.closures[k] s.front.outOfRange) := by
  simp only [State.answerReadClosure, closureOf_byteOf]

theorem State.answerReadClosure_badClosure (s : State) {b : Byte} (h : 8 ≤ b.toNat) :
    s.answerReadClosure [b] = s.refuse .badClosure := by
  simp only [State.answerReadClosure, closureOf_of_le h]

/-- Settles O22: the body is `closureBody`, item by item, and its command changes nothing else. -/
theorem readClosure : Obligations.ReadClosure := by
  refine ⟨ClosureState.readiness_eq, fun f s awake => ⟨fun k => ?_, fun b hb => ?_⟩⟩
  · refine congrArg Host.Outcome.next (State.seatCommand_answered awake ?_)
    rw [State.answerReadClosure_of, closureBody_eq]
    rfl
  · exact congrArg Host.Outcome.next (State.seatCommand_refused awake (State.answerReadClosure_badClosure _ hb))

theorem ne_slotStateId {id : Byte} (h : id.toNat ≤ 0x15) : id ≠ slotStateId := by
  rintro rfl
  exact absurd h (by decide)

/-- A reading of a closure field (R4). -/
theorem State.answerReadSetting_field (s : State) (k : ClosureId) {id : Byte} (h : id.toNat ≤ 0x15) :
    s.answerReadSetting [byteOf k.val, id] =
      s.accept (settingItems id ((s.closures[k].desc.read id.toNat).getD 0)) := by
  simp only [State.answerReadSetting, deviceSettingOf_eq_none (.inl (by omega : id.toNat < 0x20)), ne_slotStateId h,
    if_false, isFieldId_iff.mpr h, Bool.not_true, Bool.false_eq_true, closureOf_byteOf]

theorem State.answerReadSetting_badClosure (s : State) {b id : Byte} (h : id.toNat ≤ 0x15) (hb : 8 ≤ b.toNat) :
    s.answerReadSetting [b, id] = s.refuse .badClosure := by
  simp only [State.answerReadSetting, deviceSettingOf_eq_none (.inl (by omega : id.toNat < 0x20)), ne_slotStateId h,
    if_false, isFieldId_iff.mpr h, Bool.not_true, Bool.false_eq_true, closureOf_of_le hb]

theorem State.answerReadSetting_badArgument (s : State) (b : Byte) {id : Byte} (h : 0x15 < id.toNat)
    (device : id.toNat < 0x20 ∨ 0x24 < id.toNat) (slot : id ≠ 0x30) :
    s.answerReadSetting [b, id] = s.refuse .badArgument := by
  have notField : isFieldId id = false := by
    rw [Bool.eq_false_iff, Ne, isFieldId_iff]
    omega
  have notSlot : id ≠ slotStateId := slot
  simp only [State.answerReadSetting, deviceSettingOf_eq_none device, notSlot, if_false, notField, Bool.not_false, if_true]

/-- The items of the slot state, item by item (R109). -/
theorem slotStateItems_eq (a : Arbiter) : slotStateItems a =
    [byteOf a.effective, if a.derating then 1 else 0, if a.supplyState = .below then 1 else 0, maskOf a.held]
      ++ ((a.queue.map fun e : QueueEntry => byteOf e.closure.val) ++ List.replicate 8 0xFF).take 8
      ++ [if a.unparkPending then 1 else 0, byteOf a.unparkWait.code] := by
  have supply : byteOf a.supplyState.code = if a.supplyState = .below then 1 else 0 := by
    cases a.supplyState <;> rfl
  simp only [slotStateItems, supply]
  rfl

/-- Settles O25: each identifier's answer, the device settings and the slot state whatever the closure byte. -/
theorem readSettings : Obligations.ReadSettings := by
  intro f s awake
  refine ⟨fun k id v hid hv => ?_, fun b id hb hid => ?_, fun b id hid device slot => ?_, fun b => ?_⟩
  · refine congrArg Host.Outcome.next (State.seatCommand_answered awake ?_)
    rw [State.answerReadSetting_field _ _ hid, State.later_closures, hv]
    rfl
  · exact congrArg Host.Outcome.next (State.seatCommand_refused awake (State.answerReadSetting_badClosure _ hid hb))
  · refine congrArg Host.Outcome.next (State.seatCommand_refused awake ?_)
    exact State.answerReadSetting_badArgument _ _ hid device slot
  · refine ⟨?_, ?_, ?_, ?_, ?_, ?_⟩
    case refine_6 =>
      rw [← slotStateItems_eq]
      exact congrArg Host.Outcome.next (State.seatCommand_answered awake rfl)
    all_goals exact congrArg Host.Outcome.next (State.seatCommand_answered awake rfl)

/-! Expiries (R18, R127, R134, R135, R159). -/

theorem isDue_of_le {due now : Nat} (h : due ≤ now) : isDue (some due) now = true := decide_eq_true h

/-- An event of its own at an attentive part, whose effect at its time leaves the link alone. -/
theorem State.onEvent_eq {s t : State} {act : State → State} {dt : Nat} (h : s.Attentive) (ha : act (s.later dt) = t)
    (hl : t.link = s.link) : s.onEvent dt act = t := by
  subst ha
  exact State.onEvent_attentive h (by rw [hl]; exact h.2.2)

/-- With a queue that holds something, nothing urgent and less than the trigger level, a stale deadline that has come is
the cause (R134). -/
theorem SeatState.retest_stale {n : SeatState} {due now : Nat} (deadline : n.staleDeadline = some due) (h : due ≤ now)
    (calm : ∀ x ∈ n.queue, x.body.urgent = false) (low : n.queue.length < n.record.trigger) :
    n.retest now = { n with cause := .stale, line := true } := by
  have noUrgent : (n.queue.any fun x => x.body.urgent) = false := by simpa using calm
  have cause : n.causeAt now = .stale := by
    simp only [SeatState.causeAt, noUrgent, Nat.not_le.mpr low, deadline, h, if_true, if_false, Bool.false_eq_true]
  simp only [SeatState.retest, cause]
  rfl

theorem State.maySleep_eq_true_iff (s : State) : s.maySleep = true ↔ s.SleepConditions := by
  have closures : (allClosures.all fun k => decide (s.closures[k].ctx.state = .idle)) = true ↔
      ∀ k : ClosureId, s.closures[k].ctx.state = .idle := by
    rw [List.all_eq_true]
    refine ⟨fun h k => of_decide_eq_true (h k (by revert k; decide)), fun h k _ => decide_eq_true (h k)⟩
  have seats : (allSeats.all fun n => s.seats[n].queue.isEmpty) = true ↔ ∀ n : SeatId, s.seats[n].queue = [] := by
    rw [List.all_eq_true]
    refine ⟨fun h n => List.isEmpty_iff.mp (h n (by revert n; decide)), fun h n _ => List.isEmpty_iff.mpr (h n)⟩
  simp only [State.maySleep, Bool.and_eq_true, closures, seats, decide_eq_true_iff, Option.isNone_iff_eq_none, and_assoc]
  rfl

/-- A link-quiet timer that has come stops, and the part sleeps if every other condition of sleep holds (R159). -/
theorem exec_linkQuietExpiry {s : State} {dt due : Nat} (h : s.Attentive) (hd : due ≤ s.now + dt)
    (timer : s.link.quietTimer = some due) : exec (.linkQuietExpiry dt) s =
      .next ({ s.later dt with link := { s.link with quietTimer := none } } : State).sleepTest := by
  obtain ⟨powered, awake, -⟩ := h
  simp only [exec, execLinkQuietExpiry, State.onEvent, State.advance_powered, State.advance_asleepSince, powered, awake,
    State.advance_link, State.advance_now, timer, isDue_of_le hd, Option.isNone_none, Bool.and_self, if_true]
  rfl

/-- Settles O54: each expiry acts when its timer is due; the last puts the part to sleep exactly under R159. -/
theorem quietExpiries : Obligations.QuietExpiries := by
  refine ⟨fun dt due s h hd => ⟨fun k timer => ?_, fun window => ?_, fun n deadline _ calm low => ?_,
    fun timer permit => ?_⟩, fun dt due s h hd timer conditions => ?_⟩
  · refine congrArg Host.Outcome.next (State.onEvent_eq h ?_ rfl)
    simp only [State.later_closures, State.later_now, timer, isDue_of_le hd, if_true]
    rfl
  · refine congrArg Host.Outcome.next (State.onEvent_eq h ?_ rfl)
    simp only [State.later_window, State.later_now, window, isDue_of_le hd, if_true]
  · refine congrArg Host.Outcome.next (State.onEvent_eq h ?_ rfl)
    simp only [State.later_seats, State.later_now, deadline, isDue_of_le hd, if_true, State.modSeat,
      SeatState.retest_stale deadline hd calm low]
  · rw [exec_linkQuietExpiry h hd timer, State.sleepTest, if_neg]
    rw [Bool.and_eq_true, State.maySleep_eq_true_iff]
    rintro ⟨-, word, -⟩
    exact absurd (word.symm.trans permit) (by decide)
  · rw [exec_linkQuietExpiry h hd timer, State.sleepTest, if_pos]
    · rfl
    · rw [Bool.and_eq_true, State.maySleep_eq_true_iff]
      exact ⟨Option.isNone_iff_eq_none.mpr h.2.1, conditions⟩

end Sys2Proof.Machine
end

section
/-! PROOFS. R10: every position stays within its limits. Each operation of the model keeps `State.Limits`, said once for
each operation in the order of the model's files, so that a step keeps it. -/
namespace Sys2Proof.Machine

/-- A closure's position lies within its limits (R10). -/
abbrev ClosureState.Within (c : ClosureState) : Prop :=
  -64 ≤ c.counter.position ∧ c.counter.position ≤ c.desc.travel + 64

/-- The positions lie within their limits, and so do the stored ones that a cold start would take (R10, R21). -/
structure State.Limits (s : State) : Prop where
  within : s.PositionLaw
  stored : s.StoredPositionLaw

/-! Closures and state updates. -/

/-- What the limits need of a state is its closures and its store. -/
theorem State.Limits.congr {s t : State} (h : s.Limits) (hc : t.closures = s.closures) (hs : t.store = s.store) :
    t.Limits := by
  obtain ⟨hw, hst⟩ := h
  constructor
  · simpa only [State.PositionLaw, hc] using hw
  · simpa only [State.StoredPositionLaw, hs] using hst

/-- One closure updated, its position still within its limits. -/
theorem State.Limits.modClosure {s : State} (h : s.Limits) (k : ClosureId) (f : ClosureState → ClosureState)
    (hf : s.closures[k].Within → (f s.closures[k]).Within) : (s.modClosure k f).Limits := by
  refine ⟨fun j => ?_, h.stored⟩
  by_cases hj : j = k
  · subst hj
    simpa only [State.modClosure_self] using hf (h.within j)
  · simpa only [State.modClosure_other s f hj] using h.within j

theorem State.Limits.modCounter {s : State} (h : s.Limits) (k : ClosureId) (f : Counter → Counter)
    (hf : (f s.closures[k].counter).position = s.closures[k].counter.position) : (s.modCounter k f).Limits :=
  h.modClosure k _ fun g => by simpa only [ClosureState.Within, hf] using g

theorem State.Limits.modCtx {s : State} (h : s.Limits) (k : ClosureId) (f : Context → Context) :
    (s.modCtx k f).Limits := h.modClosure k _ id

theorem State.Limits.modVerdict {s : State} (h : s.Limits) (k : ClosureId) (f : Verdict → Verdict) :
    (s.modVerdict k f).Limits := h.modClosure k _ id

theorem State.Limits.modProfile {s : State} (h : s.Limits) (k : ClosureId) (f : Profile → Profile) :
    (s.modProfile k f).Limits := h.modClosure k _ id

theorem State.Limits.modArbiter {s : State} (h : s.Limits) (f : Arbiter → Arbiter) : (s.modArbiter f).Limits :=
  h.congr rfl rfl

theorem State.Limits.modSeat {s : State} (h : s.Limits) (n : SeatId) (f : SeatState → SeatState) :
    (s.modSeat n f).Limits := h.congr rfl rfl

theorem State.Limits.modLink {s : State} (h : s.Limits) (f : Link → Link) : (s.modLink f).Limits := h.congr rfl rfl

theorem State.Limits.postTo {s : State} (h : s.Limits) (p : SeatId → Bool) (b : NoticeBody) : (s.postTo p b).Limits :=
  h.congr rfl rfl

/-- Every closure updated, each position still within its limits. -/
theorem State.Limits.mapClosures {s : State} (h : s.Limits) (f : ClosureId → ClosureState → ClosureState)
    (hf : ∀ k c, c.Within → (f k c).Within) : (s.mapClosures f).Limits := by
  refine ⟨fun j => ?_, h.stored⟩
  simpa using hf j _ (h.within j)

/-- The store changes, and its stored positions keep their limit. -/
theorem State.Limits.withStore {s t : State} (h : s.Limits) (hc : t.closures = s.closures) (ht : t.StoredPositionLaw) :
    t.Limits := ⟨by simpa only [State.PositionLaw, hc] using h.within, ht⟩

/-- An invalid image with no commit in flight holds no stored position that a cold start would take. -/
theorem State.storedPositionLaw_of_invalid {s : State} (hv : s.store.image.valid = false)
    (hj : s.store.job = .idle ∨ s.store.job = .unparking) : s.StoredPositionLaw := by
  constructor
  · simp [hv]
  · rcases hj with hj | hj <;> simp [hj]

/-- An operation that keeps the limits keeps them over a list. -/
theorem State.Limits.foldl {α : Type} {s : State} (h : s.Limits) (f : State → α → State)
    (hf : ∀ t a, t.Limits → (f t a).Limits) (l : List α) : (l.foldl f s).Limits := by
  induction l generalizing s with
  | nil => exact h
  | cons a rest ih => exact ih (hf s a h)

theorem State.Limits.ite {s t : State} {p : Prop} [Decidable p] (hs : s.Limits) (ht : t.Limits) :
    (if p then s else t).Limits := by
  split
  · exact hs
  · exact ht

theorem ClosureState.limitPosition_within {c : ClosureState} (h : -64 ≤ c.counter.position) :
    c.limitPosition.Within := by
  unfold ClosureState.limitPosition
  split
  · simp only [ClosureState.Within, Description.highestPosition, Config.overTravel]
    omega
  · rename_i hle
    simp only [Description.highestPosition, Config.overTravel] at hle
    exact ⟨h, by omega⟩

theorem State.Limits.accept {s : State} (h : s.Limits) (items : List Byte) : (s.accept items).state.Limits := h

theorem State.Limits.refuse {s : State} (h : s.Limits) (r : Result) : (s.refuse r).state.Limits := h

theorem Answer.placed_limits {a : Answer} (h : a.state.Limits) (n : SeatId) (code : Byte) : (a.placed n code).Limits :=
  h.congr rfl rfl

/-! Motion. -/

theorem State.Limits.settle {s : State} (h : s.Limits) (k : ClosureId) (r : EndReason) (w : Option SeatId) :
    (s.settle k r w).Limits := (h.modClosure k (ClosureState.settle s.now r w) id).congr rfl rfl

theorem State.Limits.startUnparkWrite {s : State} (h : s.Limits) : s.startUnparkWrite.Limits :=
  h.withStore rfl (State.storedPositionLaw_of_invalid rfl (.inr rfl))

theorem State.Limits.askUnpark {s : State} (h : s.Limits) : s.askUnpark.Limits := by
  unfold State.askUnpark
  split
  · exact h.startUnparkWrite
  · exact h.modArbiter _
  all_goals exact h

/-- A grant leaves the position, or sets it to 0 for a NORMALISE move on a LOST position (R17, R92). -/
theorem ClosureState.grant_within {c : ClosureState} (h : c.Within) (now reading : Nat) (m : Move) :
    (c.grant now reading m).Within := by
  have hpos : (c.grant now reading m).counter.position = 0 ∨
      (c.grant now reading m).counter.position = c.counter.position := by
    simp only [ClosureState.grant]
    split <;> simp
  have hdesc : (c.grant now reading m).desc = c.desc := rfl
  unfold ClosureState.Within at *
  rw [hdesc]
  omega

theorem State.Limits.grant {s : State} (h : s.Limits) (k : ClosureId) : (s.grant k).Limits := by
  have taken : ((s.leaveQueue k).setSlot k true).Limits := h.congr rfl rfl
  unfold State.grant
  dsimp only
  split
  · exact taken
  · have granted := fun m => taken.modClosure k (ClosureState.grant s.now s.front.reading m)
      (fun g => ClosureState.grant_within g _ _ _)
    split
    · exact (granted _).settle _ _ _
    · exact (granted _).modClosure _ _ id

theorem State.Limits.grantLoop (fuel : Nat) {s : State} (h : s.Limits) : (s.grantLoop fuel).Limits := by
  induction fuel generalizing s with
  | zero => exact h
  | succ n ih =>
    unfold State.grantLoop
    split
    · exact h
    · split
      · split
        · exact h.askUnpark
        · split
          · exact ih (h.grant _)
          · exact h
      · exact h

theorem State.Limits.grantTest {s : State} (h : s.Limits) : s.grantTest.Limits := h.grantLoop _

theorem State.Limits.endMove {s : State} (h : s.Limits) (k : ClosureId) (r : EndReason) (w : Option SeatId) :
    (s.endMove k r w).Limits := (h.settle k r w).grantTest

theorem State.Limits.remove {s : State} (h : s.Limits) (k : ClosureId) (r : EndReason) (w : Option SeatId) :
    (s.remove k r w).Limits := by
  unfold State.remove
  dsimp only
  split
  · exact h
  · refine State.Limits.modClosure (State.Limits.postTo ?_ _ _) _ _ id
    exact State.Limits.modClosure (h.modArbiter _) _ _ id

theorem State.Limits.enqueue {s : State} (h : s.Limits) (k : ClosureId) (m : Move) : (s.enqueue k m).Limits :=
  (h.modCtx k fun _ => queuedContext s.now s.seats[m.seat].record.holdUnits m).congr rfl rfl

theorem State.Limits.dropFollowOn {s : State} (h : s.Limits) (k : ClosureId) (c : DropCause) :
    (s.dropFollowOn k c).Limits := by
  unfold State.dropFollowOn
  split
  · exact h
  · exact (h.modCtx k _).postTo _ _

theorem State.Limits.storeFollowOn {s : State} (h : s.Limits) (k : ClosureId) (m : Move) :
    (s.storeFollowOn k m).Limits := (h.dropFollowOn k .superseded).modCtx k _

/-- The profile memory's work at a settle end leaves description and position alone. -/
theorem ClosureState.profileAtEnd_within {c : ClosureState} (h : c.Within) (m : Move) (r : EndReason) (b : Byte) (t : Int) :
    (c.profileAtEnd m r b t).Within := by
  unfold ClosureState.profileAtEnd
  split
  · exact h
  · split
    · unfold ClosureState.adapt
      dsimp only
      split
      · exact h
      · exact h
    · exact h

theorem State.Limits.settleEnd {s : State} (h : s.Limits) (k : ClosureId) : (s.settleEnd k).Limits := by
  have learned := fun (f : ClosureState → Stats) m r => (h.modClosure k (fun x => { x with stats := f x }) id).modClosure k
    (fun x => x.profileAtEnd m r s.roughness s.front.temperature) (fun g => ClosureState.profileAtEnd_within g _ _ _ _)
  have posted := fun f m r p b o => ((learned f m r).postTo p b).modClosure k (fun x => { x with lastOutcome := o }) id
  unfold State.settleEnd
  dsimp only
  split
  · split
    · exact (posted _ _ _ _ _ _).modClosure _ _ id
    · exact ((posted _ _ _ _ _ _).enqueue _ _).grantTest
    · exact ((posted _ _ _ _ _ _).postTo _ _).modClosure _ _ id
  · exact h

theorem State.Limits.losePosition {s : State} (h : s.Limits) (k : ClosureId) : (s.losePosition k).Limits := by
  have lost : (s.modCounter k fun x => { x with validity := .lost }).Limits := h.modCounter k _ rfl
  unfold State.losePosition
  dsimp only
  split
  · exact h
  · split
    · exact lost
    · split
      · split
        · exact lost.endMove _ _ _
        · exact lost.endMove _ _ _
        · exact lost.remove _ _ _
        · exact lost
        · exact lost
      · exact lost

theorem State.Limits.recordAt {s : State} (h : s.Limits) (k : ClosureId) (c : VerdictCause) (p : Int) (l t : Nat) :
    (s.recordAt k c p l t).1.Limits := by
  unfold State.recordAt
  split
  · exact h
  · exact h.congr rfl rfl

theorem State.Limits.startReversal {s : State} (h : s.Limits) (k : ClosureId) (m : Move) (r : VerdictRecord) :
    (s.startReversal k m r).Limits := ((h.modClosure k _ id).postTo _ _).modClosure k _ id

theorem State.Limits.loadVerdict {s : State} (h : s.Limits) (k : ClosureId) (p : Int) (l t : Nat) :
    (s.loadVerdict k p l t).Limits := by
  have recorded := h.recordAt k .load p l t
  unfold State.loadVerdict
  dsimp only
  split
  · exact h.endMove _ _ _
  · split
    · exact recorded.startReversal _ _ _
    · exact (recorded.modClosure _ _ id).endMove _ _ _
  · exact h

theorem State.Limits.judgeStep {s : State} (h : s.Limits) (k : ClosureId) (d : Direction) (path : Path) (p : Int)
    (l : Nat) : (s.judgeStep k d path p l).Limits := by
  unfold State.judgeStep
  dsimp only
  split
  · split
    · split
      · exact ((h.modVerdict _ _).modVerdict _ _).loadVerdict _ _ _ _
      · exact (h.modVerdict _ _).modVerdict _ _
    · exact (h.modVerdict _ _).modVerdict _ _
  · exact h.modVerdict _ _

theorem State.Limits.stepCompleted {s : State} (h : s.Limits) (k : ClosureId) (d : Direction) (p : Nat) :
    (s.stepCompleted k d p).Limits := by
  have reopened := h.modClosure k (fun x => { x with sense := x.sense.open_ }) id
  unfold State.stepCompleted
  dsimp only
  split
  · split
    · exact (reopened.modClosure _ _ id).modClosure _ _ id
    · exact ((reopened.modClosure _ _ id).modClosure _ _ id).judgeStep _ _ _ _ _
  · exact reopened

/-- A closed-end stall sets the position to 0 (R69). -/
theorem ClosureState.closedEnd_within (kind : Kind) (c : ClosureState) : (c.closedEnd kind).Within := by
  have hpos : (c.closedEnd kind).counter.position = 0 := by
    unfold ClosureState.closedEnd
    dsimp only
    split <;> rfl
  unfold ClosureState.Within
  omega

theorem State.Limits.closedEndStall {s : State} (h : s.Limits) (k : ClosureId) (m : Move) :
    (s.closedEndStall k m).Limits := (h.modClosure k _ fun _ => ClosureState.closedEnd_within _ _).endMove _ _ _

theorem State.Limits.stallVerdict {s : State} (h : s.Limits) (k : ClosureId) (m : Move) : (s.stallVerdict k m).Limits :=
  (h.recordAt _ _ _ _ _).startReversal _ _ _

theorem State.Limits.classifyStall {s : State} (h : s.Limits) (k : ClosureId) : (s.classifyStall k).Limits := by
  unfold State.classifyStall
  dsimp only
  split
  · split
    · split
      · exact h.closedEndStall _ _
      · exact h.stallVerdict _ _
    · exact h.endMove _ _ _
  · split
    · exact h.endMove _ _ _
    · exact h
  · exact h

/-! Travel events. -/

theorem ClosureState.restartStall_within {c : ClosureState} (h : c.Within) (now : Nat) : (c.restartStall now).Within := by
  unfold ClosureState.restartStall
  split <;> exact h

theorem ClosureState.restartQuiet_within {c : ClosureState} (h : c.Within) (now : Nat) : (c.restartQuiet now).Within := by
  unfold ClosureState.restartQuiet
  split <;> exact h

theorem State.Limits.refuseEdge {s : State} (h : s.Limits) (k : ClosureId) : (s.refuseEdge k).Limits :=
  (h.losePosition k).modClosure k _ fun g =>
    ClosureState.restartQuiet_within (ClosureState.restartStall_within g _) _

/-- A pulse that no limit refuses keeps the position within its limits (R8, R10). -/
theorem ClosureState.countPulse_within {c : ClosureState} {d : Direction} (h : c.Within) (hd : c.atLimit d = false) :
    (c.countPulse d).Within := by
  have hdesc : (c.countPulse d).desc = c.desc := by
    unfold ClosureState.countPulse
    dsimp only
    split <;> rfl
  have hpos : (c.countPulse d).counter.position = pulsed c.counter.position d := rfl
  unfold ClosureState.Within at *
  rw [hdesc, hpos]
  cases d with
  | closing =>
    have above : -64 < c.counter.position := not_le.mp (of_decide_eq_false hd)
    simp only [pulsed]
    omega
  | opening =>
    have below : c.counter.position < c.desc.travel + 64 := not_le.mp (of_decide_eq_false hd)
    simp only [pulsed]
    omega

theorem State.Limits.directionFault {s : State} (h : s.Limits) (k : ClosureId) : (s.directionFault k).Limits := by
  have lost := h.modCounter k (fun x => { x with validity := .lost, dirFaultRun := 0 }) rfl
  unfold State.directionFault
  dsimp only
  split
  · exact lost.endMove _ _ _
  · exact lost.endMove _ _ _
  all_goals exact lost

theorem State.Limits.superviseDirection {s : State} (h : s.Limits) (k : ClosureId) (d : Direction) :
    (s.superviseDirection k d).Limits := by
  have supervised := fun run => h.modClosure k (fun x => { x.restartStall s.now with
    counter := { (x.restartStall s.now).counter with dirFaultRun := run } })
    (fun g => ClosureState.restartStall_within g _)
  unfold State.superviseDirection
  dsimp only
  split
  · exact (supervised _).directionFault _
  · exact supervised _

theorem State.Limits.stepLogic {s : State} (h : s.Limits) (k : ClosureId) (d : Direction) : (s.stepLogic k d).Limits := by
  have taken := h.modCounter k (fun x => { x with stepRecord := some { time := s.now, dir := d } }) rfl
  unfold State.stepLogic
  dsimp only
  split
  · split
    · exact (taken.modCounter _ _ rfl).stepCompleted _ _ _
    · exact taken.modClosure _ _ id
  · exact taken.modClosure _ _ id

theorem State.Limits.movedUndriven {s : State} (h : s.Limits) (k : ClosureId) : (s.movedUndriven k).Limits := by
  unfold State.movedUndriven
  dsimp only
  split
  · exact (h.postTo _ _).askUnpark
  · exact h.postTo _ _

theorem State.Limits.undrivenPulse {s : State} (h : s.Limits) (k : ClosureId) : (s.undrivenPulse k).Limits := by
  have counted := h.modCounter k (fun x =>
    { x with burst := min Config.runLength (x.burst + 1), undrivenTimer := some (s.now + Config.undrivenQuiet) }) rfl
  unfold State.undrivenPulse
  dsimp only
  split
  · split
    · exact counted.congr rfl rfl
    · exact counted.movedUndriven _
  · exact counted

theorem State.Limits.reportPulse {s : State} (h : s.Limits) (k : ClosureId) : (s.reportPulse k).Limits := by
  unfold State.reportPulse
  dsimp only
  split
  · exact h.modClosure _ _ fun g => ClosureState.restartQuiet_within g _
  · split
    · exact h.endMove _ _ _
    · exact h
  · split
    · exact h.endMove _ _ _
    · exact h
  · exact h

theorem State.Limits.takePulse {s : State} (h : s.Limits) (k : ClosureId) (d : Direction) (rising : Bool)
    (hd : s.closures[k].atLimit d = false) : (s.takePulse k d rising).Limits := by
  have counted := (h.modClosure k _ fun g => ClosureState.countPulse_within g hd).superviseDirection k d
  have stepped := (counted.stepLogic k d).ite (p := rising) counted
  exact ((stepped.undrivenPulse k).ite stepped).reportPulse k

theorem Counter.toggle_position (x : Counter) (ph : Phase) : (x.toggle ph).position = x.position := by
  cases ph <;> rfl

theorem State.Limits.hallEdge {s : State} (h : s.Limits) (k : ClosureId) (ph : Phase) : (s.hallEdge k ph).Limits := by
  have sampled := h.modCounter k (fun x => x.toggle ph) (Counter.toggle_position _ _)
  unfold State.hallEdge
  dsimp only
  split
  · exact sampled.refuseEdge _
  · rename_i hd
    refine sampled.takePulse _ _ _ ?_
    cases ph <;> simpa [ClosureState.atLimit, Counter.toggle] using hd

theorem State.Limits.moveFault {s : State} (h : s.Limits) (k : ClosureId) : (s.moveFault k).Limits := by
  have counted := h.modCounter k (fun x => { x with phaseFaults := min Config.faultLimit (x.phaseFaults + 1) }) rfl
  have lost := counted.modCounter k (fun x => { x with validity := .lost }) rfl
  unfold State.moveFault
  dsimp only
  split
  · split
    · exact lost.endMove _ _ _
    · exact lost.endMove _ _ _
    all_goals exact lost
  · exact counted

theorem State.Limits.phaseFault {s : State} (h : s.Limits) (k : ClosureId) : (s.phaseFault k).Limits := by
  have emptied := h.modClosure k ClosureState.emptyStep id
  unfold State.phaseFault
  dsimp only
  split
  case h_1 | h_2 | h_3 => exact emptied.moveFault _
  case h_4 | h_5 => exact emptied.losePosition _

theorem State.Limits.endBrake {s : State} (h : s.Limits) (k : ClosureId) : (s.endBrake k).Limits := by
  unfold State.endBrake
  dsimp only
  split
  · exact h.endMove _ _ _
  · exact (h.modVerdict _ _).modClosure _ _ id

/-! Motion commands. -/

theorem State.Limits.replaceQueued {s : State} (h : s.Limits) (k : ClosureId) (m : Move) : (s.replaceQueued k m).Limits := by
  have replaced := h.modCtx k (Context.replace s.now s.seats[m.seat].record.holdUnits m)
  have placed : ((s.modCtx k (Context.replace s.now s.seats[m.seat].record.holdUnits m)).replaceInQueue k).Limits := by
    unfold State.replaceInQueue
    split
    · exact (replaced.modArbiter _).modArbiter _
    · exact replaced
  exact (placed.remove _ _ _).ite placed

/-- What a taken request leaves, if it is taken, is within the limits. -/
def Submitted.Limits : Submitted → Prop
  | .refused _ => True
  | .taken t _ _ => t.Limits

theorem State.Limits.takeMove {s : State} (h : s.Limits) (k : ClosureId) (m : Move) : (s.takeMove k m).Limits := by
  unfold State.takeMove
  split
  · trivial
  · exact (h.enqueue _ _).grantTest
  · exact h.replaceQueued _ _
  · exact ((h.remove _ _ _).enqueue _ _).grantTest
  · exact ((h.modCtx _ _).endMove _ _ _).ite (h.modCtx _ _)
  · exact (h.endMove _ _ _).storeFollowOn _ _
  · exact h.storeFollowOn _ _

theorem State.Limits.submit {s : State} (h : s.Limits) (k : ClosureId) (m : Move) : (s.submit k m).Limits := by
  unfold State.submit
  dsimp only
  split
  · trivial
  · exact h.takeMove _ _

theorem State.Limits.moveCommand {s : State} (h : s.Limits) (n : SeatId) (k kind dir origin : Byte)
    (target : Option Int) : (s.moveCommand n k kind dir origin target).state.Limits := by
  unfold State.moveCommand
  split
  · exact h
  · rename_i j _
    split
    · exact h
    · rename_i m _
      have submitted := h.submit j m
      split
      · exact h
      · rename_i taken
        rw [taken] at submitted
        exact submitted

theorem State.Limits.answerMove {s : State} (h : s.Limits) (n : SeatId) (args : List Byte) :
    (s.answerMove n args).state.Limits := by
  unfold State.answerMove
  split
  · exact h.moveCommand _ _ _ _ _ _
  · exact h.moveCommand _ _ _ _ _ _
  · exact h

theorem State.Limits.answerRenew {s : State} (h : s.Limits) (n : SeatId) (args : List Byte) :
    (s.answerRenew n args).state.Limits := by
  unfold State.answerRenew
  split
  · split
    · exact h
    · split
      · exact (h.modCtx _ _).accept _
      · exact h
  · exact h

theorem State.Limits.halt {s : State} (h : s.Limits) (k : ClosureId) (r : EndReason) (c : DropCause) (n : SeatId) :
    (s.halt k r c n).Limits := by
  unfold State.halt
  split
  · exact h.endMove _ _ _
  · exact (h.endMove _ _ _).dropFollowOn _ _
  · exact h.remove _ _ _
  · exact h.dropFollowOn _ _
  · exact h

theorem State.Limits.answerStop {s : State} (h : s.Limits) (n : SeatId) (args : List Byte) :
    (s.answerStop n args).state.Limits := by
  unfold State.answerStop
  split
  · split
    · exact h
    · split
      · exact h.halt _ _ _ _
      · exact h
  · exact h

theorem State.Limits.answerClear {s : State} (h : s.Limits) (n : SeatId) (args : List Byte) :
    (s.answerClear n args).state.Limits := by
  unfold State.answerClear
  split
  · split
    · exact h
    · split
      · refine State.Limits.accept (State.Limits.modCounter ?_ _ _ rfl) _
        exact (h.halt _ _ _ _).modClosure _ _ id
      · exact h
  · exact h

theorem State.Limits.allStop {s : State} (h : s.Limits) (who : Option SeatId) : (s.allStop who).Limits := by
  have removed := h.foldl
    (fun t k => if t.closures[k].ctx.state = .queued then t.remove k .allStopped who else t)
    (fun _ _ g => (g.remove _ _ _).ite g) allClosures
  exact (removed.foldl (fun t k => t.endMove k .allStopped who) (fun _ _ g => g.endMove _ _ _) _).mapClosures _
    fun _ _ g => g

theorem State.Limits.answerAllStop {s : State} (h : s.Limits) (n : SeatId) (args : List Byte) :
    (s.answerAllStop n args).state.Limits := by
  unfold State.answerAllStop
  split
  · exact h.allStop _
  · exact h

theorem State.Limits.broadcastAllStop {s : State} (h : s.Limits) (args : List Byte) :
    (s.broadcastAllStop args).Limits := by
  unfold State.broadcastAllStop
  split
  · exact h.allStop _
  · exact h

theorem State.Limits.clearQueue {s : State} (h : s.Limits) (ask : Move) (l : List ClosureId) :
    (s.clearQueue ask l).Limits := h.foldl _ (fun _ _ g => g.modArbiter _) _

theorem GlobalRun.take_limits (ask : Move) (asked : List ClosureId) {x : GlobalRun} (h : x.state.Limits) (k : ClosureId) :
    (x.take ask asked k).state.Limits := by
  unfold GlobalRun.take
  dsimp only
  have submitted := ((h.clearQueue ask (asked.filter (k < ·))).ite (p := x.state.releasesSlot k ask) h).submit k ask
  split
  · exact h
  · rename_i taken
    rw [taken] at submitted
    exact submitted

theorem GlobalRun.foldl_take_limits (ask : Move) (asked l : List ClosureId) {x : GlobalRun} (h : x.state.Limits) :
    (l.foldl (GlobalRun.take ask asked) x).state.Limits := by
  induction l generalizing x with
  | nil => exact h
  | cons k rest ih => exact ih (GlobalRun.take_limits ask asked h k)

theorem State.Limits.answerGlobal {s : State} (h : s.Limits) (n : SeatId) (args : List Byte) :
    (s.answerGlobal n args).state.Limits := by
  unfold State.answerGlobal
  split
  · split
    · split
      · exact h
      · split
        · exact GlobalRun.foldl_take_limits _ _ _ h
        · exact h
    · exact h
  · exact h

/-! The other commands. -/

section
variable (s : State) (n : SeatId) (args : List Byte)

@[simp] theorem State.answerReadClosure_state : (s.answerReadClosure args).state = s := by
  unfold State.answerReadClosure
  split
  · split <;> rfl
  · rfl

@[simp] theorem State.answerReadOutcome_state : (s.answerReadOutcome args).state = s := by
  unfold State.answerReadOutcome
  split
  · split
    · rfl
    · split <;> rfl
  · rfl

@[simp] theorem State.answerReadStats_state : (s.answerReadStats args).state = s := by
  unfold State.answerReadStats
  split
  · split <;> rfl
  · rfl

@[simp] theorem State.answerReadProfile_state : (s.answerReadProfile args).state = s := by
  unfold State.answerReadProfile
  split
  · split
    · rfl
    · split <;> rfl
  · rfl

@[simp] theorem State.answerReadSetting_state : (s.answerReadSetting args).state = s := by
  unfold State.answerReadSetting
  split
  · split
    · rfl
    · split
      · rfl
      · split
        · rfl
        · split <;> rfl
  · rfl

@[simp] theorem State.answerReadSeatRecord_state : (s.answerReadSeatRecord args).state = s := by
  unfold State.answerReadSeatRecord
  split
  · split <;> rfl
  · rfl

@[simp] theorem State.answerReadWords_state : (s.answerReadWords args).state = s := by
  unfold State.answerReadWords
  split <;> rfl

end

theorem State.Limits.answerClearStats {s : State} (h : s.Limits) (n : SeatId) (args : List Byte) :
    (s.answerClearStats n args).state.Limits := by
  unfold State.answerClearStats
  split
  · split
    · exact h
    · split
      · exact State.Limits.accept (h.modClosure _ _ id) _
      · exact h
  · exact h

theorem State.Limits.answerWriteProfileZone {s : State} (h : s.Limits) (n : SeatId) (args : List Byte) :
    (s.answerWriteProfileZone n args).state.Limits := by
  unfold State.answerWriteProfileZone
  split
  · split
    · exact h
    · split
      · exact h
      · split
        · split
          · exact State.Limits.accept (h.modProfile _ _) _
          · exact h
        · exact h
  · exact h

theorem State.Limits.answerMarkLearned {s : State} (h : s.Limits) (n : SeatId) (args : List Byte) :
    (s.answerMarkLearned n args).state.Limits := by
  unfold State.answerMarkLearned
  split
  · split
    · exact h
    · split
      · exact h.modProfile _ _
      · exact h
  · exact h

/-- One write does not change both the class and the travel (R2, R3). -/
theorem Description.write_cls_or_travel {d e : Description} {id v : Nat} (h : d.write id v = some e) :
    e.cls = d.cls ∨ e.travel = d.travel := by
  unfold Description.write at h
  split at h
  case h_1 =>
    obtain ⟨x, -, rfl⟩ := Option.map_eq_some_iff.mp h
    right
    split <;> rfl
  case h_2 | h_6 | h_22 =>
    obtain ⟨x, -, rfl⟩ := Option.map_eq_some_iff.mp h
    exact .inl rfl
  case h_23 => exact nomatch h
  case h_3 | h_4 | h_15 =>
    obtain rfl := Option.some.inj h
    left
    split <;> rfl
  all_goals
    obtain rfl := Option.some.inj h
    exact .inl rfl

/-- The adjustments of a description write keep the position within the limits of the new travel (R3). -/
theorem ClosureState.adjustAfterWrite_within {c : ClosureState} {e : Description} (h : c.Within)
    (he : e.cls = c.desc.cls ∨ e.travel = c.desc.travel) :
    (ClosureState.adjustAfterWrite c.desc { c with desc := e }).Within := by
  unfold ClosureState.adjustAfterWrite
  dsimp only
  by_cases ht : e.travel = c.desc.travel
  · have kept : ({ c with desc := e } : ClosureState).Within := by
      simpa only [ClosureState.Within, ht] using h
    split
    · exact kept
    · rw [if_neg (not_not.mpr ht)]
      split <;> exact kept
  · rw [if_neg (not_not.mpr (he.resolve_right ht)), if_pos ht]
    exact ClosureState.limitPosition_within h.1

theorem State.Limits.writeDescription {s : State} (h : s.Limits) (k : ClosureId) {e : Description}
    (he : e.cls = s.closures[k].desc.cls ∨ e.travel = s.closures[k].desc.travel) : (s.writeDescription k e).Limits := by
  have written := h.modClosure k (fun c => ClosureState.adjustAfterWrite s.closures[k].desc { c with desc := e })
    fun g => ClosureState.adjustAfterWrite_within g he
  exact (written.losePosition k).ite written

theorem State.Limits.writeField {s : State} (h : s.Limits) (n : SeatId) (k id : Byte) (v : Nat) :
    (s.writeField n k id v).state.Limits := by
  unfold State.writeField
  split
  · exact h
  · split
    · exact h
    · split
      · exact h
      · split
        · exact h
        · rename_i written
          split
          · exact h
          · exact (h.writeDescription _ (Description.write_cls_or_travel written)).accept _

theorem State.Limits.writeSupplySetting {s : State} (h : s.Limits) (n : SeatId) (x : SupplySetting) (v : Nat) :
    (s.writeSupplySetting n x v).state.Limits := by
  unfold State.writeSupplySetting
  split
  · exact h
  · split
    · exact h
    · exact h.congr (t := State.mk ..) rfl rfl

theorem State.Limits.writeRetention {s : State} (h : s.Limits) (n : SeatId) (v : Nat) :
    (s.writeRetention n v).state.Limits := by
  unfold State.writeRetention
  split
  · exact h
  · exact h.congr (t := State.mk ..) rfl rfl

theorem State.Limits.answerWriteSetting {s : State} (h : s.Limits) (n : SeatId) (args : List Byte) :
    (s.answerWriteSetting n args).state.Limits := by
  unfold State.answerWriteSetting
  split
  · split
    · exact h.writeSupplySetting _ _ _
    · exact h.writeRetention _ _
    · exact h.writeField _ _ _ _
  · exact h

theorem State.Limits.answerWriteSeatRecord {s : State} (h : s.Limits) (n : SeatId) (args : List Byte) :
    (s.answerWriteSeatRecord n args).state.Limits := by
  unfold State.answerWriteSeatRecord
  split
  · split
    · exact h
    · split
      · exact State.Limits.accept (h.modSeat _ _) _
      · exact h
  · exact h

theorem State.Limits.answerTakeNotice {s : State} (h : s.Limits) (n : SeatId) (args : List Byte) :
    (s.answerTakeNotice n args).state.Limits := by
  unfold State.answerTakeNotice
  split
  · split
    · exact h
    · exact State.Limits.accept (h.modSeat _ _) _
  · exact h

theorem State.Limits.answerReadSeatStatus {s : State} (h : s.Limits) (n : SeatId) (args : List Byte) :
    (s.answerReadSeatStatus n args).state.Limits := by
  unfold State.answerReadSeatStatus
  split
  · exact State.Limits.accept (h.modSeat _ _) _
  · exact h

theorem State.Limits.lockOut {s : State} (h : s.Limits) (added : Byte) : (s.lockOut added).Limits := by
  have removed := h.foldl
    (fun t k => if t.closures[k].ctx.isLocal .queued then t.remove k .lockedOut none else t)
    (fun _ _ g => (g.remove _ _ _).ite g) (allClosures.filter fun k => hasMember added k.val)
  exact removed.foldl (fun t k => t.endMove k .lockedOut none) (fun _ _ g => g.endMove _ _ _) _

theorem State.Limits.wordChanged {s : State} (h : s.Limits) (w : Fin 6) (old new : Byte) :
    (s.wordChanged w old new).Limits := by
  unfold State.wordChanged
  split
  · exact h.lockOut _
  · exact State.Limits.ite (.ite h (h.congr rfl rfl)) (.ite (h.congr rfl rfl) h)
  · exact h.ite (h.congr rfl rfl)
  all_goals exact h

theorem State.Limits.takeWord {s : State} (h : s.Limits) (w : Fin 6) (v : Byte) : (s.takeWord w v).state.Limits := by
  have written : ({ s with words := s.words.set w (reduceWord w v) } : State).Limits := h.congr rfl rfl
  exact (written.ite (written.wordChanged _ _ _)).accept _

theorem State.Limits.wordCommand {s : State} (h : s.Limits) (n : SeatId) (w : Byte) {act : Fin 6 → Answer}
    (ha : ∀ x, (act x).state.Limits) : (s.wordCommand n w act).state.Limits := by
  unfold State.wordCommand
  split
  · exact h
  · split
    · exact ha _
    · exact h

theorem State.Limits.answerWriteWord {s : State} (h : s.Limits) (n : SeatId) (args : List Byte) :
    (s.answerWriteWord n args).state.Limits := by
  unfold State.answerWriteWord
  split
  · exact h.wordCommand _ _ fun _ => h.takeWord _ _
  · exact h

theorem State.Limits.answerSetBits {s : State} (h : s.Limits) (n : SeatId) (args : List Byte) :
    (s.answerSetBits n args).state.Limits := by
  unfold State.answerSetBits
  split
  · exact h.wordCommand _ _ fun _ => h.takeWord _ _
  · exact h

theorem State.Limits.answerClearBits {s : State} (h : s.Limits) (n : SeatId) (args : List Byte) :
    (s.answerClearBits n args).state.Limits := by
  unfold State.answerClearBits
  split
  · exact h.wordCommand _ _ fun _ => h.takeWord _ _
  · exact h

theorem State.Limits.answerCompareAndWrite {s : State} (h : s.Limits) (n : SeatId) (args : List Byte) :
    (s.answerCompareAndWrite n args).state.Limits := by
  unfold State.answerCompareAndWrite
  split
  · refine h.wordCommand _ _ fun _ => ?_
    split
    · exact h.takeWord _ _
    · exact h
  · exact h

/-! The store. -/

/-- A parking commit captures the working positions, which are within their limits (R156). -/
theorem State.Limits.acceptCommit {s : State} (h : s.Limits) (n : SeatId) (park : Bool) : (s.acceptCommit n park).Limits := by
  have marked := h.mapClosures (fun _ c => { c with profile := { c.profile with capture := true } }) fun _ _ g => g
  refine marked.withStore rfl ⟨h.stored.1, ?_⟩
  cases park with
  | false => trivial
  | true =>
    intro k
    simpa [State.acceptCommit, State.capture] using (h.within k).1

theorem State.Limits.answerCommit {s : State} (h : s.Limits) (n : SeatId) (args : List Byte) :
    (s.answerCommit n args).state.Limits := by
  unfold State.answerCommit
  split
  · split
    · exact h
    · split
      · exact h
      · split
        · exact h
        · split
          · exact h
          · exact (h.acceptCommit _ _).accept _
  · exact h

theorem State.Limits.commitEnded {s : State} (h : s.Limits) : s.commitEnded.Limits := by
  unfold State.commitEnded
  split
  · split
    · exact h.startUnparkWrite
    · exact (h.modArbiter _).grantTest
  all_goals exact h

/-- The positions that a completed commit leaves in the image are those that it captured, if it parked (R157). -/
theorem State.Limits.completeCommit {s : State} (h : s.Limits) {n : SeatId} {park : Bool} {captured : Image}
    (hj : s.store.job = .committing n park captured) : (s.completeCommit n park captured).Limits := by
  have clean := (h.postTo (fun x => decide (x = n)) (.storeDone (commitOp park))).mapClosures
    (fun _ c => { c with profile := c.profile.retained }) fun _ _ g => g
  refine State.Limits.commitEnded (clean.withStore rfl ⟨fun _ hp k => ?_, trivial⟩)
  cases park with
  | false => exact nomatch hp
  | true =>
    have stored := h.stored.2
    simp only [hj] at stored
    exact stored k

theorem State.Limits.failCommit {s : State} (h : s.Limits) (n : SeatId) (park : Bool) : (s.failCommit n park).Limits := by
  have unmarked := (h.postTo (fun x => decide (x = n)) (.storeFailed (commitOp park))).mapClosures
    (fun _ c => { c with profile := { c.profile with capture := false } }) fun _ _ g => g
  refine State.Limits.commitEnded (unmarked.withStore rfl ?_)
  exact State.storedPositionLaw_of_invalid rfl (.inl rfl)

/-- An unpark write ends with the parked marker clear or the image-valid marker clear (R158). -/
theorem State.Limits.endUnpark {s : State} (h : s.Limits) (b : NoticeBody) {image : Image}
    (hi : image.valid = false ∨ image.parked = false) : (s.endUnpark b image).Limits := by
  have posted := h.postTo (fun n => s.seats[n].record.grants .commit) b
  refine State.Limits.grantTest (posted.withStore rfl ⟨fun hv hp => ?_, trivial⟩)
  rcases hi with hi | hi
  · exact absurd (hv.symm.trans hi) (by decide)
  · exact absurd (hp.symm.trans hi) (by decide)

/-! The front end. -/

theorem State.Limits.testDerating {s : State} (h : s.Limits) : s.testDerating.Limits :=
  State.Limits.ite (.ite (h.modArbiter _).grantTest h) (.ite (h.modArbiter _) h)

theorem State.Limits.postSupply {s : State} (h : s.Limits) (due : DueNotice) (b : NoticeBody) :
    (s.postSupply due b).Limits := State.Limits.ite (h.congr rfl rfl) (h.postTo _ _)

theorem State.Limits.endClosings {s : State} (h : s.Limits) : s.endClosings.Limits := by
  have removed := h.foldl
    (fun t k => if t.closures[k].ctx.closes .queued then t.remove k .supplyLow none else t)
    (fun _ _ g => (g.remove _ _ _).ite g) allClosures
  exact removed.foldl (fun t k => t.endMove k .supplyLow none) (fun _ _ g => g.endMove _ _ _) _

theorem State.Limits.testSupply {s : State} (h : s.Limits) : s.testSupply.Limits := by
  have below := h.modArbiter fun a => { a with supplyState := .below }
  unfold State.testSupply
  split
  · split
    · exact h
    · exact (below.ite ((below.postSupply _ _).modArbiter _)).endClosings
  · exact h.modArbiter _

theorem State.Limits.testRecovery {s : State} (h : s.Limits) : s.testRecovery.Limits :=
  State.Limits.ite ((h.postSupply _ _).modArbiter _) h

/-! Frames, events and power. -/

theorem State.Limits.advance {s : State} (h : s.Limits) (dt : Nat) : (s.advance dt).Limits := h.congr rfl rfl

theorem State.Limits.sleepTest {s : State} (h : s.Limits) : s.sleepTest.Limits := State.Limits.ite (h.congr rfl rfl) h

theorem State.Limits.wake {s : State} (h : s.Limits) : s.wake.Limits := by
  unfold State.wake
  split
  · exact h
  · rename_i since _
    exact (h.mapClosures (fun _ c => c.wake (s.now - since)) fun _ _ g => g).congr rfl rfl

theorem State.Limits.onEvent {s : State} (h : s.Limits) (dt : Nat) {act : State → State}
    (ha : ∀ t : State, t.Limits → (act t).Limits) : (s.onEvent dt act).Limits :=
  State.Limits.ite (ha _ (h.advance dt)).sleepTest (h.advance dt)

theorem State.Limits.frameError {s : State} (h : s.Limits) (target : Target) (bytes : List Byte) :
    (s.frameError target bytes).Limits := by
  unfold State.frameError
  split
  · exact h.modSeat _ _
  · exact h

/-- The effect of a frame, whatever command it spells, keeps the limits. -/
theorem State.Limits.frameEffect {s : State} (h : s.Limits) (c : Instr) : (s.frameEffect c).Limits := by
  unfold State.frameEffect
  split
  · exact Answer.placed_limits (h.answerMove _ _) _ _
  · exact Answer.placed_limits (h.answerRenew _ _) _ _
  · exact Answer.placed_limits (h.answerStop _ _) _ _
  · exact Answer.placed_limits (h.answerGlobal _ _) _ _
  · exact Answer.placed_limits (h.answerClear _ _) _ _
  · exact Answer.placed_limits (h.answerAllStop _ _) _ _
  · exact h.broadcastAllStop _
  · exact Answer.placed_limits (by simpa using h) _ _
  · exact Answer.placed_limits (by simpa using h) _ _
  · exact Answer.placed_limits (by simpa using h) _ _
  · exact Answer.placed_limits (h.answerClearStats _ _) _ _
  · exact Answer.placed_limits (by simpa using h) _ _
  · exact Answer.placed_limits (h.answerWriteProfileZone _ _) _ _
  · exact Answer.placed_limits (h.answerMarkLearned _ _) _ _
  · exact Answer.placed_limits (by simpa using h) _ _
  · exact Answer.placed_limits h _ _
  · exact Answer.placed_limits h _ _
  · exact Answer.placed_limits (h.answerWriteSetting _ _) _ _
  · exact Answer.placed_limits (h.writeSupplySetting _ _ _) _ _
  · exact Answer.placed_limits (h.writeRetention _ _) _ _
  · exact Answer.placed_limits (by simpa using h) _ _
  · exact Answer.placed_limits (h.answerWriteSeatRecord _ _) _ _
  · exact Answer.placed_limits (by simpa using h) _ _
  · exact Answer.placed_limits (h.answerWriteWord _ _) _ _
  · exact Answer.placed_limits (h.answerSetBits _ _) _ _
  · exact Answer.placed_limits (h.answerClearBits _ _) _ _
  · exact Answer.placed_limits (h.answerCompareAndWrite _ _) _ _
  · exact Answer.placed_limits (h.answerTakeNotice _ _) _ _
  · exact Answer.placed_limits (h.answerReadSeatStatus _ _) _ _
  · exact Answer.placed_limits (h.answerCommit _ _) _ _
  · exact h.congr rfl rfl
  · exact Answer.placed_limits (h.refuse _) _ _
  · exact h.frameError _ _
  all_goals exact h

theorem State.Limits.openReply {s : State} (h : s.Limits) (n : SeatId) : (s.openReply n).Limits := by
  unfold State.openReply
  split
  · exact h
  · exact (State.Limits.ite (h.modSeat _ _) h).modLink _

theorem State.Limits.sendBytes {s : State} (h : s.Limits) (sent : Nat) : (s.sendBytes sent).Limits := by
  unfold State.sendBytes
  split
  · exact h.modLink _
  · exact h

theorem State.Limits.consumeReply {s : State} (h : s.Limits) (n : SeatId) (sent : Nat) :
    (s.consumeReply n sent).Limits := by
  unfold State.consumeReply
  split
  · exact (h.modSeat _ _).ite h
  · exact h

theorem State.Limits.readEffect {s : State} (h : s.Limits) (n : SeatId) (sent : Nat) : (s.readEffect n sent).Limits :=
  ((h.openReply n).sendBytes sent).consumeReply n sent

theorem State.Limits.endOther {s : State} (h : s.Limits) (heard : Heard) : (s.endOther heard).Limits := by
  unfold State.endOther
  split
  · exact h
  · split
    · exact (State.Limits.ite (h.frameError _ _) (h.frameEffect _)).modLink _
    · exact (h.readEffect _ _).modLink _
    all_goals exact h

theorem State.Limits.onFrame {s : State} (h : s.Limits) (dt : Nat) (heard : Heard) (fin : FrameEnd) (acks : List Bool)
    {act : State → State} (ha : ∀ t : State, t.Limits → (act t).Limits) : (s.onFrame dt heard fin acks act).Limits := by
  have later := h.advance dt
  exact later.ite (.ite (later.modLink _) ((ha _ (later.wake.endOther heard)).modLink _).sleepTest)

theorem State.Limits.onFrameUnderWay {s : State} (h : s.Limits) (dt : Nat) (heard : Heard) (receiver : Receiver)
    (acks : List Bool) {act : State → State} (ha : ∀ t : State, t.Limits → (act t).Limits) :
    (s.onFrameUnderWay dt heard receiver acks act).Limits := by
  have later := h.advance dt
  exact later.ite (.ite (later.modLink _) ((ha _ (later.wake.endOther heard)).modLink _))

/-- A command of the catalogue is the effect of its frame (R148). -/
theorem State.Limits.frameCommand {s : State} (h : s.Limits) (dt : Nat) (heard : Heard) (fin : FrameEnd)
    (acks : List Bool) (c : Instr) : (s.onFrame dt heard fin acks fun t => t.frameEffect c).Limits :=
  h.onFrame _ _ _ _ fun _ g => g.frameEffect c

theorem State.Limits.recoverLink {s : State} (h : s.Limits) : s.recoverLink.Limits := by
  have cut : s.cutFrame.Limits := by
    unfold State.cutFrame
    split
    · exact h.frameError _ _
    all_goals exact h
  exact cut.modLink _

/-- A store operation cut off leaves the image-valid marker clear (R157, R158). -/
theorem State.Limits.cutStore {s : State} (h : s.Limits) : s.cutStore.Limits := by
  unfold State.cutStore
  split
  · exact h
  · exact h.withStore rfl (State.storedPositionLaw_of_invalid rfl (.inl rfl))
  · exact h.withStore rfl (State.storedPositionLaw_of_invalid rfl (.inl rfl))

/-- A start-up load limits every position to the restored travel (R161). -/
theorem State.Limits.startUp {s : State} (h : s.Limits) (straps : Fin 4) {counters : ClosureId → Counter}
    (hc : ∀ k, -64 ≤ (counters k).position) : (s.startUp straps counters).Limits := by
  refine ⟨fun k => ?_, h.stored.1, trivial⟩
  simpa [State.startUp, Image.closure] using ClosureState.limitPosition_within (hc k)

/-- A cold start takes stored positions that are at least -64, or 0 (R21). -/
theorem State.Limits.coldCounters {s : State} (h : s.Limits) (a b : Byte) (k : ClosureId) :
    -64 ≤ (s.coldCounters a b k).position := by
  simp only [State.coldCounters, Counter.cold]
  split
  · rename_i trusted
    rw [Bool.and_eq_true] at trusted
    exact h.stored.1 trusted.1 trusted.2 k
  · decide

theorem State.Limits.postDue {s : State} (h : s.Limits) (x : DueNotice) : (s.postDue x).Limits := by
  cases x with
  | movedUndriven k => exact h.movedUndriven k
  | supplyLowEntered mV => exact h.postTo _ _
  | supplyRecovered mV => exact h.postTo _ _

/-- Every command keeps the limits (R10). -/
theorem exec_limits {s : State} (h : s.Limits) (c : Instr) : ∃ t, exec c s = .next t ∧ t.Limits := by
  have frame := fun dt heard fin acks => h.frameCommand dt heard fin acks c
  cases c with
  | move | renew | stop | global | clear | readClosure | readOutcome | readStats | clearStats | readProfile
  | writeProfileZone | markLearned | readSetting | readDeviceSetting | readSlotState | writeSetting | writeDeviceSetting
  | writeTRet | readSeatRecord | writeSeatRecord | readWords | writeWord | setBits | clearBits | compareAndWrite
  | takeNotice | readSeatStatus | commit | linkReset | unknownCommand | broadcastFrameDiscarded =>
    exact ⟨_, rfl, frame _ _ _ _⟩
  | allStop dt target fin args =>
    cases target with
    | seat n => exact ⟨_, rfl, frame _ _ _ _⟩
    | broadcast => exact ⟨_, rfl, frame _ _ _ _⟩
  | frameDiscard dt target ended bytes =>
    cases ended with
    | some fin => exact ⟨_, rfl, frame _ _ _ _⟩
    | none => exact ⟨_, rfl, h.onFrameUnderWay _ _ _ _ fun _ g => g⟩
  | readFrame f sent =>
    obtain ⟨dt, n, ended⟩ := f
    cases ended with
    | some fin => exact ⟨_, rfl, h.onFrame _ _ _ _ fun _ g => g.readEffect _ _⟩
    | none => exact ⟨_, rfl, h.onFrameUnderWay _ _ _ _ fun _ g => (g.openReply _).sendBytes _⟩
  | stuckLinkRecovery dt held =>
    exact ⟨_, rfl, h.onEvent _ fun _ g => (g.modLink _).recoverLink.ite (g.modLink _)⟩
  | frameNotAcknowledged dt address ended =>
    have later := h.advance dt
    have heard := later.wake.endOther .other
    refine ⟨_, rfl, later.ite ?_⟩
    cases address <;> cases ended
    · exact heard.modLink _
    · exact (heard.modLink _).sleepTest
    · exact heard.modLink _
    · exact (heard.modLink _).sleepTest
  | hallEdge dt k ph =>
    have later := h.advance dt
    exact ⟨_, rfl, later.ite (.ite (later.modCounter _ _ (Counter.toggle_position _ _)).sleepTest
      (later.wake.hallEdge k ph).sleepTest)⟩
  | phaseFault dt k =>
    have sampled := (h.advance dt).modCounter k (fun x => (x.toggle .a).toggle .b) rfl
    exact ⟨_, rfl, (h.advance dt).ite (sampled.sleepTest.ite (sampled.phaseFault k).sleepTest)⟩
  | stallExpiry dt k => exact ⟨_, rfl, h.onEvent _ fun _ g => (g.modCounter _ _ rfl).classifyStall _ |>.ite g⟩
  | undrivenQuietExpiry dt k => exact ⟨_, rfl, h.onEvent _ fun _ g => (g.modCounter _ _ rfl).ite g⟩
  | brakeTimerExpiry dt k => exact ⟨_, rfl, h.onEvent _ fun _ g => (g.endBrake _).ite g⟩
  | quietTimerExpiry dt k => exact ⟨_, rfl, h.onEvent _ fun _ g => (g.settleEnd _).ite g⟩
  | limitTimerExpiry dt k => exact ⟨_, rfl, h.onEvent _ fun _ g => ((g.modCtx _ _).settleEnd _).ite g⟩
  | holdDeadlineExpiry dt k =>
    refine ⟨_, rfl, h.onEvent _ fun t g => State.Limits.ite ?_ g⟩
    split
    · exact g.endMove _ _ _
    · exact g.remove _ _ _
    all_goals exact g
  | queueTimeout dt k => exact ⟨_, rfl, h.onEvent _ fun _ g => (g.remove _ _ _).ite g⟩
  | currentSample dt k mA => exact ⟨_, rfl, h.onEvent _ fun _ g => g.modClosure _ _ id⟩
  | supplySample dt mV => exact ⟨_, rfl, h.onEvent _ fun _ g => g.congr rfl rfl⟩
  | supplyRefresh dt =>
    refine ⟨_, rfl, h.onEvent _ fun t g => g.ite ?_⟩
    have published : ({ t with front := t.front.publish } : State).Limits := g.congr rfl rfl
    exact published.testDerating.testSupply.testRecovery
  | temperatureMeasurement dt celsius => exact ⟨_, rfl, h.onEvent _ fun _ g => g.congr rfl rfl⟩
  | retainedWindowExpiry dt => exact ⟨_, rfl, h.onEvent _ fun _ g => State.Limits.ite (g.congr rfl rfl) g⟩
  | staleExpiry dt n => exact ⟨_, rfl, h.onEvent _ fun _ g => (g.modSeat _ _).ite g⟩
  | commitCompletion dt =>
    refine ⟨_, rfl, h.onEvent _ fun t g => ?_⟩
    split
    · exact g.completeCommit ‹_›
    all_goals exact g
  | commitFailure dt =>
    refine ⟨_, rfl, h.onEvent _ fun t g => ?_⟩
    split
    · exact g.failCommit _ _
    all_goals exact g
  | unparkWriteCompletion dt =>
    refine ⟨_, rfl, h.onEvent _ fun t g => ?_⟩
    split
    · exact g.endUnpark _ (.inr rfl)
    all_goals exact g
  | unparkWriteFailure dt =>
    refine ⟨_, rfl, h.onEvent _ fun t g => ?_⟩
    split
    · have counted : ({ t with freeCount := t.freeCount + 1 } : State).Limits := g.congr rfl rfl
      exact counted.endUnpark _ (.inl rfl)
    all_goals exact g
  | linkQuietExpiry dt => exact ⟨_, rfl, h.onEvent _ fun _ g => (g.modLink _).ite g⟩
  | resetInput dt straps =>
    have later := h.advance dt
    have cut := later.wake.cutStore
    exact ⟨_, rfl, later.ite (cut.startUp straps fun k => (cut.within k).1)⟩
  | coldStart dt straps a b =>
    have cut := (h.advance dt).cutStore
    exact ⟨_, rfl, cut.startUp straps (cut.coldCounters a b)⟩
  | startUpLoadEnd dt =>
    refine ⟨_, rfl, h.onEvent _ fun t g => State.Limits.ite ?_ g⟩
    refine State.Limits.foldl ?_ State.postDue (fun _ x g' => g'.postDue x) _
    exact g.congr rfl rfl
  | powerLoss dt =>
    have cut := (h.advance dt).cutStore
    exact ⟨_, rfl, cut.ite ((cut.startUp 0 (cut.coldCounters 0 0)).congr rfl rfl)⟩

/-- Settles O8: every operation keeps the limits, the cold start by the law of the stored positions, which a parking
commit keeps because it captures working positions. -/
theorem positionLawKept : Obligations.PositionLawKept := by
  intro s t hp hs hstep
  have h : s.Limits := ⟨hp, hs⟩
  unfold step at hstep
  split at hstep
  · cases hstep
    exact ⟨hp, hs⟩
  · rename_i c rest _
    have running : ({ s with pending := rest } : State).Limits := h.congr rfl rfl
    obtain ⟨u, hu, hlimits⟩ := exec_limits running c
    cases hu.symm.trans hstep
    exact ⟨hlimits.within, hlimits.stored⟩

end Sys2Proof.Machine
end

section
/-! PROOFS. WRITE SETTING of a closure field (R2, R3, R53, R80). -/
namespace Sys2Proof.Machine

section
variable {d e : Description} {id v : Nat}

/-- A write that no rule of R3 concerns leaves class, polarity, travel and R_max. -/
theorem Description.write_unadjusted (h : d.write id v = some e) (lo : 3 ≤ id) (hi : id ≠ 0x14) :
    e.cls = d.cls ∧ e.polarity = d.polarity ∧ e.travel = d.travel ∧ e.escapeMax = d.escapeMax := by
  unfold Description.write at h
  split at h
  case h_1 | h_2 | h_3 => omega
  case h_21 => exact absurd rfl hi
  case h_4 | h_15 =>
    obtain rfl := Option.some.inj h
    split <;> exact ⟨rfl, rfl, rfl, rfl⟩
  case h_6 | h_22 =>
    obtain ⟨x, -, rfl⟩ := Option.map_eq_some_iff.mp h
    exact ⟨rfl, rfl, rfl, rfl⟩
  case h_23 => exact nomatch h
  all_goals
    obtain rfl := Option.some.inj h
    exact ⟨rfl, rfl, rfl, rfl⟩

end

/-! What a write to a field that R3 concerns makes of the description. -/

section
variable {d : Description} (v : Nat)

/-- A change of class sets the class's reversal mode (R1, R3). -/
theorem Description.write_class_changes {e : Description} (h : d.write 0x00 v = some e) (ne : e.cls ≠ d.cls) :
    e = { d with cls := e.cls, reversalMode := if e.cls = .panel ∨ e.cls = .shade then .full else .distance } := by
  obtain ⟨x, -, rfl⟩ := Option.map_eq_some_iff.mp h
  have changes : x ≠ d.cls := by
    rintro rfl
    exact ne (by rw [if_pos rfl])
  rw [if_neg changes]
  cases x <;> rfl

theorem Description.write_class_same (h : v = d.cls.code) : d.write 0x00 v = some d := by
  simp only [Description.write, h, classOf_code, Option.map_some, if_true]

theorem Description.write_polarity_code {x : Polarity} (h : v = x.code) :
    d.write 0x01 v = some { d with polarity := x } := by
  simp only [Description.write, h, polarityOf_code, Option.map_some]

theorem Description.write_travel_same (h : max 512 (min 16000 v) = d.travel) : d.write 0x02 v = some d := by
  rw [← clampNat_eq (by decide)] at h
  exact congrArg some (if_pos h)

/-- A change of L_full clamps Zp again; the end band leaves room for it (R2, R3). -/
theorem Description.write_travel_changes (band : d.endBand ≤ 64) (ne : max 512 (min 16000 v) ≠ d.travel) :
    d.write 0x02 v = some { d with
      travel := max 512 (min 16000 v)
      pinchLimit := max (d.endBand + 4) (min (max 512 (min 16000 v)) d.pinchLimit) } := by
  rw [← clampNat_eq (by decide)] at ne ⊢
  have room : d.endBand + 4 ≤ clampNat 512 16000 v := by
    rw [clampNat_eq (by decide)]
    omega
  rw [← clampNat_eq room]
  exact congrArg some (if_neg ne)

theorem Description.write_endBand_same (h : max 4 (min 64 v) = d.endBand) : d.write 0x03 v = some d := by
  rw [← clampNat_eq (by decide)] at h
  exact congrArg some (if_pos h)

/-- A change of Zs clamps Zp again (R2, R3). -/
theorem Description.write_endBand_changes (room : 512 ≤ d.travel) (ne : max 4 (min 64 v) ≠ d.endBand) :
    d.write 0x03 v = some { d with
      endBand := max 4 (min 64 v), pinchLimit := max (max 4 (min 64 v) + 4) (min d.travel d.pinchLimit) } := by
  rw [← clampNat_eq (show max 4 (min 64 v) + 4 ≤ d.travel by omega)]
  rw [← clampNat_eq (show 4 ≤ 64 by decide)] at ne ⊢
  exact congrArg some (if_neg ne)

theorem Description.write_pinchLimit (room : d.endBand + 4 ≤ d.travel) :
    d.write 0x04 v = some { d with pinchLimit := max (d.endBand + 4) (min d.travel v) } := by
  rw [← clampNat_eq room]
  rfl

theorem Description.write_thCeiling_same (h : max 200 (min 400 v) = d.thCeiling) : d.write 0x0E v = some d := by
  rw [← clampNat_eq (by decide)] at h
  exact congrArg some (if_pos h)

/-- A change of Theta_ceil clamps Theta_pinch again (R3). -/
theorem Description.write_thCeiling_changes (ne : max 200 (min 400 v) ≠ d.thCeiling) :
    d.write 0x0E v = some { d with
      thCeiling := max 200 (min 400 v), thPinch := max 40 (min (max 200 (min 400 v)) d.thPinch) } := by
  rw [← clampNat_eq (by omega)]
  rw [← clampNat_eq (by decide)] at ne ⊢
  exact congrArg some (if_neg ne)

theorem Description.write_escapeMax : d.write 0x14 v = some { d with escapeMax := max 1 (min 7 v) } := by
  rw [← clampNat_eq (by decide)]
  rfl

end

/-! The description written into a closure (R3). -/

section
variable {c : ClosureState} {e : Description}

/-- No change of class, travel or R_max: the description is all that a write changes. -/
theorem ClosureState.adjustAfterWrite_unadjusted (hc : e.cls = c.desc.cls) (ht : e.travel = c.desc.travel)
    (hr : e.escapeMax = c.desc.escapeMax) :
    ClosureState.adjustAfterWrite c.desc { c with desc := e } = { c with desc := e } := by
  simp [ClosureState.adjustAfterWrite, hc, ht, hr]

theorem ClosureState.adjustAfterWrite_class (h : e.cls ≠ c.desc.cls) :
    ClosureState.adjustAfterWrite c.desc { c with desc := e } =
      { c with
        desc := e
        profile := { c.profile with status := .unlearned, dirty := true, capture := false } } := if_pos h

theorem ClosureState.adjustAfterWrite_travel (hc : e.cls = c.desc.cls) (ht : e.travel ≠ c.desc.travel) :
    ClosureState.adjustAfterWrite c.desc { c with desc := e } =
      { c with
        desc := e
        profile := { c.profile with status := .unlearned, dirty := true, capture := false }
        counter := { c.counter with
          position := min (e.travel + 64 : Int) c.counter.position
          validity := if (e.travel + 64 : Int) < c.counter.position then .lost else c.counter.validity } } := by
  have adjusted : ClosureState.adjustAfterWrite c.desc { c with desc := e } =
      ClosureState.limitPosition (ClosureState.unlearn { c with desc := e }) :=
    (if_neg (not_not.mpr hc)).trans (if_pos ht)
  exact adjusted.trans (ClosureState.limitPosition_eq _)

theorem ClosureState.adjustAfterWrite_escapeMax (hc : e.cls = c.desc.cls) (ht : e.travel = c.desc.travel)
    (hr : e.escapeMax ≠ c.desc.escapeMax) :
    ClosureState.adjustAfterWrite c.desc { c with desc := e } =
      ClosureState.setReversals { c with desc := e } (min e.escapeMax c.verdict.reversals) :=
  (if_neg (not_not.mpr hc)).trans ((if_neg (not_not.mpr ht)).trans (if_pos hr))

end

theorem Context.closingInProgress_eq (x : Context) : x.closingInProgress =
    decide ((x.state = .running ∨ x.state = .reversing) ∧ x.move.map (·.direction) = some .closing) := by
  simp [Context.closingInProgress]

/-- A description of the same polarity is written with no loss of position (R3). -/
theorem State.writeDescription_samePolarity (s : State) (k : ClosureId) {e : Description}
    (hp : e.polarity = s.closures[k].desc.polarity) : s.writeDescription k e =
      s.withClosure k (ClosureState.adjustAfterWrite s.closures[k].desc { s.closures[k] with desc := e }) :=
  if_neg (not_not.mpr hp)

/-- A change of polarity at an IDLE context makes the position LOST and ends nothing (R3, R15). -/
theorem State.writeDescription_polarity (s : State) (k : ClosureId) {x : Polarity}
    (hp : x ≠ s.closures[k].desc.polarity) (idle : s.closures[k].ctx.state = .idle) :
    s.writeDescription k { s.closures[k].desc with polarity := x } =
      s.withClosure k ({ s.closures[k] with desc := { s.closures[k].desc with polarity := x } } : ClosureState).lose := by
  have adjusted : ClosureState.adjustAfterWrite s.closures[k].desc
      { s.closures[k] with desc := { s.closures[k].desc with polarity := x } } =
        { s.closures[k] with desc := { s.closures[k].desc with polarity := x } } :=
    ClosureState.adjustAfterWrite_unadjusted rfl rfl rfl
  refine (if_pos hp).trans ?_
  rw [State.modClosure_eq, adjusted]
  exact s.losePosition_kept k _ (.inr (.inr (.inl idle)))

/-! The command (R2). -/

section
variable (s : State) (n : SeatId) (b id : Byte) (v : BitVec 16)

theorem State.answerWriteSetting_field (h : id.toNat < 0x20 ∨ 0x24 < id.toNat) :
    s.answerWriteSetting n ([b, id] ++ bytesOf16 v) = s.writeField n b id v.toNat := by
  simp only [bytesOf16, List.cons_append, List.nil_append, State.answerWriteSetting, deviceSettingOf_eq_none h,
    word16_extract]

theorem State.writeField_badArgument (h : 0x15 < id.toNat) (v : Nat) : s.writeField n b id v = s.refuse .badArgument := by
  have notField : isFieldId id = false := by
    rw [Bool.eq_false_iff, Ne, isFieldId_iff]
    omega
  simp only [State.writeField, notField, Bool.not_false, if_true]

theorem State.writeField_badClosure (hid : id.toNat ≤ 0x15) (hb : 8 ≤ b.toNat) (v : Nat) :
    s.writeField n b id v = s.refuse .badClosure := by
  simp only [State.writeField, isFieldId_iff.mpr hid, closureOf_of_le hb, Bool.not_true, Bool.false_eq_true, if_false]

end

section
variable {s : State} {n : SeatId} {k : ClosureId} {id : Byte} {v : Nat}

theorem State.writeField_notPermitted (hid : id.toNat ≤ 0x15) (h : s.seats[n].record.grants .settings = false) :
    s.writeField n (byteOf k.val) id v = s.refuse .notPermitted := by
  simp only [State.writeField, isFieldId_iff.mpr hid, closureOf_byteOf, h, Bool.not_true, Bool.not_false,
    Bool.false_eq_true, if_false, if_true]

theorem State.writeField_noValue (hid : id.toNat ≤ 0x15) (h : s.seats[n].record.grants .settings = true)
    (hw : s.closures[k].desc.write id.toNat v = none) :
    s.writeField n (byteOf k.val) id v = s.refuse .badArgument := by
  simp only [State.writeField, isFieldId_iff.mpr hid, closureOf_byteOf, h, Bool.not_true, Bool.false_eq_true, if_false, hw]

theorem State.writeField_notIdle {e : Description} (hid : id.toNat ≤ 0x04)
    (h : s.seats[n].record.grants .settings = true) (hw : s.closures[k].desc.write id.toNat v = some e)
    (busy : s.closures[k].ctx.state ≠ .idle) : s.writeField n (byteOf k.val) id v = s.refuse .notIdle := by
  have field : isFieldId id = true := isFieldId_iff.mpr (by omega)
  simp only [State.writeField, field, closureOf_byteOf, h, Bool.not_true, Bool.false_eq_true, if_false, hw, isStructural,
    hid, busy, ne_eq, not_false_eq_true, decide_true, Bool.and_self, if_true]

/-- A value taken: the description written, and the value read back for the reply. -/
theorem State.writeField_taken {e : Description} {taken : Nat} (hid : id.toNat ≤ 0x15)
    (h : s.seats[n].record.grants .settings = true) (hw : s.closures[k].desc.write id.toNat v = some e)
    (hr : e.read id.toNat = some taken) (idle : 0x04 < id.toNat ∨ s.closures[k].ctx.state = .idle) :
    s.writeField n (byteOf k.val) id v = (s.writeDescription k e).accept (id :: be16 taken) := by
  have allowed : (isStructural id.toNat && decide (s.closures[k].ctx.state ≠ .idle)) = false := by
    rcases idle with high | idle
    · simp [isStructural, high]
    · rw [decide_eq_false (not_not.mpr idle), Bool.and_false]
  simp only [State.writeField, isFieldId_iff.mpr hid, closureOf_byteOf, h, Bool.not_true, Bool.false_eq_true, if_false,
    hw, allowed, hr]
  rfl

end

/-- A WRITE SETTING that is taken is answered with the value read back, once it is known what the description written
makes of the closure. -/
theorem exec_writeSetting_taken {f : SeatFrame} {s : State} {k : ClosureId} {id : Byte} {v : BitVec 16} {e : Description}
    {x : ClosureState} {taken : Nat} (awake : s.Awake) (hid : id.toNat ≤ 0x15)
    (h : s.seats[f.seat].record.grants .settings = true)
    (hw : s.closures[k].desc.write id.toNat v.toNat = some e) (hr : e.read id.toNat = some taken)
    (idle : 0x04 < id.toNat ∨ s.closures[k].ctx.state = .idle)
    (hx : (s.later f.dt).writeDescription k e = (s.later f.dt).withClosure k x) :
    exec (.writeSetting f ([byteOf k.val, id] ++ bytesOf16 v)) s =
      .next ((s.withClosure k x).answered f 0x41 4 .accepted (id :: be16 taken)) := by
  refine congrArg Host.Outcome.next (State.seatCommand_answered awake ?_)
  rw [State.answerWriteSetting_field _ _ _ _ _ (.inl (by omega)),
    State.writeField_taken (s := s.later f.dt) hid h hw hr idle, hx]
  rfl

/-- The same for a description of the same polarity, with the adjustments of R3. -/
theorem exec_writeSetting_adjusted {f : SeatFrame} {s : State} {k : ClosureId} {id : Byte} {v : BitVec 16}
    {e : Description} {x : ClosureState} {taken : Nat} (awake : s.Awake) (hid : id.toNat ≤ 0x15)
    (h : s.seats[f.seat].record.grants .settings = true)
    (hw : s.closures[k].desc.write id.toNat v.toNat = some e) (hr : e.read id.toNat = some taken)
    (idle : 0x04 < id.toNat ∨ s.closures[k].ctx.state = .idle) (hp : e.polarity = s.closures[k].desc.polarity)
    (hx : ClosureState.adjustAfterWrite s.closures[k].desc { s.closures[k] with desc := e } = x) :
    exec (.writeSetting f ([byteOf k.val, id] ++ bytesOf16 v)) s =
      .next ((s.withClosure k x).answered f 0x41 4 .accepted (id :: be16 taken)) := by
  subst hx
  exact exec_writeSetting_taken awake hid h hw hr idle (State.writeDescription_samePolarity _ _ hp)

/-- Settles O30: each refusal is `writeField`'s, and each value taken is a description written, with the adjustment that
the changed field calls for. -/
theorem writeSetting : Obligations.WriteSetting := by
  refine ⟨fun f s b id v awake => ⟨fun hid device => ?_, fun hid hb => ?_⟩, fun f s k id v awake hid => ?_⟩
  · refine congrArg Host.Outcome.next (State.seatCommand_refused awake ?_)
    rw [State.answerWriteSetting_field _ _ _ _ _ device, State.writeField_badArgument _ _ _ _ hid]
  · refine congrArg Host.Outcome.next (State.seatCommand_refused awake ?_)
    rw [State.answerWriteSetting_field _ _ _ _ _ (.inl (by omega)), State.writeField_badClosure _ _ _ _ hid hb]
  have refused : ∀ r : Result, (s.later f.dt).writeField f.seat (byteOf k.val) id v.toNat = (s.later f.dt).refuse r →
      exec (.writeSetting f ([byteOf k.val, id] ++ bytesOf16 v)) s = .next (s.answered f 0x41 4 r []) := by
    intro r hr
    refine congrArg Host.Outcome.next (State.seatCommand_refused awake ?_)
    rw [State.answerWriteSetting_field _ _ _ _ _ (.inl (by omega)), hr]
  refine ⟨fun denied => refused _ (State.writeField_notPermitted hid denied), fun granted => ?_⟩
  refine ⟨fun hw => refused _ (State.writeField_noValue hid granted hw), fun hw structural busy => ?_,
    fun e taken hw hr lo hi => ?_, fun e idle zero hw ne => ?_, fun e idle one hv => ?_, ?_, ?_, ?_, ?_, ?_, ?_⟩
  · obtain ⟨e, hw⟩ := Option.isSome_iff_exists.mp hw
    exact refused _ (State.writeField_notIdle structural granted hw busy)
  · obtain ⟨hc, hp, ht, hm⟩ := Description.write_unadjusted hw (by omega) hi
    exact exec_writeSetting_adjusted awake hid granted hw hr (.inl lo) hp
      (ClosureState.adjustAfterWrite_unadjusted hc ht hm)
  · subst zero
    have form := Description.write_class_changes _ hw ne
    refine exec_writeSetting_adjusted awake hid granted hw rfl (.inr idle) (congrArg (·.polarity) form) ?_
    rw [ClosureState.adjustAfterWrite_class ne, ← form]
  · subst one
    have hw := s.closures[k].desc.write_polarity_code _ hv
    by_cases same : e = s.closures[k].desc.polarity
    · refine exec_writeSetting_adjusted awake hid granted hw rfl (.inr idle) same ?_
      rw [if_pos same]
      exact ClosureState.adjustAfterWrite_unadjusted rfl rfl rfl
    · rw [if_neg same]
      exact exec_writeSetting_taken awake hid granted hw rfl (.inr idle) (State.writeDescription_polarity _ _ same idle)
  · intro n idle two band ne
    subst two
    exact exec_writeSetting_adjusted awake hid granted (Description.write_travel_changes _ band ne) rfl (.inr idle) rfl
      (ClosureState.adjustAfterWrite_travel rfl ne)
  · intro n idle three room ne
    subst three
    exact exec_writeSetting_adjusted awake hid granted (Description.write_endBand_changes _ room ne) rfl (.inr idle) rfl
      (ClosureState.adjustAfterWrite_unadjusted rfl rfl rfl)
  · intro n idle four room
    subst four
    exact exec_writeSetting_adjusted awake hid granted (Description.write_pinchLimit _ room) rfl (.inr idle) rfl
      (ClosureState.adjustAfterWrite_unadjusted rfl rfl rfl)
  · intro n ceiling ne
    subst ceiling
    exact exec_writeSetting_adjusted awake hid granted (Description.write_thCeiling_changes _ ne) rfl
      (.inl (by decide)) rfl (ClosureState.adjustAfterWrite_unadjusted rfl rfl rfl)
  · have unchanged : ∀ taken : Nat, s.closures[k].desc.write id.toNat v.toNat = some s.closures[k].desc →
        s.closures[k].desc.read id.toNat = some taken → (0x04 < id.toNat ∨ s.closures[k].ctx.state = .idle) →
        exec (.writeSetting f ([byteOf k.val, id] ++ bytesOf16 v)) s =
          .next ((s.withClosure k s.closures[k]).answered f 0x41 4 .accepted (id :: be16 taken)) :=
      fun taken hw hr idle => exec_writeSetting_adjusted awake hid granted hw hr idle rfl
        (ClosureState.adjustAfterWrite_unadjusted rfl rfl rfl)
    refine ⟨fun idle zero hv => ?_, fun idle two hv => ?_, fun idle three hv => ?_, fun ceiling hv => ?_,
      fun most hv => ?_⟩
    · subst zero
      exact unchanged _ (Description.write_class_same _ hv) rfl (.inr idle)
    · subst two
      exact unchanged _ (Description.write_travel_same _ hv) rfl (.inr idle)
    · subst three
      exact unchanged _ (Description.write_endBand_same _ hv) rfl (.inr idle)
    · subst ceiling
      exact unchanged _ (Description.write_thCeiling_same _ hv) rfl (.inl (by decide))
    · subst most
      refine unchanged _ ?_ rfl (.inl (by decide))
      have hw := s.closures[k].desc.write_escapeMax v.toNat
      rw [hv] at hw
      exact hw
  · intro most r n closing ne
    subst most
    refine exec_writeSetting_adjusted awake hid granted (Description.write_escapeMax _) rfl (.inl (by decide)) rfl ?_
    refine (ClosureState.adjustAfterWrite_escapeMax (c := s.closures[k])
      (e := { s.closures[k].desc with escapeMax := r }) rfl rfl ne).trans ?_
    rw [ClosureState.setReversals, Context.closingInProgress_eq]

end Sys2Proof.Machine
end

section
/-! PROOFS. A stall that ends a move (R51, R68 to R70, R78). -/
namespace Sys2Proof.Machine

/-! The end of a move with nothing waiting. -/

/-- What a move's end leaves of a closure does not depend on the parts that it sets. -/
theorem State.moveEnded_congr (s : State) (k : ClosureId) {x y : ClosureState} {now : Nat} {r : EndReason}
    {w : Option SeatId} (h : x.settledAt now r w = y.settledAt now r w) :
    (s.withClosure k x).moveEnded k now r w = (s.withClosure k y).moveEnded k now r w := by
  simp [State.moveEnded, State.withClosure, h]

/-- With nothing waiting for the slot, a move of a closure just updated ends as `moveEnded` says (R102, R107). -/
theorem State.endMove_withClosure {s : State} (k : ClosureId) (x : ClosureState) (dt : Nat) (r : EndReason)
    (w : Option SeatId) (h : s.arbiter.queue = []) :
    ((s.later dt).withClosure k x).endMove k r w = ((s.later dt).withClosure k x).moveEnded k (s.now + dt) r w :=
  State.endMove_empty k r w h

/-! The completeness of a trace (R51). -/

theorem Estimator.sampled_iff (x : Estimator) (z : Fin 64) : x.sampled z = true ↔ 1 ≤ x.trace[z].count :=
  decide_eq_true_iff

/-- The highest sampled zone is sampled, and no zone above it is. -/
theorem Estimator.highest_spec {x : Estimator} {h : Fin 64} (hh : x.highest = some h) :
    x.sampled h = true ∧ ∀ z, h < z → x.sampled z = false := by
  obtain ⟨below, split⟩ := List.getLast?_eq_some_iff.mp hh
  have sampled : ∀ z, x.sampled z = true ↔ z ∈ below ++ [h] := by
    intro z
    rw [← split, List.mem_filter]
    exact ⟨fun hz => ⟨List.mem_finRange z, hz⟩, And.right⟩
  have ordered : (below ++ [h]).Pairwise (· < ·) := split ▸ (List.pairwise_lt_finRange 64).filter _
  refine ⟨(sampled h).mpr (by simp), fun z hz => ?_⟩
  rw [Bool.eq_false_iff, Ne, sampled, List.mem_append, List.mem_singleton]
  rintro (mem | rfl)
  · exact absurd hz ((List.pairwise_append.mp ordered).2.2 z mem h (List.mem_singleton_self h)).not_gt
  · exact lt_irrefl z hz

theorem Estimator.highest_eq_none {x : Estimator} (hh : x.highest = none) (z : Fin 64) : x.sampled z = false := by
  have empty := List.getLast?_eq_none_iff.mp hh
  have := List.filter_eq_nil_iff.mp empty z (List.mem_finRange z)
  simpa using this

/-- A trace is complete when the sampled zones are those from 0 to some zone. -/
theorem Estimator.complete_iff (x : Estimator) :
    x.complete = true ↔ ∃ h : Fin 64, ∀ z : Fin 64, 1 ≤ x.trace[z].count ↔ z ≤ h := by
  simp only [← Estimator.sampled_iff]
  cases hh : x.highest with
  | none =>
    simp only [Estimator.complete, hh, Bool.false_eq_true, false_iff]
    rintro ⟨h, all⟩
    exact absurd ((all h).mpr le_rfl) (by rw [Estimator.highest_eq_none hh]; decide)
  | some h =>
    obtain ⟨top, above⟩ := Estimator.highest_spec hh
    simp only [Estimator.complete, hh, List.all_eq_true, List.mem_finRange, true_implies, Bool.or_eq_true,
      decide_eq_true_eq]
    refine ⟨fun all => ⟨h, fun z => ⟨fun hz => ?_, fun hz => (all z).resolve_left hz.not_gt⟩⟩, ?_⟩
    · by_contra beyond
      exact absurd hz (by rw [above z (not_le.mp beyond)]; decide)
    · rintro ⟨g, all⟩ z
      have : h ≤ g := (all h).mp top
      by_cases hz : h < z
      · exact .inl hz
      · exact .inr ((all z).mpr ((not_lt.mp hz).trans this))

/-! Stalls (R13, R68 to R70, R78). -/

/-- A closure whose stall timer has stopped. -/
def ClosureState.stallStopped (c : ClosureState) : ClosureState :=
  { c with counter := { c.counter with stallTimer := none } }

/-- A stall timer that has come stops, and the stall is classified (R13). -/
theorem exec_stallExpiry {s t : State} {dt due : Nat} {k : ClosureId} (h : s.Attentive)
    (timer : s.closures[k].counter.stallTimer = some due) (hd : due ≤ s.now + dt)
    (ht : ((s.later dt).withClosure k s.closures[k].stallStopped).classifyStall k = t)
    (hl : t.link = s.link) : exec (.stallExpiry dt k) s = .next t := by
  refine congrArg Host.Outcome.next (State.onEvent_eq h ?_ hl)
  simp only [State.later_closures, State.later_now, timer, isDue_of_le hd, if_true]
  exact ht

/-- The end of a move stops the stall timer in any case (R13, R102). -/
theorem State.moveEnded_stallStopped (s : State) (k : ClosureId) (dt now : Nat) (r : EndReason) (w : Option SeatId) :
    ((s.later dt).withClosure k s.closures[k].stallStopped).moveEnded k now r w = (s.later dt).moveEnded k now r w := by
  have same := State.moveEnded_congr (s.later dt) k (x := s.closures[k].stallStopped) (y := s.closures[k]) (now := now)
    (r := r) (w := w) rfl
  rw [same]
  exact congrArg (fun t => State.moveEnded t k now r w) (State.withClosure_present (s.later dt) k)

section
variable {u : State} {k : ClosureId} {c : ClosureState} {m : Move}

/-- A closed-end stall (R68, R69). -/
theorem State.classifyStall_closedEnd (run : c.ctx.state = .running) (hm : c.ctx.move = some m)
    (dir : m.direction = .closing) (stop : c.atClosedEnd m.kind = true) :
    (u.withClosure k c).classifyStall k =
      (u.withClosure k (c.closedEnd m.kind)).endMove k (c.closedEndReason m.kind) none := by
  simp only [State.classifyStall, State.withClosure_self, run, hm, dir, stop, if_true, State.closedEndStall,
    State.modClosure_withClosure]

/-- A stall of an opening move (R68). -/
theorem State.classifyStall_opening (run : c.ctx.state = .running) (hm : c.ctx.move = some m)
    (dir : m.direction = .opening) :
    (u.withClosure k c).classifyStall k =
      (u.withClosure k c).endMove k (if c.atOpenEnd then .openEnd else .openObstructed) none := by
  simp only [State.classifyStall, State.withClosure_self, run, hm, dir]

/-- A stall in the reverse phase of a reversal (R78). -/
theorem State.classifyStall_reverse (reversing : c.ctx.state = .reversing) (phase : c.verdict.phase = some .reverse) :
    (u.withClosure k c).classifyStall k = (u.withClosure k c).endMove k .reversalBlocked none := by
  simp only [State.classifyStall, State.withClosure_self, reversing, phase, if_true]

end

/-- The closure that a closed-end stall leaves (R69, operations 1 and 3). -/
theorem ClosureState.closedEnd_eq (kind : Kind) (c : ClosureState) : c.closedEnd kind =
    { c with
      counter := { c.counter with
        position := 0, validity := if kind = .normalise then .valid else c.counter.validity }
      verdict :=
        if c.closedEndReason kind = .closed ∧ c.verdict.record = none then
          { c.verdict with reversals := 0, escape := false }
        else c.verdict } := by
  simp only [ClosureState.closedEnd, Option.isNone_iff_eq_none]
  by_cases clears : c.closedEndReason kind = .closed ∧ c.verdict.record = none
  · rw [if_pos clears, if_pos clears]
    rfl
  · rw [if_neg clears, if_neg clears]

/-- Settles O48: the stall is classified by R68, and with nothing waiting the move's end is `moveEnded`. -/
theorem closedEndStall : Obligations.ClosedEndStall := by
  intro dt due k m s h c now timer hd hq hm complete reason
  have reasons : reason = c.closedEndReason m.kind := by
    simp only [reason, ClosureState.closedEndReason]
    cases m.kind with
    | learn => exact if_congr c.est.complete_iff.symm rfl rfl
    | held | oneTouch | global | normalise => rfl
  refine ⟨fun run dir band trusted => ?_, fun run dir => ?_, fun reversing phase => ?_⟩
  · have stop : c.atClosedEnd m.kind = true := by
      simpa only [ClosureState.atClosedEnd, ClosureState.inEndBand, Bool.and_eq_true, Bool.or_eq_true,
        decide_eq_true_eq] using And.intro band trusted
    refine exec_stallExpiry h timer hd ((State.classifyStall_closedEnd (c := c.stallStopped) run hm dir stop).trans ?_) rfl
    rw [State.endMove_withClosure _ _ _ _ _ hq, reasons, ClosureState.closedEnd_eq]
    exact State.moveEnded_congr _ _ rfl
  · refine exec_stallExpiry h timer hd ((State.classifyStall_opening (c := c.stallStopped) run hm dir).trans ?_) rfl
    rw [State.endMove_withClosure _ _ _ _ _ hq, State.moveEnded_stallStopped]
    simp only [ClosureState.atOpenEnd, decide_eq_true_eq]
    rfl
  · refine exec_stallExpiry h timer hd ((State.classifyStall_reverse (c := c.stallStopped) reversing phase).trans ?_) rfl
    rw [State.endMove_withClosure _ _ _ _ _ hq, State.moveEnded_stallStopped]

end Sys2Proof.Machine
end

section
/-! PROOFS. The start-up load at the reset input and at a cold start (R21, R157, R158, R161). -/
namespace Sys2Proof.Machine

/-! A store operation cut off (R157, R158). -/

theorem State.cutStore_of_idle {s : State} (h : s.store.job = .idle) : s.cutStore = s := by
  simp only [State.cutStore, h]

theorem State.cutStore_invalid {s : State} (h : s.store.job ≠ .idle) : s.cutStore.store.image.valid = false := by
  unfold State.cutStore
  split
  · exact absurd ‹_› h
  · rfl
  · rfl

@[simp] theorem State.cutStore_closures (s : State) : s.cutStore.closures = s.closures := by
  unfold State.cutStore
  split <;> rfl

/-! What the load reads (R161). -/

theorem Image.atStart_of_valid {x : Image} (h : x.valid = true) : x.atStart = x := if_pos h

theorem Image.atStart_of_invalid {x : Image} (h : x.valid = false) : x.atStart = {} := by
  rw [Image.atStart, h]
  rfl

/-- A closure at the end of the load: its description read, its counter limited to the restored travel (R161). -/
theorem Image.closure_eq (x : Image) (k : ClosureId) (counter : Counter) : x.closure k counter =
    { desc := x.atStart.descriptions[k]
      counter := { counter with
        position := min (x.atStart.descriptions[k].travel + 64 : Int) counter.position
        validity := if (x.atStart.descriptions[k].travel + 64 : Int) < counter.position then .lost else counter.validity }
      profile := { status := x.atStart.profiles[k].status, zones := x.atStart.profiles[k].zones, dirty := !x.valid }
      stats := { counters := x.atStart.stats[k] } } :=
  ClosureState.limitPosition_eq _

section
variable (s : State) (straps : Fin 4) (counters : ClosureId → Counter)

theorem State.startUp_closures (k : ClosureId) :
    (s.startUp straps counters).closures[k] = s.store.image.closure k (counters k) := by
  simp [State.startUp]

theorem State.startUp_seats (n : SeatId) :
    (s.startUp straps counters).seats[n] = { record := s.store.image.atStart.records[n] } := by
  simp [State.startUp]

theorem State.startUp_words (w : Fin 6) : (s.startUp straps counters).words[w] = 0 := by
  simp [State.startUp]

theorem State.startUp_heldCount : (s.startUp straps counters).arbiter.heldCount = 0 := State.reset_heldCount

end

/-- What a start-up load of `s` leaves of the store, the settings, the descriptions and the seats: the image, or the
defaults when its marker is clear, as it is when a write was in flight (R157, R161). -/
abbrev State.Loaded (s t : State) : Prop :=
  t.store.job = .idle ∧ (s.store.job = .idle → t.store.image = s.store.image) ∧
  (s.store.job ≠ .idle → t.store.image.valid = false) ∧
  t.store.source = (if t.store.image.valid then .restored else .defaults) ∧
  (t.store.image.valid = true → t.settings = t.store.image.settings ∧ t.arbiter.effective = t.settings.slots) ∧
  (t.store.image.valid = false → t.settings = {} ∧ t.arbiter.effective = 3) ∧
  (∀ k : ClosureId,
    (t.store.image.valid = true → t.closures[k].desc = t.store.image.descriptions[k]) ∧
    (t.store.image.valid = false → t.closures[k].desc = {}) ∧
    t.closures[k].profile.dirty = !t.store.image.valid) ∧
  (∀ n : SeatId, t.seats[n].queue = [] ∧ t.seats[n].reply = none ∧ t.seats[n].line = false ∧
    (t.store.image.valid = true → t.seats[n].record = t.store.image.records[n]))

theorem State.startUp_loaded (s : State) (straps : Fin 4) (counters : ClosureId → Counter) :
    s.Loaded (s.cutStore.startUp straps counters) := by
  have image : (s.cutStore.startUp straps counters).store.image = s.cutStore.store.image := rfl
  refine ⟨rfl, fun idle => ?_, fun busy => ?_, rfl, fun valid => ?_, fun invalid => ?_, fun k => ?_, fun n => ?_⟩
  · rw [image, State.cutStore_of_idle idle]
  · rw [image, State.cutStore_invalid busy]
  · exact ⟨congrArg Image.settings (Image.atStart_of_valid valid), rfl⟩
  · have blank := congrArg Image.settings (Image.atStart_of_invalid invalid)
    exact ⟨blank, congrArg Settings.slots blank⟩
  · rw [State.startUp_closures, Image.closure_eq]
    refine ⟨fun valid => ?_, fun invalid => ?_, rfl⟩
    · exact congrArg (fun x : Image => x.descriptions[k]) (Image.atStart_of_valid valid)
    · exact (congrArg (fun x : Image => x.descriptions[k]) (Image.atStart_of_invalid invalid)).trans (by simp)
  · rw [State.startUp_seats]
    exact ⟨rfl, rfl, rfl, fun valid => congrArg (fun x : Image => x.records[n]) (Image.atStart_of_valid valid)⟩

/-- With both markers set a cold start takes the stored position and validity (R21). -/
theorem State.coldCounters_trusted {s : State} (valid : s.store.image.valid = true)
    (parked : s.store.image.parked = true) (a b : Byte) (k : ClosureId) :
    (s.coldCounters a b k).position = s.store.image.positions[k].pos ∧
    (s.coldCounters a b k).validity = s.store.image.positions[k].validity := by
  simp only [State.coldCounters, Counter.cold, valid, parked, Bool.and_self, if_true, and_self]

/-- With a marker clear a cold start takes position 0, LOST (R21). -/
theorem State.coldCounters_untrusted {s : State} (h : s.store.image.valid = false ∨ s.store.image.parked = false)
    (a b : Byte) (k : ClosureId) :
    (s.coldCounters a b k).position = 0 ∧ (s.coldCounters a b k).validity = .lost := by
  have untrusted : (s.store.image.valid && s.store.image.parked) = false := by
    rcases h with h | h <;> simp [h]
  simp only [State.coldCounters, Counter.cold, untrusted, Bool.false_eq_true, if_false, and_self]

/-- The reset input at a part that is awake is a start-up load that keeps the counters (R21, R161). -/
theorem exec_resetInput {s : State} (dt : Nat) (straps : Fin 4) (powered : s.powered = true)
    (awake : s.asleepSince = none) : exec (.resetInput dt straps) s =
      .next ((s.advance dt).cutStore.startUp straps (s.advance dt).cutStore.resetCounters) := by
  have unpowered : (!(s.advance dt).powered) = false := by simp [powered]
  simp only [exec, execResetInput, unpowered, State.wake_of_awake (s := s.advance dt) awake, Bool.false_eq_true, if_false]

/-- Settles O59: both are start-up loads; the reset input's counters are those in use, the cold start's the stored ones. -/
theorem resetAndColdStart : Obligations.ResetAndColdStart := by
  refine ⟨fun dt straps s powered awake => ⟨_, exec_resetInput dt straps powered awake, rfl, rfl, rfl, rfl, rfl,
    State.startUp_loaded _ _ _, rfl, rfl, rfl, State.startUp_heldCount _ _ _, State.startUp_words _ _ _, fun k => ?_⟩,
    fun dt straps a b s => ⟨_, rfl, rfl, rfl, State.startUp_loaded _ _ _, rfl, State.startUp_words _ _ _, fun k => ?_⟩⟩
  · have counter : (s.advance dt).cutStore.resetCounters k = s.closures[k].counter.reset
        (decide ((s.advance dt).cutStore.store.image.atStart.descriptions[k].polarity = s.closures[k].desc.polarity)) := by
      simp only [State.resetCounters, State.cutStore_closures, State.advance_closures]
    rw [State.startUp_closures, Image.closure_eq, counter]
    refine ⟨rfl, rfl, rfl, rfl, rfl, rfl, rfl, rfl, fun lost => ?_, fun below same => ?_⟩
    · rcases lost with above | differs
      · exact if_pos above
      · refine ite_eq_left_iff.mpr fun _ => ?_
        exact if_neg (by simpa using differs)
    · refine (if_neg (not_lt.mpr below)).trans ?_
      exact if_pos (by simpa using same)
  · rw [State.startUp_closures, Image.closure_eq]
    refine ⟨rfl, rfl, rfl, rfl, fun valid parked => ?_, fun untrusted => ?_⟩
    · obtain ⟨position, validity⟩ := State.coldCounters_trusted (s := (s.advance dt).cutStore) valid parked a b k
      rw [position, validity, Image.atStart_of_valid (x := (s.advance dt).cutStore.store.image) valid]
      exact ⟨rfl, fun below => if_neg (not_lt.mpr below), fun above => if_pos above⟩
    · obtain ⟨position, validity⟩ := State.coldCounters_untrusted (s := (s.advance dt).cutStore) untrusted a b k
      rw [position, validity]
      refine ⟨min_eq_right (by omega), ?_⟩
      dsimp only
      rw [ite_self]

end Sys2Proof.Machine
end

section
/-! PROOFS. Hall edges and phase faults at an attentive part: how a phase is read (R8), what a refused edge (R10) and a
loss of position (R15, R101) come to, and the removal of a queued move (R104). -/
namespace Sys2Proof.Machine

/-! Edges (R8). -/

/-- The direction of an edge, by the phases and the polarity. -/
theorem ClosureState.edgeDirection_eq (c : ClosureState) (ph : Phase) :
    edgeDirection c.desc.polarity (c.counter.aLeading ph) = c.edgeToward ph := by
  unfold ClosureState.edgeToward Counter.aLeading
  cases ph <;> cases c.counter.phaseA <;> cases c.counter.phaseB <;> cases c.desc.polarity <;> rfl

/-- A closure whose phase state has taken an edge. -/
def ClosureState.toggled (c : ClosureState) (ph : Phase) : ClosureState :=
  { c with counter := { c.counter with
      phaseA := if ph = .a then !c.counter.phaseA else c.counter.phaseA
      phaseB := if ph = .b then !c.counter.phaseB else c.counter.phaseB } }

theorem ClosureState.toggled_eq (c : ClosureState) (ph : Phase) :
    { c with counter := c.counter.toggle ph } = c.toggled ph := by
  cases ph <;> rfl

theorem ClosureState.atLimit_eq_false {c : ClosureState} {ph : Phase} (h : c.Counts ph) :
    c.atLimit (c.edgeToward ph) = false := by
  obtain ⟨-, lowest, highest⟩ := h
  cases hd : c.edgeToward ph with
  | closing => exact decide_eq_false (not_le.mpr (lowest hd))
  | opening => exact decide_eq_false (not_le.mpr (highest hd))

theorem ClosureState.atLimit_eq_true {c : ClosureState} {ph : Phase}
    (h : (c.edgeToward ph = .closing ∧ c.counter.position = -64) ∨
      (c.edgeToward ph = .opening ∧ c.counter.position = c.desc.travel + 64)) : c.atLimit (c.edgeToward ph) = true := by
  rcases h with ⟨hd, hp⟩ | ⟨hd, hp⟩
  · rw [hd]
    exact decide_eq_true hp.le
  · rw [hd]
    exact decide_eq_true hp.ge

section
variable {s t : State} {dt : Nat} {k : ClosureId} {ph : Phase}

/-- An edge at an attentive part (R8, R19). -/
theorem exec_hallEdge_attentive (h : s.Attentive) : exec (.hallEdge dt k ph) s = .next
    (if s.closures[k].desc.cls = .unused then ((s.later dt).withClosure k (s.closures[k].toggled ph)).sleepTest
     else ((s.later dt).hallEdge k ph).sleepTest) := by
  obtain ⟨powered, awake, -⟩ := h
  have later : s.advance dt = s.later dt := rfl
  have unpowered : (!(s.later dt).powered) = false := by simp [powered]
  simp only [exec, execHallEdge, later, unpowered, State.wake_of_awake (s := s.later dt) awake, Bool.false_eq_true,
    if_false, State.later_closures, State.modCounter_eq, ClosureState.toggled_eq]

/-- An edge of a closure in use at an attentive part. -/
theorem exec_hallEdge (h : s.Attentive) (used : s.closures[k].desc.cls ≠ .unused) (ht : (s.later dt).hallEdge k ph = t)
    (hl : t.link = s.link) : exec (.hallEdge dt k ph) s = .next t := by
  rw [exec_hallEdge_attentive h, if_neg used, ht, State.sleepTest_of_quietTimer (by rw [hl]; exact h.2.2)]

/-- An edge of an UNUSED closure changes its phase state alone (R19). -/
theorem exec_hallEdge_unused (h : s.Attentive) (unused : s.closures[k].desc.cls = .unused) :
    exec (.hallEdge dt k ph) s = .next ((s.later dt).withClosure k (s.closures[k].toggled ph)) := by
  rw [exec_hallEdge_attentive h, if_pos unused]
  exact congrArg Host.Outcome.next (State.sleepTest_of_quietTimer h.2.2)

/-- A refused edge: the position is LOST, and the stall timer and a settling restart (R10). -/
theorem State.hallEdge_refused (u : State) (limit : u.closures[k].atLimit (u.closures[k].edgeToward ph) = true) :
    u.hallEdge k ph = ((u.withClosure k (u.closures[k].toggled ph)).losePosition k).modClosure k
      fun c => (c.restartStall u.now).restartQuiet u.now := by
  simp only [State.hallEdge, ClosureState.edgeDirection_eq, limit, if_true, State.modCounter_eq, ClosureState.toggled_eq]
  rfl

/-- A counted edge (R8). -/
theorem State.hallEdge_counted (u : State) (counts : u.closures[k].Counts ph) :
    u.hallEdge k ph = (u.withClosure k (u.closures[k].toggled ph)).takePulse k (u.closures[k].edgeToward ph)
      (decide (u.closures[k].Rising ph)) := by
  have rising : (decide (ph = .a) && !u.closures[k].counter.phaseA) = decide (u.closures[k].Rising ph) := by
    simp [ClosureState.Rising]
  simp only [State.hallEdge, ClosureState.edgeDirection_eq, ClosureState.atLimit_eq_false counts, Bool.false_eq_true,
    if_false, State.modCounter_eq, ClosureState.toggled_eq, rising]

/-- A closure whose two phases have changed together, before its step record is emptied (R9). -/
def ClosureState.bothToggled (c : ClosureState) : ClosureState :=
  { c with counter := { c.counter with phaseA := !c.counter.phaseA, phaseB := !c.counter.phaseB } }

/-- A phase fault at an attentive part (R9, R19). -/
theorem exec_phaseFault_attentive (h : s.Attentive) : exec (.phaseFault dt k) s = .next
    (if s.closures[k].desc.cls = .unused then ((s.later dt).withClosure k s.closures[k].bothToggled).sleepTest
     else (((s.later dt).withClosure k s.closures[k].bothToggled).phaseFault k).sleepTest) := by
  have later : s.advance dt = s.later dt := rfl
  have unpowered : (!(s.later dt).powered) = false := by simp [h.1]
  have sampled : (s.later dt).modCounter k (fun x => (x.toggle .a).toggle .b) =
      (s.later dt).withClosure k s.closures[k].bothToggled := rfl
  simp only [exec, execPhaseFault, later, unpowered, Bool.false_eq_true, if_false, State.later_closures, sampled]

/-- A phase fault of a closure in use at an attentive part (R9). -/
theorem exec_phaseFault (h : s.Attentive) (used : s.closures[k].desc.cls ≠ .unused)
    (ht : ((s.later dt).withClosure k s.closures[k].bothToggled).phaseFault k = t) (hl : t.link = s.link) :
    exec (.phaseFault dt k) s = .next t := by
  rw [exec_phaseFault_attentive h, if_neg used, ht, State.sleepTest_of_quietTimer (by rw [hl]; exact h.2.2)]

/-- A phase fault of an UNUSED closure changes its phase state alone (R19). -/
theorem exec_phaseFault_unused (h : s.Attentive) (unused : s.closures[k].desc.cls = .unused) :
    exec (.phaseFault dt k) s = .next ((s.later dt).withClosure k s.closures[k].bothToggled) := by
  rw [exec_phaseFault_attentive h, if_pos unused]
  exact congrArg Host.Outcome.next (State.sleepTest_of_quietTimer h.2.2)

end

/-! Restarts of the stall timer and of a settling (R10, R13, R102). -/

section
variable {c : ClosureState} (now : Nat)

theorem ClosureState.restartStall_hold (h : c.ctx.permit = .hold) : c.restartStall now = c := by
  simp only [ClosureState.restartStall, h]

theorem ClosureState.restartStall_drive {d : Direction} (h : c.ctx.permit = .drive d) : c.restartStall now =
    { c with counter := { c.counter with stallTimer := some (now + c.desc.stallUnits * 10000) } } := by
  simp only [ClosureState.restartStall, h]
  rfl

theorem ClosureState.restartQuiet_settling (h : c.ctx.state = .settling) : c.restartQuiet now =
    { c with ctx := { c.ctx with quietTimer := some (now + 30000) } } := by
  simp only [ClosureState.restartQuiet, h]
  rfl

theorem ClosureState.restartQuiet_other (h : c.ctx.state ≠ .settling) : c.restartQuiet now = c := by
  unfold ClosureState.restartQuiet
  split
  · exact absurd ‹_› h
  all_goals rfl

/-- A closure that has just entered SETTLING has its quiet timer started already. -/
theorem ClosureState.restartQuiet_settledAt (r : EndReason) (w : Option SeatId) :
    (c.settledAt now r w).restartQuiet now = c.settledAt now r w := rfl

end

/-! Notices (R130, R131). -/

section
variable (n : SeatState) (now : Nat) (x : Notice)

theorem SeatState.post_record : (n.post now x).record = n.record := by
  simp only [SeatState.post, SeatState.retest]
  split
  · split <;> rfl
  · split
    · split
      · split <;> rfl
      · rfl
    · rfl

/-- A queue with room takes a notice at its end (R131). -/
theorem SeatState.post_room (room : n.queue.length < 16) :
    (n.post now x).queue = n.queue ++ [x] ∧ (n.post now x).lossCount = n.lossCount := by
  have room : n.queue.length < Config.queueLength := room
  simp only [SeatState.post, SeatState.retest, room, if_true]
  split <;> exact ⟨rfl, rfl⟩

end

section
variable {s t : State} {chosen : SeatId → Bool} {body : NoticeBody}

/-- The seats after a notice has been posted tell of it the seats it was posted to, and no other (R130). -/
theorem State.told_of_seats {hears : SeatId → Prop} (hs : t.seats = (s.postTo chosen body).seats)
    (hh : ∀ n, chosen n = true ↔ hears n) : s.Told t hears body s.now := by
  intro n
  rw [← hh n, hs, State.postTo_seats]
  simp only [Fin.getElem_fin, Vector.getElem_ofFn]
  refine ⟨fun hears room => ?_, fun deaf => ?_⟩
  · rw [if_pos hears]
    exact SeatState.post_room _ _ _ room
  · rw [if_neg deaf]
    exact ⟨rfl, rfl, rfl⟩

theorem State.record_of_seats (hs : t.seats = (s.postTo chosen body).seats) (n : SeatId) :
    t.seats[n].record = s.seats[n].record := by
  rw [hs, State.postTo_seats]
  simp only [Fin.getElem_fin, Vector.getElem_ofFn]
  split
  · exact SeatState.post_record _ _ _
  · rfl

end

/-- The seats that hear of an owner's move are the owner and the subscribers (R130). -/
theorem State.hears_iff (s : State) (k : ClosureId) (owner n : SeatId) :
    (decide (n = owner) || s.subscribes k n) = true ↔ s.Hears k owner n := by
  rw [Bool.or_eq_true, decide_eq_true_iff]
  rfl

/-! Removal of a queued move (R104). -/

/-- The closure that a removal leaves (R104, R142). -/
theorem ClosureState.removedAt_eq (c : ClosureState) (k : ClosureId) (m : Move) (r : EndReason) (w : Option SeatId)
    (reading : Nat) : c.removedAt k m r w reading =
      ClosureState.toIdle { c with
        stats := if c.desc.statsOn then c.stats.removal r else c.stats
        lastOutcome := some (c.removedOutcome k m r w reading) } := by
  have stats : (if c.desc.statsOn = true ∧ r = .holdLapsed then
      { c.stats with counters := { c.stats.counters with lapses := min 65535 (c.stats.counters.lapses + 1) } }
      else c.stats) = if c.desc.statsOn then c.stats.removal r else c.stats := by
    unfold Stats.removal
    cases c.desc.statsOn <;> simp [countUp, satAdd, Config.wordMax]
  rw [ClosureState.removedAt, stats]
  rfl

theorem State.remove_removed {u : State} {k : ClosureId} {m : Move} (r : EndReason) (w : Option SeatId)
    (hm : u.closures[k].ctx.move = some m) : u.RemovedMove (u.remove k r w) k m r w u.now := by
  have removed : u.remove k r w = (((u.leaveQueue k).modClosure k fun x =>
      { x with
        stats := if x.desc.statsOn then x.stats.removal r else x.stats
        lastOutcome := some (u.closures[k].removedOutcome k m r w u.front.reading) }).postOwner k m.seat
          (.moveEnded (u.closures[k].removedOutcome k m r w u.front.reading))).modClosure k ClosureState.toIdle := by
    simp only [State.remove, hm]
  have seats : (u.remove k r w).seats = (u.postTo (fun n => decide (n = m.seat) || u.subscribes k n)
      (.moveEnded (u.closures[k].removedOutcome k m r w u.front.reading))).seats := by
    rw [removed]
    rfl
  refine ⟨?_, ?_, State.told_of_seats seats (u.hears_iff k m.seat), ?_, ?_, ?_, ?_, ?_, State.record_of_seats seats⟩
  · rw [removed, ClosureState.removedAt_eq]
    exact congrArg State.closures ((u.leaveQueue k).modClosure_withClosure k _ ClosureState.toIdle)
  all_goals
    rw [removed]
    rfl

end Sys2Proof.Machine
end

section
/-! PROOFS. Phase faults and edges refused at a limit (R9, R10, R15, R19, R101). -/
namespace Sys2Proof.Machine

/-! Phase faults (R9). -/

/-- A closure that counts one more phase fault. -/
def ClosureState.faultCounted (c : ClosureState) : ClosureState :=
  { c with counter := { c.counter with phaseFaults := min 4 (c.counter.phaseFaults + 1) } }

section
variable (u : State) {k : ClosureId} {c : ClosureState}

theorem State.phaseFault_resting (resting : c.ctx.state = .idle ∨ c.ctx.state = .queued) :
    (u.withClosure k c).phaseFault k = (u.withClosure k c.emptyStep).losePosition k := by
  simp only [State.phaseFault, State.withClosure_self, State.modClosure_withClosure]
  rcases resting with hc | hc <;> simp only [hc]

theorem State.phaseFault_moving (moving : (c.ctx.state = .running ∨ c.ctx.state = .reversing) ∨ c.ctx.state = .settling) :
    (u.withClosure k c).phaseFault k = (u.withClosure k c.emptyStep).moveFault k := by
  simp only [State.phaseFault, State.withClosure_self, State.modClosure_withClosure]
  rcases moving with (hc | hc) | hc <;> simp only [hc]

theorem State.moveFault_counts (h : c.counter.phaseFaults ≠ 3) :
    (u.withClosure k c).moveFault k = u.withClosure k c.faultCounted := by
  have notFourth : c.counter.phaseFaults + 1 ≠ Config.faultLimit := fun e => h (Nat.succ.inj e)
  simp only [State.moveFault, State.withClosure_self, State.modCounter_withClosure, notFourth, if_false]
  rfl

/-- The fourth phase fault of a move ends it POSITION_LOST. -/
theorem State.moveFault_ends (h : c.counter.phaseFaults = 3) (moves : c.ctx.state = .running ∨ c.ctx.state = .reversing) :
    (u.withClosure k c).moveFault k = (u.withClosure k c.faultCounted.lose).endMove k .positionLost none := by
  have fourth : c.counter.phaseFaults + 1 = Config.faultLimit := congrArg (· + 1) h
  simp only [State.moveFault, State.withClosure_self, State.modCounter_withClosure]
  rw [if_pos fourth]
  rcases moves with hc | hc <;> simp only [hc] <;> rfl

theorem State.moveFault_settling (h : c.counter.phaseFaults = 3) (settling : c.ctx.state = .settling) :
    (u.withClosure k c).moveFault k = u.withClosure k c.faultCounted.lose := by
  have fourth : c.counter.phaseFaults + 1 = Config.faultLimit := congrArg (· + 1) h
  simp only [State.moveFault, State.withClosure_self, State.modCounter_withClosure, settling]
  exact if_pos fourth

/-- The removal of the move of a closure just written (R104). -/
theorem State.withClosure_removed {m : Move} (r : EndReason) (w : Option SeatId) (hm : c.ctx.move = some m) :
    (u.withClosure k c).RemovedMove ((u.withClosure k c).remove k r w) k m r w u.now :=
  State.remove_removed (u := u.withClosure k c) r w (by rw [State.withClosure_self, hm])

theorem State.withClosure_removed_ctx {m : Move} (r : EndReason) (w : Option SeatId) (hm : c.ctx.move = some m) :
    ((u.withClosure k c).remove k r w).closures[k].ctx = {} := by
  rw [(State.withClosure_removed u r w hm).1]
  simp [ClosureState.removedAt]

end

/-! Edges refused at a limit (R10). -/

section
variable {s : State} {dt : Nat} {k : ClosureId} {ph : Phase}

/-- A refused edge of a closure in use, once it is known what the loss of position comes to. -/
theorem exec_hallEdge_refused {t : State} (h : s.Attentive) (used : s.closures[k].desc.cls ≠ .unused)
    (limit : s.closures[k].atLimit (s.closures[k].edgeToward ph) = true)
    (ht : ((s.later dt).withClosure k (s.closures[k].toggled ph)).losePosition k = t) (hl : t.link = s.link) :
    exec (.hallEdge dt k ph) s =
      .next (t.modClosure k fun c => (c.restartStall (s.now + dt)).restartQuiet (s.now + dt)) := by
  subst ht
  exact exec_hallEdge h used (State.hallEdge_refused (s.later dt) limit) hl

/-- A refused edge that ends no move (R10). -/
theorem exec_hallEdge_kept {x : ClosureState} (h : s.Attentive) (used : s.closures[k].desc.cls ≠ .unused)
    (limit : s.closures[k].atLimit (s.closures[k].edgeToward ph) = true) (kept : s.closures[k].KeepsMove)
    (hx : ((s.closures[k].toggled ph).lose.restartStall (s.now + dt)).restartQuiet (s.now + dt) = x) :
    exec (.hallEdge dt k ph) s = .next ((s.later dt).withClosure k x) := by
  rw [exec_hallEdge_refused h used limit (State.losePosition_kept _ _ _ kept) rfl, State.modClosure_withClosure, hx]

end

/-- Settles O47: each event loses the position, and with it a move that needs one; what a fault or a refused edge does
besides stands in the closure alone. -/
theorem positionLosses : Obligations.PositionLosses := by
  intro dt k s h c now becomes ended removed lost goesOn faulted counted inMove
  refine ⟨fun used => ⟨fun idle _ => ?_, fun moving few => ?_, fun moving fourth hq => ?_, fun settling fourth => ?_,
    fun m queued hm valid needs => ?_, fun m queued hm keeps => ?_⟩, fun ph => ?_,
    fun unused => ⟨exec_phaseFault_unused h unused, exec_hallEdge_unused h unused, exec_hallEdge_unused h unused⟩⟩
  · refine exec_phaseFault h used ((State.phaseFault_resting (s.later dt) (c := c.bothToggled) (.inl idle)).trans ?_) rfl
    exact State.losePosition_kept (s.later dt) k c.bothToggled.emptyStep (.inr (.inr (.inl idle)))
  · refine exec_phaseFault h used ((State.phaseFault_moving (s.later dt) (c := c.bothToggled) moving).trans ?_) rfl
    exact State.moveFault_counts (s.later dt) (c := c.bothToggled.emptyStep) few
  · refine exec_phaseFault h used
      ((State.phaseFault_moving (s.later dt) (c := c.bothToggled) (.inl moving)).trans ?_) rfl
    exact (State.moveFault_ends (s.later dt) (c := c.bothToggled.emptyStep) fourth moving).trans
      (State.endMove_withClosure k _ dt _ _ hq)
  · refine exec_phaseFault h used
      ((State.phaseFault_moving (s.later dt) (c := c.bothToggled) (.inr settling)).trans ?_) rfl
    exact State.moveFault_settling (s.later dt) (c := c.bothToggled.emptyStep) fourth settling
  · refine ⟨_, ?_, State.withClosure_removed (s.later dt) (c := c.bothToggled.emptyStep.lose) _ _ hm⟩
    refine exec_phaseFault h used
      ((State.phaseFault_resting (s.later dt) (c := c.bothToggled) (.inr queued)).trans ?_)
      (State.sameOutside_remove _ _ _ _).link
    exact State.losePosition_removes (s.later dt) k c.bothToggled.emptyStep valid hm needs queued
  · refine exec_phaseFault h used
      ((State.phaseFault_resting (s.later dt) (c := c.bothToggled) (.inr queued)).trans ?_) rfl
    exact State.losePosition_kept (s.later dt) k c.bothToggled.emptyStep (ClosureState.keepsMove_of_goesOn hm keeps)
  · intro edge toggled restarted used atLimit
    have limit := ClosureState.atLimit_eq_true atLimit
    refine ⟨fun idle _ hold => ?_, fun settling hold => ?_, fun m moves hm valid needs hq => ?_,
      fun m d moves hm drive keeps => ?_, fun m queued hm valid needs => ?_, fun m rests hold hm keeps => ?_⟩
    · refine exec_hallEdge_kept h used limit (.inr (.inr (.inl idle))) ?_
      rw [ClosureState.restartStall_hold (c := (c.toggled ph).lose) _ hold]
      exact ClosureState.restartQuiet_other _ (fun e => nomatch idle.symm.trans e)
    · refine exec_hallEdge_kept h used limit (.inr (.inr (.inr settling))) ?_
      rw [ClosureState.restartStall_hold (c := (c.toggled ph).lose) _ hold]
      exact ClosureState.restartQuiet_settling _ settling
    · have ends := (State.losePosition_ends (s.later dt) k (c.toggled ph) valid hm needs moves).trans
        (State.endMove_withClosure k _ dt _ _ hq)
      refine (exec_hallEdge_refused h used limit ends rfl).trans (congrArg Host.Outcome.next ?_)
      refine State.modClosure_fixed ?_
      rw [State.moveEnded_self]
      rfl
    · refine exec_hallEdge_kept h used limit (ClosureState.keepsMove_of_goesOn hm keeps) ?_
      rw [ClosureState.restartStall_drive (c := (c.toggled ph).lose) _ drive]
      exact ClosureState.restartQuiet_other _ (fun e => by rcases moves with x | x <;> exact nomatch x.symm.trans e)
    · have idle := State.withClosure_removed_ctx (s.later dt) (k := k) (c := (c.toggled ph).lose) .positionLost none hm
      refine ⟨_, (exec_hallEdge_refused h used limit
        (State.losePosition_removes (s.later dt) k (c.toggled ph) valid hm needs queued)
        (State.sameOutside_remove _ _ _ _).link).trans (congrArg Host.Outcome.next (State.modClosure_fixed ?_)),
        State.withClosure_removed (s.later dt) _ _ hm⟩
      rw [ClosureState.restartStall_hold _ (by rw [idle]), ClosureState.restartQuiet_other _ (by rw [idle]; decide)]
    · refine exec_hallEdge_kept h used limit (ClosureState.keepsMove_of_goesOn hm keeps) ?_
      rw [ClosureState.restartStall_hold (c := (c.toggled ph).lose) _ hold]
      exact ClosureState.restartQuiet_other _ (fun e => by rcases rests with x | x <;> exact nomatch x.symm.trans e)

end Sys2Proof.Machine
end

section
/-! PROOFS. A counted pulse and the step that it completes (R8, R11 to R14, R27 to R42, R61, R66), as the closure that
they leave. -/
namespace Sys2Proof.Machine

/-! The pulse (R8, operations 3 to 5). -/

/-- A pulse in the direction that follows one in the other direction (R11). -/
def Counter.turns (x : Counter) (d : Direction) : Bool := x.lastDir.isSome && decide (x.lastDir ≠ some d)

theorem Counter.turns_iff (x : Counter) (d : Direction) :
    x.turns d = true ↔ ¬ (x.lastDir = none ∨ x.lastDir = some d) := by
  unfold Counter.turns
  cases x.lastDir <;> simp

/-- A pulse, operations 3 and 4 of R8. -/
theorem ClosureState.countPulse_eq (c : ClosureState) (d : Direction) : c.countPulse d =
    { c with
      counter := { c.counter with
        position := if d = .opening then c.counter.position + 1 else c.counter.position - 1
        lastDir := some d
        stepRecord := if c.counter.turns d then none else c.counter.stepRecord }
      sense := if c.counter.turns d then { c.sense with isOpen := false, sum := 0, count := 0 } else c.sense } := by
  have position : pulsed c.counter.position d =
      if d = .opening then c.counter.position + 1 else c.counter.position - 1 := by
    cases d <;> rfl
  unfold ClosureState.countPulse
  rw [position]
  by_cases turns : c.counter.turns d = true
  · simp only [if_neg ((c.counter.turns_iff d).mp turns), turns, if_true]
    rfl
  · simp only [if_pos (not_not.mp ((c.counter.turns_iff d).not.mp turns)), turns]
    rfl

/-- The supervision of a pulse, but for the direction fault itself (R13, R14). -/
def ClosureState.supervised (c : ClosureState) (now : Nat) (d : Direction) : ClosureState :=
  { c.restartStall now with counter := { (c.restartStall now).counter with
      dirFaultRun := c.counter.runAfter c.ctx.permit d } }

theorem ClosureState.supervised_hold {c : ClosureState} {now : Nat} {d : Direction} (h : c.ctx.permit = .hold) :
    c.supervised now d = c := by
  simp only [ClosureState.supervised, ClosureState.restartStall_hold now h, h, Counter.runAfter]

theorem ClosureState.supervised_drive {c : ClosureState} {now : Nat} {d e : Direction} (h : c.ctx.permit = .drive e) :
    c.supervised now d = { c with counter := { c.counter with
      stallTimer := some (now + c.desc.stallUnits * 10000)
      dirFaultRun := if e = d then 0 else c.counter.dirFaultRun + 1 } } := by
  simp only [ClosureState.supervised, ClosureState.restartStall_drive now h, h, Counter.runAfter, eq_comm (a := d)]

theorem ClosureState.supervised_countPulse (c : ClosureState) (ph : Phase) (now : Nat) :
    ((c.toggled ph).countPulse (c.edgeToward ph)).supervised now (c.edgeToward ph) = c.pulsedAt ph now := by
  rw [ClosureState.countPulse_eq]
  unfold ClosureState.pulsedAt
  cases hp : c.ctx.permit with
  | hold =>
    refine (ClosureState.supervised_hold ?_).trans ?_
    · exact hp
    · rfl
  | drive e =>
    refine (ClosureState.supervised_drive (e := e) ?_).trans ?_
    · exact hp
    · rfl

section
variable (u : State) (k : ClosureId) (c : ClosureState) (ph : Phase)

theorem State.superviseDirection_withClosure (d : Direction) : (u.withClosure k c).superviseDirection k d =
    if c.ctx.permit ≠ .hold ∧ 8 ≤ (c.supervised u.now d).counter.dirFaultRun then
      (u.withClosure k (c.supervised u.now d)).directionFault k
    else u.withClosure k (c.supervised u.now d) := by
  simp only [State.superviseDirection, State.withClosure_self, State.modClosure_withClosure]
  rfl

/-- A pulse is counted and supervised: the eighth of a run against the permit is a direction fault (R14). -/
theorem State.superviseDirection_countPulse :
    ((u.withClosure k (c.toggled ph)).modClosure k (ClosureState.countPulse (c.edgeToward ph))).superviseDirection k
        (c.edgeToward ph) =
      if c.ctx.permit ≠ .hold ∧ 8 ≤ (c.pulsedAt ph u.now).counter.dirFaultRun then
        (u.withClosure k (c.pulsedAt ph u.now)).directionFault k
      else u.withClosure k (c.pulsedAt ph u.now) := by
  have permit : ((c.toggled ph).countPulse (c.edgeToward ph)).ctx.permit = c.ctx.permit := by
    rw [ClosureState.countPulse_eq]
    rfl
  rw [State.modClosure_withClosure, State.superviseDirection_withClosure, permit, ClosureState.supervised_countPulse]

end

/-! The step record (R11, R12). -/

section
variable {c x : ClosureState} {ph : Phase} {e : StepEdge}

theorem ClosureState.completes_eq_some :
    c.completes ph x = some e ↔ c.Rising ph ∧ x.counter.stepRecord = some e ∧ e.dir = c.edgeToward ph := by
  unfold ClosureState.completes
  by_cases rising : c.Rising ph
  · simp [rising, Option.filter_eq_some_iff]
  · simp [rising]

theorem ClosureState.edgeNotedAt_falling (now : Nat) (h : ¬ c.Rising ph) : c.edgeNotedAt x ph now = x := by
  have none : c.completes ph x = none := if_neg h
  simp only [ClosureState.edgeNotedAt, none, if_neg h]

theorem ClosureState.edgeNotedAt_none (now : Nat) (rising : c.Rising ph) (h : c.completes ph x = none) :
    c.edgeNotedAt x ph now = x.edgeTaken now (c.edgeToward ph) := by
  simp only [ClosureState.edgeNotedAt, h, if_pos rising]

theorem ClosureState.edgeNotedAt_some (now : Nat) (h : c.completes ph x = some e) : c.edgeNotedAt x ph now =
    { x.edgeTaken now (c.edgeToward ph) with
      counter := { (x.edgeTaken now (c.edgeToward ph)).counter with overspeed := decide (now - e.time < 200) } } := by
  have rising := (ClosureState.completes_eq_some.mp h).1
  simp only [ClosureState.edgeNotedAt, h, if_pos rising]

end

section
variable (u : State) (k : ClosureId) {c x : ClosureState} {ph : Phase} {d : Direction} {e : StepEdge}

/-- A rising edge that completes no step (R11). -/
theorem State.stepLogic_noStep (h : x.counter.stepRecord.filter (fun e => decide (e.dir = d)) = none) :
    (u.withClosure k x).stepLogic k d = u.withClosure k (x.edgeTaken u.now d) := by
  simp only [State.stepLogic, State.withClosure_self, State.modCounter_withClosure, State.modClosure_withClosure]
  cases hr : x.counter.stepRecord with
  | none => rfl
  | some e =>
    have other : e.dir ≠ d := by simpa [hr, Option.filter_some] using h
    simp only [other, if_false]
    rfl

/-- A step completed in a direction that the permit does not drive is not measured (R12). -/
theorem State.stepLogic_unmeasured (hr : x.counter.stepRecord = some e) (dir : e.dir = d)
    (undriven : x.ctx.permit ≠ .drive d) :
    (u.withClosure k x).stepLogic k d = u.withClosure k { x.edgeTaken u.now d with
      counter := { (x.edgeTaken u.now d).counter with overspeed := decide (u.now - e.time < 200) } } := by
  simp only [State.stepLogic, State.withClosure_self, State.modCounter_withClosure, State.modClosure_withClosure, hr,
    dir, if_true, State.stepCompleted, undriven, if_false]
  rfl

/-- An edge that completes no step, or one against the permit, is noted and no more (R11, R12). -/
theorem State.stepLogic_noted (h : c.completes ph x = none ∨ x.ctx.permit ≠ .drive (c.edgeToward ph)) :
    (if decide (c.Rising ph) then (u.withClosure k x).stepLogic k (c.edgeToward ph) else u.withClosure k x) =
      u.withClosure k (c.edgeNotedAt x ph u.now) := by
  by_cases rising : c.Rising ph
  · rw [if_pos (decide_eq_true rising)]
    cases hs : c.completes ph x with
    | none =>
      rw [ClosureState.edgeNotedAt_none _ rising hs]
      exact State.stepLogic_noStep u k ((if_pos rising).symm.trans hs)
    | some e =>
      obtain ⟨-, hr, dir⟩ := ClosureState.completes_eq_some.mp hs
      rw [ClosureState.edgeNotedAt_some _ hs]
      exact State.stepLogic_unmeasured u k hr dir (h.resolve_left (by rw [hs]; exact Option.some_ne_none e))
  · rw [if_neg (by simpa using rising), ClosureState.edgeNotedAt_falling _ rising]

end

/-! A measured step (R12, R23, R27 to R42). -/

section
variable {x : ClosureState} {d : Direction}

theorem Description.stepZone_eq (y : Description) (p : Int) : y.stepZone p = y.zone (max 0 (min (y.travel : Int) p)) := by
  unfold Description.stepZone clampInt
  congr 1
  split
  · omega
  · split <;> omega

/-- The path of a step under the permit toward `d` (R27). -/
theorem ClosureState.path_eq (driven : x.ctx.permit = .drive d) : x.path = x.pathToward d := by
  unfold ClosureState.path ClosureState.pathToward
  refine if_congr ?_ rfl rfl
  have full : x.readiness = .full ↔ x.counter.validity = .valid ∧ x.profile.status = .learned := by
    unfold ClosureState.readiness
    cases x.counter.validity <;> cases x.profile.status <;> decide
  rw [full, driven, Permit.drive.injEq, and_assoc]

theorem ClosureState.rawLoad_eq (driven : x.ctx.permit = .drive d) (period current supply : Nat) (pos : Int) :
    x.rawLoad x.path period current supply pos = x.rawLoadAt d period current supply pos := by
  unfold ClosureState.rawLoad ClosureState.rawLoadAt
  rw [ClosureState.path_eq driven]
  cases x.pathToward d with
  | profile => simp only [profileLoad, Description.stepZone_eq]
  | fallback => rfl

/-- A trace entry that has room for one more step (R41). -/
theorem TraceEntry.add_eq {e : TraceEntry} (room : e.count < 255) (kind : Kind) (z : ZoneEntry)
    (period supply current : Nat) : e.add kind z period supply current =
      if kind = .learn then
        { period := e.period + period, supply := e.supply + supply, current := e.current + current, count := e.count + 1 }
      else
        { e with
          period := e.period + min 65535 (period * supply / z.vRef)
          current := e.current + current
          count := e.count + 1 } := by
  unfold TraceEntry.add
  rw [if_neg (not_le.mpr room)]
  cases kind <;> rfl

/-- The move trace after a measured step toward `d` (R41). -/
theorem ClosureState.traceAfter_eq (driven : x.ctx.permit = .drive d) (computed : Bool) (period current supply : Nat)
    (pos : Int) : x.traceAfter computed period current supply pos = x.tracedAt d computed period current supply pos := by
  unfold ClosureState.traceAfter ClosureState.tracedAt ClosureState.traces
  simp only [← Description.stepZone_eq, driven]
  cases hm : x.ctx.move with
  | none => simp
  | some m =>
    by_cases room : x.est.trace[x.desc.stepZone pos].count < 255
    · simp only [TraceEntry.add_eq room, room, Option.map_some, Option.some.injEq, Option.isSome_some, Permit.drive.injEq,
        Bool.and_eq_true, Bool.or_eq_true, decide_eq_true_eq, and_assoc, true_and, and_true]
    · have full : ∀ kind y, x.est.trace[x.desc.stepZone pos].add kind y period supply current =
          x.est.trace[x.desc.stepZone pos] := fun kind y => if_pos (not_lt.mp room)
      simp only [full, room, and_false, if_false]
      simp

end

/-- A step measured under the permit toward `d`, before the estimator has it (R11, R12, R22, R23). -/
def ClosureState.measured (x : ClosureState) (e : StepEdge) (now : Nat) (d : Direction) : ClosureState :=
  { x.edgeTaken now d with
    counter := { (x.edgeTaken now d).counter with overspeed := decide (now - e.time < 200) }
    sense := { isOpen := true, sum := 0, count := 0, lastMean := (x.stepMeasure e now).2 }
    ctx := { x.ctx with stepCount := min 65535 (x.ctx.stepCount + 1) } }

section
variable {x : ClosureState} {d : Direction} (e : StepEdge) (now supply : Nat)

theorem ClosureState.blankStep_measured (driven : x.ctx.permit = .drive d) :
    (x.measured e now d).blankStep (x.stepMeasure e now).1 (x.stepMeasure e now).2 supply x.counter.position =
      x.blankedAt e now supply d := by
  rw [ClosureState.blankStep, ClosureState.traceAfter_eq (x := x.measured e now d) driven]
  rfl

theorem ClosureState.stepLoad_measured (driven : x.ctx.permit = .drive d) :
    (x.measured e now d).stepLoad (x.stepMeasure e now).1 (x.stepMeasure e now).2 supply x.counter.position =
      x.loadAt e now supply d := by
  rw [ClosureState.stepLoad, ClosureState.rawLoad_eq (x := x.measured e now d) driven,
    ClosureState.path_eq (x := x.measured e now d) driven]
  rfl

theorem ClosureState.computedStep_measured (driven : x.ctx.permit = .drive d) :
    (x.measured e now d).computedStep (x.stepMeasure e now).1 (x.stepMeasure e now).2 supply x.counter.position =
      x.computedAt e now supply d := by
  rw [ClosureState.computedStep, ClosureState.traceAfter_eq (x := x.measured e now d) driven,
    ClosureState.rawLoad_eq (x := x.measured e now d) driven, ClosureState.path_eq (x := x.measured e now d) driven]
  unfold ClosureState.computedAt
  refine congrArg (fun peak => ({ x.measured e now d with est := { x.est with
    rawList := x.est.joined (x.pathToward d) _, listPath := some (x.pathToward d), published := x.loadAt e now supply d
    peak := peak, minSupply := min x.est.minSupply supply, trace := _ } } : ClosureState)) ?_
  show peakAfter x.est.peak _ _ = _
  cases x.est.peak <;> rfl

end

/-- A step completed in the direction that the permit drives (R12, R29, R38). -/
theorem State.stepLogic_measured (u : State) (k : ClosureId) {x : ClosureState} {d : Direction} {e : StepEdge}
    (hr : x.counter.stepRecord = some e) (dir : e.dir = d) (driven : x.ctx.permit = .drive d) :
    (u.withClosure k x).stepLogic k d =
      if 0 < x.est.blankingCount then u.withClosure k (x.blankedAt e u.now u.front.reading d)
      else (u.withClosure k (x.computedAt e u.now u.front.reading d)).judgeStep k d (x.pathToward d) x.counter.position
          (x.loadAt e u.now u.front.reading d) := by
  have period : stepPeriod e.time u.now = max 200 (min 65535 (u.now - e.time)) := clampNat_eq (by decide) _
  rw [← ClosureState.blankStep_measured _ _ _ driven, ← ClosureState.computedStep_measured _ _ _ driven,
    ← ClosureState.stepLoad_measured _ _ _ driven, ← ClosureState.path_eq driven]
  simp only [State.stepLogic, State.withClosure_self, State.modCounter_withClosure, State.modClosure_withClosure, hr,
    dir, if_true, State.stepCompleted, ClosureState.stepMeasure, ← period]
  exact (if_pos driven).trans rfl

/-! The comparison (R61, R65, R66). -/

theorem ClosureState.compares_iff (x : ClosureState) (pos : Int) : x.compares pos = true ↔ x.ComparedAt pos := by
  unfold ClosureState.compares ClosureState.ComparedAt ClosureState.inEndBand
  cases x.ctx.state <;> simp [or_assoc]

/-- The applied threshold depends on the closure's description, validity and escape state alone (R61 to R65). -/
theorem State.threshold_withClosure {s : State} {k : ClosureId} {x : ClosureState} (dt : Nat) (d : Direction) (path : Path)
    (pos : Int) (desc : x.desc = s.closures[k].desc) (validity : x.counter.validity = s.closures[k].counter.validity)
    (escape : x.verdict.escape = s.closures[k].verdict.escape) :
    ((s.later dt).withClosure k x).threshold k d path pos = s.threshold k d path pos := by
  simp only [State.threshold, ClosureState.thresholdBase, ClosureState.inPinchRegion, State.withClosure_self, desc,
    validity, escape]
  rfl

/-- A closure whose step has been compared, or left uncompared: the confirm count as given. -/
def ClosureState.confirmed (x : ClosureState) (n : Nat) : ClosureState :=
  { x with verdict := { x.verdict with confirm := n } }

/-- A closure at a comparison: its last applied threshold, and the confirm count as given (R65, R66). -/
def ClosureState.judged (x : ClosureState) (threshold n : Nat) : ClosureState :=
  { x with verdict := { x.verdict with lastThreshold := threshold, confirm := n } }

section
variable (u : State) (k : ClosureId) {x : ClosureState} {d : Direction} {path : Path} {pos : Int} {load threshold : Nat}

theorem State.judgeStep_uncompared (h : ¬ x.ComparedAt pos) :
    (u.withClosure k x).judgeStep k d path pos load = u.withClosure k (x.confirmed 0) := by
  have h : ¬ x.compares pos = true := (x.compares_iff pos).not.mpr h
  simp only [State.judgeStep, State.withClosure_self, State.modVerdict_withClosure, h]
  rfl

variable (h : x.ComparedAt pos) (ht : (u.withClosure k x).threshold k d path pos = threshold)
include h ht

theorem State.judgeStep_below (below : load ≤ threshold) :
    (u.withClosure k x).judgeStep k d path pos load = u.withClosure k (x.judged threshold 0) := by
  have h : x.compares pos = true := (x.compares_iff pos).mpr h
  simp only [State.judgeStep, State.withClosure_self, State.modVerdict_withClosure, h, ht, not_lt.mpr below, if_true,
    if_false]
  rfl

theorem State.judgeStep_counted (above : threshold < load) (few : x.verdict.confirm + 1 < x.desc.confirmSteps) :
    (u.withClosure k x).judgeStep k d path pos load = u.withClosure k (x.judged threshold (x.verdict.confirm + 1)) := by
  have h : x.compares pos = true := (x.compares_iff pos).mpr h
  simp only [State.judgeStep, State.withClosure_self, State.modVerdict_withClosure, h, ht, above, not_le.mpr few, if_true,
    if_false]
  rfl

/-- A compared step that confirms a load above the threshold is a verdict (R66). -/
theorem State.judgeStep_verdict (above : threshold < load) (enough : x.desc.confirmSteps ≤ x.verdict.confirm + 1) :
    (u.withClosure k x).judgeStep k d path pos load =
      (u.withClosure k (x.judged threshold 0)).loadVerdict k pos load threshold := by
  have h : x.compares pos = true := (x.compares_iff pos).mpr h
  simp only [State.judgeStep, State.withClosure_self, State.modVerdict_withClosure, h, ht, above, enough, if_true]
  rfl

end

end Sys2Proof.Machine
end

section
/-! PROOFS. Hall edges that no limit refuses (R8, R11, R14, R18, R66, R77, R93). -/
namespace Sys2Proof.Machine

/-! The step that a pulse completes, when it is no verdict. -/

/-- What a step leaves of a closure that is no verdict: the context's state and move, the course of its reversal, the
position. -/
structure ClosureState.OnCourse (c x : ClosureState) : Prop where
  state : x.ctx.state = c.ctx.state
  move : x.ctx.move = c.ctx.move
  phase : x.verdict.phase = c.verdict.phase
  target : x.verdict.target = c.verdict.target
  record : x.verdict.record = c.verdict.record
  position : x.counter.position = c.counter.position

/-- An edge that is only noted changes the step record, the overspeed mark and the accumulator (R11, R12, R22). -/
theorem ClosureState.edgeNotedAt_form (c x : ClosureState) (ph : Phase) (now : Nat) : ∃ record mark sense,
    c.edgeNotedAt x ph now =
      { x with counter := { x.counter with stepRecord := record, overspeed := mark }, sense := sense } := by
  by_cases rising : c.Rising ph
  · cases hs : c.completes ph x with
    | none => exact ⟨_, x.counter.overspeed, _, ClosureState.edgeNotedAt_none now rising hs⟩
    | some e => exact ⟨_, _, _, ClosureState.edgeNotedAt_some now hs⟩
  · exact ⟨x.counter.stepRecord, x.counter.overspeed, x.sense, ClosureState.edgeNotedAt_falling now rising⟩

theorem ClosureState.edgeNotedAt_onCourse (c x : ClosureState) (ph : Phase) (now : Nat) :
    x.OnCourse (c.edgeNotedAt x ph now) := by
  obtain ⟨record, mark, sense, form⟩ := c.edgeNotedAt_form x ph now
  rw [form]
  constructor <;> rfl

theorem ClosureState.OnCourse.reversalReached {c x : ClosureState} (h : c.OnCourse x) :
    x.reversalReached = c.reversalReached := by
  rw [ClosureState.reversalReached, ClosureState.reversalReached, h.target, h.position]

theorem ClosureState.OnCourse.reversalReason {c x : ClosureState} (h : c.OnCourse x) :
    x.reversalReason = c.reversalReason := by
  rw [ClosureState.reversalReason, ClosureState.reversalReason, h.record]

section
variable {s : State} {dt : Nat} {k : ClosureId} {ph : Phase}

/-- The state after operations 3 to 7 of R8: a counted pulse and the step logic. -/
def State.stepped (s : State) (dt : Nat) (k : ClosureId) (ph : Phase) : State :=
  let c := s.closures[k]
  let counted := (s.later dt).withClosure k (c.pulsedAt ph (s.now + dt))
  if decide (c.Rising ph) then counted.stepLogic k (c.edgeToward ph) else counted

/-- A rising edge whose step is measured and computed goes to the verdict unit (R38). -/
theorem State.stepped_computed {e : StepEdge}
    (hs : s.closures[k].completes ph (s.closures[k].pulsedAt ph (s.now + dt)) = some e)
    (driven : s.closures[k].ctx.permit = .drive (s.closures[k].edgeToward ph))
    (b : ¬ 0 < s.closures[k].est.blankingCount) :
    let p := s.closures[k].pulsedAt ph (s.now + dt)
    let d := s.closures[k].edgeToward ph
    s.stepped dt k ph = ((s.later dt).withClosure k (p.computedAt e (s.now + dt) s.front.reading d)).judgeStep k d
      (p.pathToward d) p.counter.position (p.loadAt e (s.now + dt) s.front.reading d) := by
  obtain ⟨rising, hr, dir⟩ := ClosureState.completes_eq_some.mp hs
  refine (if_pos (decide_eq_true rising)).trans ?_
  exact (State.stepLogic_measured _ k hr dir driven).trans (if_neg b)

theorem State.stepped_blanking {e : StepEdge}
    (hs : s.closures[k].completes ph (s.closures[k].pulsedAt ph (s.now + dt)) = some e)
    (driven : s.closures[k].ctx.permit = .drive (s.closures[k].edgeToward ph))
    (b : 0 < s.closures[k].est.blankingCount) :
    let p := s.closures[k].pulsedAt ph (s.now + dt)
    s.stepped dt k ph = (s.later dt).withClosure k
      (p.blankedAt e (s.now + dt) s.front.reading (s.closures[k].edgeToward ph)) := by
  obtain ⟨rising, hr, dir⟩ := ClosureState.completes_eq_some.mp hs
  refine (if_pos (decide_eq_true rising)).trans ?_
  exact (State.stepLogic_measured _ k hr dir driven).trans (if_pos b)

/-- The closure that `steppedAt` gives is the one that the step logic leaves. -/
theorem State.stepped_eq {q : ClosureState} (h : s.steppedAt k ph (s.now + dt) = some q) :
    s.stepped dt k ph = (s.later dt).withClosure k q ∧ (s.closures[k].pulsedAt ph (s.now + dt)).OnCourse q := by
  unfold State.steppedAt at h
  cases hs : s.closures[k].completes ph (s.closures[k].pulsedAt ph (s.now + dt)) with
  | none =>
    simp only [hs, Option.some.injEq] at h
    subst h
    exact ⟨State.stepLogic_noted (s.later dt) k (.inl hs), ClosureState.edgeNotedAt_onCourse _ _ _ _⟩
  | some e =>
    simp only [hs] at h
    split at h
    next undriven =>
      obtain rfl := Option.some.inj h
      exact ⟨State.stepLogic_noted (s.later dt) k (.inr undriven), ClosureState.edgeNotedAt_onCourse _ _ _ _⟩
    next driven =>
    have driven := not_not.mp driven
    split at h
    next blanking =>
      obtain rfl := Option.some.inj h
      exact ⟨State.stepped_blanking hs driven blanking, by constructor <;> rfl⟩
    next blanking =>
    rw [State.stepped_computed hs driven blanking]
    let d := s.closures[k].edgeToward ph
    let p := s.closures[k].pulsedAt ph (s.now + dt)
    have threshold := State.threshold_withClosure (s := s) (k := k) (x := p.computedAt e (s.now + dt) s.front.reading d)
      dt d (p.pathToward d) p.counter.position rfl rfl rfl
    split at h
    next compared =>
      split at h
      next below =>
        obtain rfl := Option.some.inj h
        exact ⟨State.judgeStep_below _ _ compared threshold below, by constructor <;> rfl⟩
      next above =>
      split at h
      next few =>
        obtain rfl := Option.some.inj h
        exact ⟨State.judgeStep_counted _ _ compared threshold (not_le.mp above) few, by constructor <;> rfl⟩
      next => exact absurd h (by simp)
    next uncompared =>
      obtain rfl := Option.some.inj h
      exact ⟨State.judgeStep_uncompared _ _ uncompared, by constructor <;> rfl⟩

/-- A counted pulse, once it is known what supervision and step logic leave (R8, operations 3 to 8). -/
theorem State.hallEdge_eq {u v w : State} (counts : u.closures[k].Counts ph)
    (counted : ((u.withClosure k (u.closures[k].toggled ph)).modClosure k
      (ClosureState.countPulse (u.closures[k].edgeToward ph))).superviseDirection k (u.closures[k].edgeToward ph) = v)
    (noted : (if decide (u.closures[k].Rising ph) then v.stepLogic k (u.closures[k].edgeToward ph) else v) = w) :
    u.hallEdge k ph = (if w.closures[k].ctx.state = .idle then w.undrivenPulse k else w).reportPulse k := by
  subst counted noted
  exact State.hallEdge_counted u counts

/-- A counted pulse that is no direction fault. -/
theorem State.hallEdge_stepped (counts : s.closures[k].Counts ph)
    (safe : s.closures[k].ctx.permit = .hold ∨ (s.closures[k].pulsedAt ph (s.now + dt)).counter.dirFaultRun < 8) :
    (s.later dt).hallEdge k ph =
      (if (s.stepped dt k ph).closures[k].ctx.state = .idle then (s.stepped dt k ph).undrivenPulse k
        else s.stepped dt k ph).reportPulse k := by
  refine State.hallEdge_eq (u := s.later dt) counts ((State.superviseDirection_countPulse _ _ _ _).trans (if_neg ?_)) rfl
  exact fun fault => safe.elim fault.1 (not_lt.mpr fault.2)

end

/-! The report of a pulse (R77, R93, R102). -/

theorem Move.reached_iff (m : Move) (p : Int) : m.reached p = true ↔
    (m.kind = .held ∨ m.kind = .oneTouch ∨ m.kind = .global) ∧
      ∃ x ∈ m.target, (m.direction = .closing ∧ p ≤ x) ∨ (m.direction = .opening ∧ x ≤ p) := by
  have kinds : (m.kind = .held ∨ m.kind = .oneTouch ∨ m.kind = .global) ↔ ¬ m.kind.toStop = true := by
    cases m.kind <;> simp [Kind.toStop]
  rw [kinds]
  unfold Move.reached
  cases m.kind.toStop <;> cases m.target <;> cases m.direction <;> simp

theorem ClosureState.reversalReached_iff (c : ClosureState) :
    c.reversalReached = true ↔ ∃ x ∈ c.verdict.target, x ≤ c.counter.position := by
  unfold ClosureState.reversalReached
  cases c.verdict.target <;> simp

section
variable {t : State} {k : ClosureId}

theorem State.reportPulse_resting (h : t.closures[k].ctx.state = .idle ∨ t.closures[k].ctx.state = .queued) :
    t.reportPulse k = t := by
  rcases h with h | h <;> simp only [State.reportPulse, h]

theorem State.reportPulse_settling (h : t.closures[k].ctx.state = .settling) :
    t.reportPulse k = t.modClosure k (ClosureState.restartQuiet t.now) := by
  simp only [State.reportPulse, h]

theorem State.reportPulse_running (h : t.closures[k].ctx.state = .running)
    (short : ∀ m ∈ t.closures[k].ctx.move, ¬ m.reached t.closures[k].counter.position = true) : t.reportPulse k = t := by
  simp only [State.reportPulse, h]
  cases hm : t.closures[k].ctx.move with
  | none => rfl
  | some m => exact if_neg (short m hm)

theorem State.reportPulse_reached {m : Move} (h : t.closures[k].ctx.state = .running)
    (hm : t.closures[k].ctx.move = some m) (reached : m.reached t.closures[k].counter.position = true) :
    t.reportPulse k = t.endMove k .targetReached none := by
  simp only [State.reportPulse, h, hm, reached, if_true]

theorem State.reportPulse_reversing (h : t.closures[k].ctx.state = .reversing)
    (short : ¬ (t.closures[k].verdict.phase = some .reverse ∧ t.closures[k].reversalReached = true)) :
    t.reportPulse k = t := by
  simp only [State.reportPulse, h]
  exact if_neg short

theorem State.reportPulse_reversed (h : t.closures[k].ctx.state = .reversing)
    (phase : t.closures[k].verdict.phase = some .reverse) (reached : t.closures[k].reversalReached = true) :
    t.reportPulse k = t.endMove k t.closures[k].reversalReason none := by
  simp only [State.reportPulse, h, phase, reached, and_self, if_true]

theorem ClosureState.restartQuiet_fixed {c : ClosureState} {now : Nat} (h : c.ctx.quietTimer = some (now + 30000)) :
    c.restartQuiet now = c := by
  by_cases settling : c.ctx.state = .settling
  · rw [ClosureState.restartQuiet_settling now settling, ← h]
  · exact ClosureState.restartQuiet_other now settling

/-- A move that has just ended is in SETTLING with its quiet timer started: the report of the pulse adds nothing. -/
theorem State.reportPulse_ended (h : t.closures[k].ctx.state = .settling)
    (quiet : t.closures[k].ctx.quietTimer = some (t.now + 30000)) : t.reportPulse k = t := by
  rw [State.reportPulse_settling h]
  exact State.modClosure_fixed (ClosureState.restartQuiet_fixed quiet)

end

/-! Pulses at a context that is not IDLE. -/

section
variable {s t : State} {dt : Nat} {k : ClosureId} {ph : Phase} {q : ClosureState}

theorem exec_hallEdge_stepped (h : s.Attentive) (counts : s.closures[k].Counts ph)
    (safe : s.closures[k].ctx.permit = .hold ∨ (s.closures[k].pulsedAt ph (s.now + dt)).counter.dirFaultRun < 8)
    (busy : (s.stepped dt k ph).closures[k].ctx.state ≠ .idle) (ht : (s.stepped dt k ph).reportPulse k = t)
    (hl : t.link = s.link) : exec (.hallEdge dt k ph) s = .next t := by
  refine exec_hallEdge h counts.1 ?_ hl
  rw [State.hallEdge_stepped counts safe, if_neg busy, ht]

end

/-! A pulse whose step is no verdict, at each context that is not IDLE. -/

section
variable {s : State} {dt : Nat} {k : ClosureId} {ph : Phase} {q : ClosureState}
variable (h : s.Attentive) (counts : s.closures[k].Counts ph)
  (safe : s.closures[k].ctx.permit = .hold ∨ (s.closures[k].pulsedAt ph (s.now + dt)).counter.dirFaultRun < 8)
  (hq : s.steppedAt k ph (s.now + dt) = some q)
include h counts safe hq

/-- What is left of such a pulse is its report. -/
theorem exec_hallEdge_course {t : State} (busy : s.closures[k].ctx.state ≠ .idle)
    (ht : ((s.later dt).withClosure k q).reportPulse k = t) (hl : t.link = s.link) :
    exec (.hallEdge dt k ph) s = .next t := by
  obtain ⟨stepped, course⟩ := State.stepped_eq hq
  refine exec_hallEdge_stepped h counts safe ?_ (by rw [stepped, ht]) hl
  rw [stepped, State.withClosure_self, course.state]
  exact busy

theorem exec_hallEdge_queued (queued : s.closures[k].ctx.state = .queued) :
    exec (.hallEdge dt k ph) s = .next ((s.later dt).withClosure k q) := by
  have state : q.ctx.state = .queued := (State.stepped_eq hq).2.state.trans queued
  refine exec_hallEdge_course h counts safe hq (by rw [queued]; decide) (State.reportPulse_resting (.inr ?_)) rfl
  rw [State.withClosure_self, state]

theorem exec_hallEdge_settling (settling : s.closures[k].ctx.state = .settling) :
    exec (.hallEdge dt k ph) s = .next ((s.later dt).withClosure k
      { q with ctx := { q.ctx with quietTimer := some (s.now + dt + 30000) } }) := by
  have state : q.ctx.state = .settling := (State.stepped_eq hq).2.state.trans settling
  refine exec_hallEdge_course h counts safe hq (by rw [settling]; decide) ((State.reportPulse_settling ?_).trans ?_) rfl
  · rw [State.withClosure_self, state]
  · rw [State.modClosure_withClosure, ClosureState.restartQuiet_settling _ state]
    rfl

theorem exec_hallEdge_running (running : s.closures[k].ctx.state = .running)
    (short : ∀ m ∈ s.closures[k].ctx.move, ¬ m.reached (s.closures[k].pulsedAt ph (s.now + dt)).counter.position = true) :
    exec (.hallEdge dt k ph) s = .next ((s.later dt).withClosure k q) := by
  have course := (State.stepped_eq hq).2
  refine exec_hallEdge_course h counts safe hq (by rw [running]; decide) (State.reportPulse_running ?_ ?_) rfl
  · rw [State.withClosure_self, course.state]
    exact running
  · rw [State.withClosure_self, course.move, course.position]
    exact short

/-- A RUNNING move at its target ends (R93). -/
theorem exec_hallEdge_target {m : Move} (running : s.closures[k].ctx.state = .running)
    (hm : s.closures[k].ctx.move = some m)
    (reached : m.reached (s.closures[k].pulsedAt ph (s.now + dt)).counter.position = true)
    (empty : s.arbiter.queue = []) :
    exec (.hallEdge dt k ph) s =
      .next (((s.later dt).withClosure k q).moveEnded k (s.now + dt) .targetReached none) := by
  have course := (State.stepped_eq hq).2
  refine exec_hallEdge_course h counts safe hq (by rw [running]; decide)
    ((State.reportPulse_reached (m := m) ?_ ?_ ?_).trans (State.endMove_withClosure k q dt _ _ empty)) rfl
  · rw [State.withClosure_self, course.state]
    exact running
  · rw [State.withClosure_self, course.move]
    exact hm
  · rw [State.withClosure_self, course.position]
    exact reached

theorem exec_hallEdge_reversing (reversing : s.closures[k].ctx.state = .reversing)
    (short : ¬ (s.closures[k].verdict.phase = some .reverse ∧
      (s.closures[k].pulsedAt ph (s.now + dt)).reversalReached = true)) :
    exec (.hallEdge dt k ph) s = .next ((s.later dt).withClosure k q) := by
  have course := (State.stepped_eq hq).2
  refine exec_hallEdge_course h counts safe hq (by rw [reversing]; decide) (State.reportPulse_reversing ?_ ?_) rfl
  · rw [State.withClosure_self, course.state]
    exact reversing
  · rw [State.withClosure_self, course.phase, course.reversalReached]
    exact short

/-- A reversal at its target ends (R77). -/
theorem exec_hallEdge_reversed (reversing : s.closures[k].ctx.state = .reversing)
    (phase : s.closures[k].verdict.phase = some .reverse)
    (reached : (s.closures[k].pulsedAt ph (s.now + dt)).reversalReached = true) (empty : s.arbiter.queue = []) :
    exec (.hallEdge dt k ph) s = .next (((s.later dt).withClosure k q).moveEnded k (s.now + dt)
      (s.closures[k].pulsedAt ph (s.now + dt)).reversalReason none) := by
  have course := (State.stepped_eq hq).2
  refine exec_hallEdge_course h counts safe hq (by rw [reversing]; decide)
    ((State.reportPulse_reversed ?_ ?_ ?_).trans ?_) rfl
  · rw [State.withClosure_self, course.state]
    exact reversing
  · rw [State.withClosure_self, course.phase]
    exact phase
  · rw [State.withClosure_self, course.reversalReached]
    exact reached
  · rw [State.withClosure_self, course.reversalReason]
    exact State.endMove_withClosure k q dt _ _ empty

end

/-! A direction fault (R14). -/

/-- A closure whose run against the permit has ended in a direction fault. -/
def ClosureState.faulted (c : ClosureState) : ClosureState :=
  { c with counter := { c.counter with validity := .lost, dirFaultRun := 0 } }

theorem State.directionFault_withClosure (u : State) (k : ClosureId) {c : ClosureState}
    (moves : c.ctx.state = .running ∨ c.ctx.state = .reversing) :
    (u.withClosure k c).directionFault k = (u.withClosure k c.faulted).endMove k .directionFault none := by
  simp only [State.directionFault, State.withClosure_self, State.modCounter_withClosure]
  rcases moves with hc | hc <;> simp only [hc] <;> rfl

section
variable {s : State} {dt : Nat} {k : ClosureId} {ph : Phase}

theorem exec_hallEdge_fault {d : Direction} (h : s.Attentive) (counts : s.closures[k].Counts ph)
    (permit : s.closures[k].ctx.permit = .drive d) (against : d ≠ s.closures[k].edgeToward ph)
    (run : s.closures[k].counter.dirFaultRun = 7)
    (moves : s.closures[k].ctx.state = .running ∨ s.closures[k].ctx.state = .reversing) (empty : s.arbiter.queue = []) :
    let ended := ((s.later dt).withClosure k (s.closures[k].pulsedAt ph (s.now + dt)).faulted).moveEnded k (s.now + dt)
      .directionFault none
    exec (.hallEdge dt k ph) s =
      .next (ended.withClosure k (s.closures[k].edgeNotedAt ended.closures[k] ph (s.now + dt))) := by
  intro ended
  have eighth : (s.closures[k].pulsedAt ph (s.now + dt)).counter.dirFaultRun = 8 := by
    simp only [ClosureState.pulsedAt, permit, if_neg against, run]
  have counted : ((((s.later dt).withClosure k (s.closures[k].toggled ph)).modClosure k
      (ClosureState.countPulse (s.closures[k].edgeToward ph))).superviseDirection k (s.closures[k].edgeToward ph)) =
        ended := by
    have fault := State.superviseDirection_countPulse (s.later dt) k s.closures[k] ph
    refine fault.trans ((if_pos ⟨by rw [permit]; exact Permit.noConfusion, eighth.ge⟩).trans ?_)
    exact (State.directionFault_withClosure (s.later dt) k (c := s.closures[k].pulsedAt ph (s.now + dt)) moves).trans
      (State.endMove_withClosure _ _ _ _ _ empty)
  have self : ended.closures[k] = _ := State.moveEnded_self _ _ _ _ _
  have noted := State.stepLogic_noted ended k (c := s.closures[k]) (x := ended.closures[k]) (ph := ph)
    (.inr (by rw [self]; exact Permit.noConfusion))
  rw [State.withClosure_present] at noted
  obtain ⟨record, mark, sense, form⟩ := s.closures[k].edgeNotedAt_form ended.closures[k] ph ended.now
  have settled : (ended.withClosure k (s.closures[k].edgeNotedAt ended.closures[k] ph ended.now)).closures[k].ctx =
      ended.closures[k].ctx := by
    rw [State.withClosure_self, form]
  refine exec_hallEdge h counts.1 ?_ rfl
  rw [State.hallEdge_eq (u := s.later dt) counts counted noted, settled,
    if_neg (by rw [self]; exact CtxState.noConfusion)]
  refine State.reportPulse_ended ?_ ?_
  · rw [settled, self]
    rfl
  · rw [settled, self]
    rfl

end

/-! Verdicts (R66, R67, R71, R72, R78). -/

/-- The region of a verdict where R6 gives one: PINCH while LOST, else by the pinch limit. -/
theorem ClosureState.verdictRegion_trusted {c : ClosureState} {pos : Int}
    (trusted : c.counter.validity = .lost ∨ (c.desc.endBand : Int) < pos) :
    c.verdictRegion pos = some (if c.counter.validity = .lost ∨ pos ≤ c.desc.pinchLimit then .pinch else .free) := by
  unfold ClosureState.verdictRegion ClosureState.inPinchRegion ClosureState.inEndBand
  cases hv : c.counter.validity with
  | lost => rfl
  | valid =>
    have above : (c.desc.endBand : Int) < pos := trusted.resolve_left (by rw [hv]; exact Validity.noConfusion)
    by_cases low : pos ≤ c.desc.pinchLimit <;> simp [above, low]

section
variable (u : State) (k : ClosureId) (cause : VerdictCause) (pos : Int) (load threshold : Nat)

theorem State.recordAt_trusted
    (trusted : u.closures[k].counter.validity = .lost ∨ (u.closures[k].desc.endBand : Int) < pos) :
    u.recordAt k cause pos load threshold = (u,
      { cause := cause, pos := pos, load := load, threshold := threshold
        region := if u.closures[k].counter.validity = .lost ∨ pos ≤ u.closures[k].desc.pinchLimit then .pinch
          else .free }) := by
  simp only [State.recordAt, ClosureState.verdictRegion_trusted trusted]

/-- A verdict record anywhere: in the end band its region is a free value (log entry 9). -/
theorem State.recordAt_spec : ∃ n region,
    u.recordAt k cause pos load threshold = ({ u with freeCount := n },
      { cause := cause, pos := pos, load := load, threshold := threshold, region := region }) ∧
    (u.closures[k].counter.validity = .lost ∨ (u.closures[k].desc.endBand : Int) < pos →
      (region = .pinch ↔ u.closures[k].counter.validity = .lost ∨ pos ≤ u.closures[k].desc.pinchLimit)) := by
  by_cases trusted : u.closures[k].counter.validity = .lost ∨ (u.closures[k].desc.endBand : Int) < pos
  · refine ⟨_, _, State.recordAt_trusted u k cause pos load threshold trusted, fun _ => ?_⟩
    split <;> simp_all
  · unfold State.recordAt
    split
    · exact ⟨u.freeCount, _, rfl, fun h => absurd h trusted⟩
    · exact ⟨u.freeCount + 1, _, rfl, fun h => absurd h trusted⟩

end

/-- The closure at a closing verdict (R67, R72). -/
theorem ClosureState.beginReversal_fillRecord {x : ClosureState} {m : Move} (r : VerdictRecord) (now n : Nat)
    (running : x.ctx.state = .running) (hm : x.ctx.move = some m) (closing : m.direction = .closing) :
    ((x.judged n 0).fillRecord r).beginReversal now r.pos = x.reversedAt r now := by
  have inProgress : x.ctx.closingInProgress = true := by simp [Context.closingInProgress, running, hm, closing]
  have same : ((x.judged n 0).fillRecord r).ctx = x.ctx := rfl
  simp only [ClosureState.beginReversal, ClosureState.setReversals, same, inProgress, Bool.and_true]
  rfl

section
variable (u : State) (k : ClosureId) {y : ClosureState} {m : Move} (pos : Int) (load threshold : Nat)

theorem State.startReversal_closures (m : Move) (r : VerdictRecord) : ((u.withClosure k y).startReversal k m r).closures =
    u.closures.set k ((y.fillRecord r).beginReversal u.now r.pos) := by
  rw [State.startReversal, State.modClosure_withClosure]
  exact congrArg State.closures (u.modClosure_withClosure k _ (ClosureState.beginReversal u.now r.pos))

/-- A verdict on a closing move (R72). -/
theorem State.loadVerdict_closing (running : y.ctx.state = .running) (hm : y.ctx.move = some m)
    (closing : m.direction = .closing) (trusted : y.counter.validity = .lost ∨ (y.desc.endBand : Int) < pos) :
    (u.withClosure k y).loadVerdict k pos load threshold = (u.withClosure k y).startReversal k m
      { cause := .load, pos := pos, load := load, threshold := threshold
        region := if y.counter.validity = .lost ∨ pos ≤ y.desc.pinchLimit then .pinch else .free } := by
  have record := State.recordAt_trusted (u.withClosure k y) k .load pos load threshold
    (by rw [State.withClosure_self]; exact trusted)
  simp only [State.loadVerdict, State.withClosure_self, running, hm, closing, record]

/-- A verdict on an opening move (R71). -/
theorem State.loadVerdict_opening (running : y.ctx.state = .running) (hm : y.ctx.move = some m)
    (opening : m.direction = .opening) : ∃ n region,
    (u.withClosure k y).loadVerdict k pos load threshold =
      (({ u with freeCount := n } : State).withClosure k (y.fillRecord
        { cause := .load, pos := pos, load := load, threshold := threshold, region := region })).endMove k
          .openObstructed none ∧
    (y.counter.validity = .lost ∨ (y.desc.endBand : Int) < pos →
      (region = .pinch ↔ y.counter.validity = .lost ∨ pos ≤ y.desc.pinchLimit)) := by
  obtain ⟨n, region, record, trusted⟩ := State.recordAt_spec (u.withClosure k y) k .load pos load threshold
  refine ⟨n, region, ?_, by simpa only [State.withClosure_self] using trusted⟩
  simp only [State.loadVerdict, State.withClosure_self, running, hm, opening, record]
  exact congrArg (fun t => State.endMove t k .openObstructed none)
    (State.modClosure_withClosure { u with freeCount := n } k y _)

/-- A verdict in the reverse phase (R78). -/
theorem State.loadVerdict_reversing (reversing : y.ctx.state = .reversing) :
    (u.withClosure k y).loadVerdict k pos load threshold = (u.withClosure k y).endMove k .reversalBlocked none := by
  simp only [State.loadVerdict, State.withClosure_self, reversing]

end

section
variable {s : State} {dt : Nat} {k : ClosureId} {ph : Phase} {e : StepEdge}

/-- The state at a confirmed load above the threshold. -/
theorem State.stepped_verdict :
    let c := s.closures[k]
    let d := c.edgeToward ph
    let p := c.pulsedAt ph (s.now + dt)
    let pos := p.counter.position
    let load := p.loadAt e (s.now + dt) s.front.reading d
    let threshold := s.threshold k d (p.pathToward d) pos
    c.completes ph p = some e → c.ctx.permit = .drive d → c.est.blankingCount = 0 → p.ComparedAt pos → threshold < load →
    c.desc.confirmSteps ≤ c.verdict.confirm + 1 →
    s.stepped dt k ph = ((s.later dt).withClosure k
      ((p.computedAt e (s.now + dt) s.front.reading d).judged threshold 0)).loadVerdict k pos load threshold := by
  intro c d p pos load threshold completes driven blanking compared above enough
  have same := State.threshold_withClosure (s := s) (k := k) (x := p.computedAt e (s.now + dt) s.front.reading d) dt d
    (p.pathToward d) pos rfl rfl rfl
  rw [State.stepped_computed completes driven (Nat.not_lt.mpr (le_of_eq blanking))]
  exact State.judgeStep_verdict _ _ compared same above enough

end

section
variable {s : State} {dt : Nat} {k : ClosureId} {ph : Phase} {x : ClosureState} {m : Move} {pos : Int}
  {load threshold : Nat}
variable (h : s.Attentive) (counts : s.closures[k].Counts ph)
  (driven : s.closures[k].ctx.permit = .drive (s.closures[k].edgeToward ph))
  (verdict : s.stepped dt k ph =
    ((s.later dt).withClosure k (x.judged threshold 0)).loadVerdict k pos load threshold)
include h counts driven verdict

/-- A pulse whose step is a verdict, once it is known what the verdict leaves. -/
theorem exec_hallEdge_verdict {t : State}
    (ht : ((s.later dt).withClosure k (x.judged threshold 0)).loadVerdict k pos load threshold = t)
    (busy : t.closures[k].ctx.state ≠ .idle) (report : t.reportPulse k = t) (hl : t.link = s.link) :
    exec (.hallEdge dt k ph) s = .next t := by
  have along : (s.closures[k].pulsedAt ph (s.now + dt)).counter.dirFaultRun = 0 := by
    simp only [ClosureState.pulsedAt, driven, if_true]
  rw [ht] at verdict
  refine exec_hallEdge_stepped h counts (.inr (by rw [along]; decide)) ?_ ?_ hl
  · rw [verdict]
    exact busy
  · rw [verdict, report]

theorem exec_hallEdge_pinched (running : x.ctx.state = .running) (hm : x.ctx.move = some m)
    (closing : m.direction = .closing) (trusted : x.counter.validity = .lost ∨ (x.desc.endBand : Int) < pos) :
    let r : VerdictRecord :=
      { cause := .load, pos := pos, load := load, threshold := threshold
        region := if x.counter.validity = .lost ∨ pos ≤ x.desc.pinchLimit then .pinch else .free }
    ∃ t, exec (.hallEdge dt k ph) s = .next t ∧ t.closures = s.closures.set k (x.reversedAt r (s.now + dt)) ∧
      t.arbiter = s.arbiter ∧ s.Told t (s.Hears k m.seat) (.pinch k r) (s.now + dt) ∧ s.SameElsewhere t := by
  intro r
  have reverses : ((s.later dt).withClosure k (x.judged threshold 0)).loadVerdict k pos load threshold =
      ((s.later dt).withClosure k (x.judged threshold 0)).startReversal k m r :=
    State.loadVerdict_closing (s.later dt) k pos load threshold running hm closing trusted
  have closures := (State.startReversal_closures (s.later dt) k (y := x.judged threshold 0) m r).trans
    (congrArg (s.closures.set k) (ClosureState.beginReversal_fillRecord r (s.now + dt) threshold running hm closing))
  have self : (((s.later dt).withClosure k (x.judged threshold 0)).startReversal k m r).closures[k] =
      x.reversedAt r (s.now + dt) := by
    rw [closures]
    simp
  have seats : (((s.later dt).withClosure k (x.judged threshold 0)).startReversal k m r).seats =
      ((s.later dt).postTo (fun n => decide (n = m.seat) || s.subscribes k n) (.pinch k r)).seats := rfl
  refine ⟨_, exec_hallEdge_verdict h counts driven verdict reverses ?_ (State.reportPulse_reversing ?_ ?_) rfl, closures,
    rfl, State.told_of_seats (s := s.later dt) seats (s.hears_iff k m.seat), rfl, rfl, rfl, rfl, rfl,
    State.record_of_seats (s := s.later dt) seats⟩
  · rw [self]
    exact CtxState.noConfusion
  · rw [self]
    rfl
  · rw [self]
    rintro ⟨phase, -⟩
    exact nomatch phase

theorem exec_hallEdge_obstructed (running : x.ctx.state = .running) (hm : x.ctx.move = some m)
    (opening : m.direction = .opening) (empty : s.arbiter.queue = []) :
    ∃ t region, exec (.hallEdge dt k ph) s = .next t ∧
      t.closures = s.closures.set k ((x.fillRecord
        { cause := .load, pos := pos, load := load, threshold := threshold, region := region }).settledAt (s.now + dt)
          .openObstructed none) ∧
      t.arbiter = { s.arbiter with held := s.arbiter.held.set k false } ∧ t.seats = s.seats ∧ s.SameElsewhere t ∧
      (x.counter.validity = .lost ∨ (x.desc.endBand : Int) < pos →
        (region = .pinch ↔ x.counter.validity = .lost ∨ pos ≤ x.desc.pinchLimit)) := by
  obtain ⟨n, region, ends, trusted⟩ := State.loadVerdict_opening (s.later dt) k (y := x.judged threshold 0) pos load
    threshold running hm opening
  have ends := ends.trans (State.endMove_empty k .openObstructed none empty)
  refine ⟨_, region, exec_hallEdge_verdict h counts driven verdict ends ?_ (State.reportPulse_ended ?_ ?_) rfl, ?_, rfl,
    rfl, ⟨rfl, rfl, rfl, rfl, rfl, fun _ => rfl⟩, trusted⟩
  · rw [State.moveEnded_self]
    exact CtxState.noConfusion
  · rw [State.moveEnded_self]
    rfl
  · rw [State.moveEnded_self]
    rfl
  · simp [State.moveEnded, State.withClosure]
    rfl

theorem exec_hallEdge_blocked (reversing : x.ctx.state = .reversing) (empty : s.arbiter.queue = []) :
    exec (.hallEdge dt k ph) s =
      .next (((s.later dt).withClosure k (x.judged threshold 0)).moveEnded k (s.now + dt) .reversalBlocked none) := by
  have ends := (State.loadVerdict_reversing (s.later dt) k (y := x.judged threshold 0) pos load threshold reversing).trans
    (State.endMove_withClosure k _ dt _ _ empty)
  refine exec_hallEdge_verdict h counts driven verdict ends ?_ (State.reportPulse_ended ?_ ?_) rfl
  · rw [State.moveEnded_self]
    exact CtxState.noConfusion
  · rw [State.moveEnded_self]
    rfl
  · rw [State.moveEnded_self]
    rfl

end

/-! Undriven pulses (R18, R130, R158). -/

/-- A closure that has counted an undriven pulse. -/
def ClosureState.undriven (c : ClosureState) (now : Nat) : ClosureState :=
  { c with counter := { c.counter with
      burst := min 8 (c.counter.burst + 1), undrivenTimer := some (now + 1000000) } }

theorem State.undrivenPulse_withClosure (u : State) (k : ClosureId) (c : ClosureState) :
    (u.withClosure k c).undrivenPulse k =
      if c.counter.burst + 1 = 8 then
        if u.loading then { u.withClosure k (c.undriven u.now) with deferred := u.deferred ++ [.movedUndriven k] }
        else (u.withClosure k (c.undriven u.now)).movedUndriven k
      else u.withClosure k (c.undriven u.now) := by
  simp only [State.undrivenPulse, State.withClosure_self, State.modCounter_withClosure]
  rfl

section
variable (u : State) (k : ClosureId)

/-- The eighth pulse of a burst asks for the unpark write with unpark pending and no wait (R158). -/
theorem State.movedUndriven_asks (pending : u.arbiter.unparkPending = true) (wait : u.arbiter.unparkWait = .none) :
    u.movedUndriven k = (u.postTo (u.subscribes k) (.movedUndriven k)).askUnpark := by
  simp [State.movedUndriven, pending, wait]

theorem State.movedUndriven_posts (h : ¬ (u.arbiter.unparkPending = true ∧ u.arbiter.unparkWait = .none)) :
    u.movedUndriven k = u.postTo (u.subscribes k) (.movedUndriven k) := by
  refine if_neg ?_
  rw [Bool.and_eq_true, decide_eq_true_eq]
  exact h

theorem State.sameOutside_movedUndriven : u.SameOutside (u.movedUndriven k) := by
  by_cases asks : u.arbiter.unparkPending = true ∧ u.arbiter.unparkWait = .none
  · rw [State.movedUndriven_asks u k asks.1 asks.2]
    exact (u.sameOutside_postTo _ _).trans (State.sameOutside_askUnpark _)
  · rw [State.movedUndriven_posts u k asks]
    exact u.sameOutside_postTo _ _

theorem State.movedUndriven_closures : (u.movedUndriven k).closures = u.closures := by
  by_cases asks : u.arbiter.unparkPending = true ∧ u.arbiter.unparkWait = .none
  · rw [State.movedUndriven_asks u k asks.1 asks.2]
    exact State.askUnpark_closures _
  · rw [State.movedUndriven_posts u k asks]
    rfl

theorem State.movedUndriven_seats :
    (u.movedUndriven k).seats = (u.postTo (u.subscribes k) (.movedUndriven k)).seats := by
  by_cases asks : u.arbiter.unparkPending = true ∧ u.arbiter.unparkWait = .none
  · rw [State.movedUndriven_asks u k asks.1 asks.2]
    exact State.askUnpark_seats _
  · rw [State.movedUndriven_posts u k asks]

theorem State.askUnpark_idle (wait : u.arbiter.unparkWait = .none) (job : u.store.job = .idle) :
    u.askUnpark = u.startUnparkWrite := by
  simp only [State.askUnpark, wait, job]

theorem State.askUnpark_committing {n : SeatId} {park : Bool} {captured : Image} (wait : u.arbiter.unparkWait = .none)
    (job : u.store.job = .committing n park captured) :
    u.askUnpark = { u with arbiter := { u.arbiter with unparkWait := .waitingForStore } } := by
  simp only [State.askUnpark, wait, job]
  rfl

end

/-- What the MOVED_UNDRIVEN notice leaves: it reaches every seat that subscribes to the closure, and with unpark pending
and no wait it asks for the unpark write (R130, R158). -/
theorem State.movedUndriven_spec (u : State) (k : ClosureId) :
    (∀ n : SeatId,
      (hasMember u.seats[n].record.subscription k.val = true → u.seats[n].queue.length < 16 →
        (u.movedUndriven k).seats[n].queue = u.seats[n].queue ++ [{ body := .movedUndriven k, time := u.now }]) ∧
      (hasMember u.seats[n].record.subscription k.val = false → (u.movedUndriven k).seats[n] = u.seats[n])) ∧
    (u.arbiter.unparkPending = false ∨ u.arbiter.unparkWait ≠ .none →
      (u.movedUndriven k).arbiter = u.arbiter ∧ (u.movedUndriven k).store = u.store) ∧
    (u.arbiter.unparkPending = true → u.arbiter.unparkWait = .none →
      (u.store.job = .idle →
        (u.movedUndriven k).arbiter = { u.arbiter with unparkWait := .writing } ∧
        (u.movedUndriven k).store =
          { u.store with job := .unparking, image := { u.store.image with valid := false } }) ∧
      (∀ (n : SeatId) (park : Bool) (captured : Image), u.store.job = .committing n park captured →
        (u.movedUndriven k).arbiter = { u.arbiter with unparkWait := .waitingForStore } ∧
        (u.movedUndriven k).store = u.store)) := by
  refine ⟨fun n => ⟨fun hears room => ?_, fun deaf => ?_⟩, fun none => ?_, fun pending wait => ⟨fun job => ?_,
    fun n park captured job => ?_⟩⟩
  · have told := State.told_of_seats (State.movedUndriven_seats u k) (fun _ => Iff.rfl)
    exact ((told n).1 hears room).1
  · rw [State.movedUndriven_seats, State.postTo_seats]
    simp only [Fin.getElem_fin, Vector.getElem_ofFn]
    exact if_neg (by simpa [State.subscribes] using deaf)
  · rw [State.movedUndriven_posts u k (by rcases none with h | h <;> simp [h])]
    exact ⟨rfl, rfl⟩
  · rw [State.movedUndriven_asks u k pending wait,
      State.askUnpark_idle (u.postTo (u.subscribes k) (.movedUndriven k)) wait job]
    exact ⟨rfl, rfl⟩
  · rw [State.movedUndriven_asks u k pending wait,
      State.askUnpark_committing (u.postTo (u.subscribes k) (.movedUndriven k)) wait job]
    exact ⟨rfl, rfl⟩

section
variable {s t : State} {dt : Nat} {k : ClosureId} {ph : Phase}

/-- A counted pulse at an IDLE context with no permit is an undriven one. -/
theorem exec_hallEdge_idle (h : s.Attentive) (counts : s.closures[k].Counts ph) (idle : s.closures[k].ctx.state = .idle)
    (hold : s.closures[k].ctx.permit = .hold)
    (ht : ((s.later dt).withClosure k (s.closures[k].edgeNotedAt (s.closures[k].pulsedAt ph (s.now + dt)) ph
      (s.now + dt))).undrivenPulse k = t)
    (resting : t.closures[k].ctx.state = .idle) (hl : t.link = s.link) : exec (.hallEdge dt k ph) s = .next t := by
  have undriven : (s.closures[k].pulsedAt ph (s.now + dt)).ctx.permit ≠ .drive (s.closures[k].edgeToward ph) := by
    intro drive
    exact nomatch hold.symm.trans drive
  have stepped : s.stepped dt k ph = _ := State.stepLogic_noted (s.later dt) k (.inr undriven)
  have state : (s.stepped dt k ph).closures[k].ctx.state = .idle := by
    rw [stepped, State.withClosure_self, (ClosureState.edgeNotedAt_onCourse _ _ _ _).state]
    exact idle
  refine exec_hallEdge h counts.1 ?_ hl
  rw [State.hallEdge_stepped counts (.inl hold), if_pos state, stepped]
  exact (congrArg (fun t => State.reportPulse t k) ht).trans (State.reportPulse_resting (.inl resting))

end

theorem ClosureState.edgeToward_eq_opening (c : ClosureState) (ph : Phase) : c.edgeToward ph = .opening ↔
    ((ph = .a) = (c.counter.phaseA = c.counter.phaseB)) = (c.desc.polarity = .normal) := by
  unfold ClosureState.edgeToward
  cases ph <;> cases c.counter.phaseA <;> cases c.counter.phaseB <;> cases c.desc.polarity <;> simp

/-- The counter after a counted pulse whose edge is only noted. -/
theorem ClosureState.noted_counter (c : ClosureState) (ph : Phase) (now : Nat) :
    let q := c.edgeNotedAt (c.pulsedAt ph now) ph now
    q.counter.position = (if c.edgeToward ph = .opening then c.counter.position + 1 else c.counter.position - 1) ∧
    q.counter.lastDir = some (c.edgeToward ph) ∧ q.counter.validity = c.counter.validity ∧
    q.counter.burst = c.counter.burst := by
  intro q
  obtain ⟨record, mark, sense, form⟩ := c.edgeNotedAt_form (c.pulsedAt ph now) ph now
  simp only [q, form]
  exact ⟨rfl, rfl, rfl, rfl⟩

/-- Settles O46: a counted pulse is the closure that `pulsedAt` and `steppedAt` give; what the pulse does besides is its
undriven count at an IDLE context, its report at any other, the verdict of its step, or a direction fault. -/
theorem hallEdgeCountsUndriven : Obligations.HallEdgeCountsUndriven := by
  refine ⟨?undriven, ?course, ?verdict, ?fault⟩
  case undriven =>
    intro dt k ph s h c now isOpening q noted counts idle hold
    obtain ⟨position, lastDir, validity, burst⟩ := c.noted_counter ph now
    have opens : c.edgeToward ph = .opening ↔ isOpening := c.edgeToward_eq_opening ph
    have counted : q.undriven (s.later dt).now = noted := by rw [ClosureState.undriven, burst]; rfl
    have pulse := State.undrivenPulse_withClosure (s.later dt) k q
    rw [burst, counted] at pulse
    have resting : noted.ctx.state = .idle := (ClosureState.edgeNotedAt_onCourse c _ ph now).state.trans idle
    refine ⟨position.trans ?_, lastDir.trans ?_, validity, fun notLast => ?_, fun last => ?_⟩
    · by_cases toward : isOpening
      · rw [if_pos (opens.mpr toward), if_pos toward]
      · rw [if_neg (opens.not.mpr toward), if_neg toward]
        rfl
    · by_cases toward : isOpening
      · rw [if_pos toward, opens.mpr toward]
      · have closing : c.edgeToward ph = .closing := by
          cases hd : c.edgeToward ph with
          | opening => exact absurd (opens.mp hd) toward
          | closing => rfl
        rw [if_neg toward, closing]
    · rw [if_neg (fun eighth => notLast (Nat.succ.inj eighth))] at pulse
      refine exec_hallEdge_idle h counts idle hold pulse ?_ rfl
      rw [State.withClosure_self, resting]
    · rw [if_pos (congrArg Nat.succ last)] at pulse
      cases loading : s.loading with
      | true =>
        refine ⟨_, exec_hallEdge_idle h counts idle hold (pulse.trans (if_pos loading)) ?_ rfl, rfl,
          fun _ => ⟨rfl, rfl, rfl, rfl⟩, fun no => nomatch no⟩
        exact (congrArg (·.ctx.state) (State.withClosure_self (s.later dt) k noted)).trans resting
      | false =>
        have same := State.sameOutside_movedUndriven ((s.later dt).withClosure k noted) k
        have closures := State.movedUndriven_closures ((s.later dt).withClosure k noted) k
        refine ⟨_, exec_hallEdge_idle h counts idle hold (pulse.trans (if_neg (by simp [loading]))) ?_ same.link, closures,
          fun no => (nomatch no), fun _ => ⟨same.deferred, ?_⟩⟩
        · rw [closures, State.withClosure_self, resting]
        · exact State.movedUndriven_spec ((s.later dt).withClosure k noted) k
  case course =>
    intro dt k ph q s h c now p pos counts busy safe hq becomes ended targetReached reversalReached
    have reversed : p.reversalReached = true ↔ ∃ x ∈ c.verdict.target, x ≤ pos := p.reversalReached_iff
    refine ⟨exec_hallEdge_queued h counts safe hq, exec_hallEdge_settling h counts safe hq, fun running short => ?_,
      fun running reached empty => ?_, fun reversing short => ?_, fun reversing reached empty => ?_⟩
    · exact exec_hallEdge_running h counts safe hq running
        fun m hm reached => short ⟨m, hm, (m.reached_iff pos).mp reached⟩
    · obtain ⟨m, hm, reached⟩ := reached
      exact exec_hallEdge_target h counts safe hq running hm ((m.reached_iff pos).mpr reached) empty
    · exact exec_hallEdge_reversing h counts safe hq reversing fun both => short ⟨both.1, reversed.mp both.2⟩
    · exact exec_hallEdge_reversed h counts safe hq reversing reached.1 (reversed.mpr reached.2) empty
  case verdict =>
    intro dt k ph e s h c now d p pos load threshold x record isPinch counts completes driven blanking compared above
      enough
    have verdict := State.stepped_verdict completes driven blanking compared above enough
    refine ⟨fun m running hm closing => ?_, fun m running hm opening empty => ?_, fun reversing empty => ?_⟩
    · have trusted : c.counter.validity = .lost ∨ (c.desc.endBand : Int) < pos := by
        rcases compared with ⟨-, opening | trusted⟩ | ⟨reversing, -⟩
        · simp [p, ClosureState.pulsedAt, hm, closing] at opening
        · exact trusted
        · exact nomatch running.symm.trans reversing
      exact exec_hallEdge_pinched (x := x) h counts driven verdict running hm closing trusted
    · exact exec_hallEdge_obstructed (x := x) h counts driven verdict running hm opening empty
    · refine (exec_hallEdge_blocked (x := x) h counts driven verdict reversing empty).trans ?_
      exact congrArg Host.Outcome.next (State.moveEnded_congr _ _ rfl)
  case fault =>
    intro dt k ph d s h c p counts permit against run moves empty
    exact exec_hallEdge_fault h counts permit against run moves empty

end Sys2Proof.Machine
end

section
/-! PROOFS. What a command can do to a closure, in the parts that the laws of R36, R41, R48 and R80 speak of. Those parts
are taken out of a closure once (`ClosureState.watched`), each thing that the model does to them is one constructor of
`Watched.Update`, and each law is kept by every one of them. -/
namespace Sys2Proof.Machine

/-- The parts of a closure that the laws of the reversal count, the published load, the move trace and the zones are
about. -/
structure Watched where
  escapeMax : Nat
  reversals : Nat
  escape : Bool
  sense : Sense
  published : Nat
  trace : Vector TraceEntry 64
  zones : Vector ZoneEntry 64
  state : CtxState
  kind : Option Kind
  reason : Option EndReason

def ClosureState.watched (c : ClosureState) : Watched :=
  { escapeMax := c.desc.escapeMax
    reversals := c.verdict.reversals
    escape := c.verdict.escape
    sense := c.sense
    published := c.est.published
    trace := c.est.trace
    zones := c.profile.zones
    state := c.ctx.state
    kind := c.ctx.move.map (·.kind)
    reason := c.ctx.endReason }

/-- A move is RUNNING, REVERSING or SETTLING: it has been granted and has not ended its settling. -/
abbrev CtxState.Granted (x : CtxState) : Prop := x ≠ .idle ∧ x ≠ .queued

/-- A trace after a measured step: as it was, or with the step added to one zone's entry (R41). -/
def Watched.TracesTo (x : Watched) (after : Vector TraceEntry 64) : Prop :=
  after = x.trace ∨ ∃ (kind : Kind) (z : Fin 64) (e : ZoneEntry) (period supply : Nat),
    x.kind = some kind ∧ 200 ≤ period ∧ period ≤ 65535 ∧
    after = x.trace.set z (x.trace[z].add kind e period supply x.sense.mean)

/-- What the model does to the watched parts of a closure. -/
inductive Watched.Update : Watched → Watched → Prop where
  /-- A current sample (R22). -/
  | sampled (x : Watched) (mA : Int) : Update x { x with sense := x.sense.add mA }
  /-- The accumulator emptied and closed (R11, R22, R26). -/
  | emptied (x : Watched) : Update x { x with sense := x.sense.close }
  /-- The accumulator opened for the next step (R22). -/
  | opened (x : Watched) : Update x { x with sense := x.sense.open_ }
  /-- A measured step, computed or blanking (R23, R29, R38, R41). -/
  | measured (x : Watched) {published : Nat} {trace : Vector TraceEntry 64}
      (load : published = x.published ∨ ∃ list, published = filteredLoad list) (traces : x.TracesTo trace) :
      Update x { x with
        sense := { x.sense.open_ with lastMean := x.sense.mean }, published := published, trace := trace }
  /-- A move queued (R88). -/
  | queued (x : Watched) (kind : Kind) : Update x { x with state := .queued, kind := some kind, reason := none }
  /-- A move replaced in place (R89, R90); a LEARN move replaces no RUNNING one. -/
  | replaced (x : Watched) (kind : Kind) (h : x.state = .queued ∨ x.state = .running ∧ kind ≠ .learn) :
      Update x { x with kind := some kind }
  /-- A grant (R92). -/
  | granted (x : Watched) :
      Update x { x with state := .running, reason := none, trace := Vector.replicate 64 {} }
  /-- A reversal begun (R75). -/
  | reversing (x : Watched) (h : x.state.Granted) : Update x { x with state := .reversing }
  /-- Entry to SETTLING (R102). -/
  | settling (x : Watched) {reason : EndReason} (h : x.state.Granted)
      (learn : reason = .learnDone → x.kind = some .learn) :
      Update x { x with state := .settling, reason := some reason }
  /-- The context IDLE (R103, R104). -/
  | released (x : Watched) : Update x { x with state := .idle, kind := none, reason := none }
  /-- The reversal count takes a value, and the escape state follows it (R53, R72, R80). -/
  | counted (x : Watched) {n : Nat} (h : n ≤ x.escapeMax) :
      Update x { x with reversals := n, escape := decide (n = x.escapeMax) }
  /-- The reversal count 0 and the escape state OUT (R51, R69, R80, R98). -/
  | cleared (x : Watched) : Update x { x with reversals := 0, escape := false }
  /-- R_max written, the count limited to it (R3, R80). -/
  | limited (x : Watched) {top n : Nat} (h : n ≤ top) :
      Update x { x with escapeMax := top, reversals := n, escape := decide (n = top) }
  /-- A learning run taken into the profile (R51). -/
  | learned (x : Watched) {zones : Vector ZoneEntry 64} (settling : x.state = .settling)
      (done : x.reason = some .learnDone)
      (h : ∀ z : Fin 64, zones[z] = x.zones[z] ∨
        ∃ y : Fin 64, 1 ≤ x.trace[y].count ∧ zones[z] = x.trace[y].learned) :
      Update x { x with zones := zones, reversals := 0, escape := false }
  /-- An adaptation (R55). -/
  | adapted (x : Watched) {zones : Vector ZoneEntry 64}
      (h : ∀ z : Fin 64, zones[z] = x.zones[z].adapt x.trace[z]) : Update x { x with zones := zones }
  /-- A zone written (R57). -/
  | written (x : Watched) (z : Fin 64) (tRef iRef vRef : Nat) :
      Update x { x with zones := x.zones.set z (writtenZone tRef iRef vRef) }

/-! The arithmetic under the laws (R22, R23, R36, R48, R51, R55, R57). -/

theorem sampleOf_le (mA : Int) : sampleOf mA ≤ 40000 := by
  simp only [sampleOf, clampInt]
  split
  · decide
  · split <;> omega

/-- The mean of samples of at most 40,000 mA is at most 40,000 mA (R22, R23). -/
theorem Sense.mean_le {x : Sense} (sum : x.sum ≤ 40000 * x.count) (last : x.lastMean ≤ 40000) : x.mean ≤ 40000 := by
  unfold Sense.mean
  split
  · exact last
  · exact Nat.div_le_of_le_mul (by rwa [Nat.mul_comm])

theorem filteredLoad_le (list : List Int) : filteredLoad list ≤ 2047 := by
  simp only [filteredLoad, clampInt]
  split
  · decide
  · split <;> omega

/-- A trace entry sums steps of 200 to 65,535 µs and 0 to 40,000 mA (R41). -/
abbrev TraceEntry.Bounded (e : TraceEntry) : Prop :=
  200 * e.count ≤ e.period ∧ e.period ≤ 65535 * e.count ∧ e.current ≤ 40000 * e.count

theorem TraceEntry.blank_bounded : ({} : TraceEntry).Bounded := by decide

theorem TraceEntry.add_learn_bounded {e : TraceEntry} (h : e.Bounded) (z : ZoneEntry) {period current : Nat} (supply : Nat)
    (low : 200 ≤ period) (high : period ≤ 65535) (hc : current ≤ 40000) :
    (e.add .learn z period supply current).Bounded := by
  obtain ⟨h1, h2, h3⟩ := h
  unfold TraceEntry.add
  split
  · exact ⟨h1, h2, h3⟩
  · simp only [TraceEntry.Bounded]
    omega

/-- A zone learned from steps in range is in its band, each reference on its own anchor (R48, R51). -/
theorem TraceEntry.learned_inBand {e : TraceEntry} (h : e.Bounded) (sampled : 1 ≤ e.count) : e.learned.InBand := by
  obtain ⟨low, high, current⟩ := h
  have period : 200 ≤ e.period / e.count ∧ e.period / e.count ≤ 65535 :=
    ⟨(Nat.le_div_iff_mul_le sampled).mpr low, Nat.div_le_of_le_mul (by rwa [Nat.mul_comm])⟩
  have current : e.current / e.count ≤ 40000 := Nat.div_le_of_le_mul (by rwa [Nat.mul_comm])
  simp only [ZoneEntry.InBand, TraceEntry.learned]
  omega

/-- A value clamped to its anchor's band and then to its range is in both, when the anchor is in the range (R55). -/
theorem adaptValue_inBand {anchor lo hi : Nat} (low : lo ≤ anchor) (high : anchor ≤ hi) (reference mean : Nat) :
    3 * anchor / 4 ≤ adaptValue reference anchor mean lo hi ∧ adaptValue reference anchor mean lo hi ≤ 5 * anchor / 4 ∧
    lo ≤ adaptValue reference anchor mean lo hi ∧ adaptValue reference anchor mean lo hi ≤ hi := by
  unfold adaptValue
  rw [clampNat_eq (low.trans high), clampNat_eq (by omega)]
  omega

theorem ZoneEntry.adapt_inBand {e : ZoneEntry} (h : e.InBand) (t : TraceEntry) : (e.adapt t).InBand := by
  obtain ⟨⟨-, -, -, -, low, high⟩, ⟨-, -, -, top⟩⟩ := id h
  unfold ZoneEntry.adapt
  split
  · exact h
  · obtain ⟨t1, t2, t3, t4⟩ := adaptValue_inBand low high e.tRef (t.period / t.count)
    obtain ⟨i1, i2, -, i4⟩ := adaptValue_inBand (Nat.zero_le _) top e.iRef (t.current / t.count)
    exact ⟨⟨t1, t2, t3, t4, low, high⟩, i1, i2, i4, top⟩

theorem writtenZone_inBand (tRef iRef vRef : Nat) : (writtenZone tRef iRef vRef).InBand := by
  simp only [ZoneEntry.InBand, writtenZone]
  rw [clampNat_eq (by decide), clampNat_eq (by decide)]
  omega

/-! The laws, and that every update keeps them. -/

/-- The reversal count lies within 0 to R_max, and ESCAPE is the count R_max (R80). -/
def Watched.EscapeLaw (x : Watched) : Prop :=
  x.reversals ≤ x.escapeMax ∧ (1 ≤ x.escapeMax → (x.escape = true ↔ x.reversals = x.escapeMax))

/-- The published load is at most 2,047 LU (R36). -/
def Watched.LoadLaw (x : Watched) : Prop := x.published ≤ 2047

/-- A LEARN run's trace is bounded, LEARN_DONE ends a LEARN run alone, and the front end's means are bounded (R41, R51). -/
def Watched.TraceLaw (x : Watched) : Prop :=
  (x.state ≠ .idle → x.state ≠ .queued → x.kind = some .learn → ∀ z : Fin 64, x.trace[z].Bounded) ∧
  (x.state = .settling → x.reason = some .learnDone → x.kind = some .learn) ∧
  x.sense.sum ≤ 40000 * x.sense.count ∧ x.sense.lastMean ≤ 40000

/-- Every zone is in its anchor band (R48). -/
def Watched.ZoneLaw (x : Watched) : Prop := ∀ z : Fin 64, x.zones[z].InBand

/-- A count of 0 with the escape state OUT is lawful. -/
theorem Watched.escapeLaw_zero {x : Watched} (count : x.reversals = 0) (out : x.escape = false) : x.EscapeLaw := by
  refine ⟨by omega, fun room => ?_⟩
  rw [out, count]
  exact ⟨nofun, fun zero => by omega⟩

/-- A count with the escape state that follows it is lawful (R53, R80). -/
theorem Watched.escapeLaw_follows {x : Watched} (count : x.reversals ≤ x.escapeMax)
    (follows : x.escape = decide (x.reversals = x.escapeMax)) : x.EscapeLaw :=
  ⟨count, fun _ => by rw [follows, decide_eq_true_iff]⟩

theorem Watched.Update.escapeLaw {x y : Watched} (u : x.Update y) (h : x.EscapeLaw) : y.EscapeLaw := by
  cases u with
  | counted hn => exact escapeLaw_follows hn rfl
  | limited hn => exact escapeLaw_follows hn rfl
  | cleared => exact escapeLaw_zero rfl rfl
  | learned => exact escapeLaw_zero rfl rfl
  | _ => exact h

theorem Watched.Update.loadLaw {x y : Watched} (u : x.Update y) (h : x.LoadLaw) : y.LoadLaw := by
  cases u with
  | measured load =>
    rcases load with rfl | ⟨list, rfl⟩
    · exact h
    · exact filteredLoad_le list
  | _ => exact h

theorem Watched.TracesTo.bounded {x : Watched} {after : Vector TraceEntry 64} (h : x.TracesTo after)
    (learn : x.kind = some .learn) (mean : x.sense.mean ≤ 40000) (bounded : ∀ z : Fin 64, x.trace[z].Bounded)
    (z : Fin 64) : after[z].Bounded := by
  rcases h with rfl | ⟨kind, y, e, period, supply, hk, low, high, rfl⟩
  · exact bounded z
  · obtain rfl := Option.some.inj (hk.symm.trans learn)
    by_cases hz : y = z
    · subst hz
      simpa using TraceEntry.add_learn_bounded (bounded y) e supply low high mean
    · have : (y : Nat) ≠ z := fun same => hz (Fin.ext same)
      simpa [this] using bounded z

theorem Watched.Update.traceLaw {x y : Watched} (u : x.Update y) (h : x.TraceLaw) : y.TraceLaw := by
  obtain ⟨bounded, learn, sum, last⟩ := id h
  cases u with
  | sampled mA =>
    refine ⟨bounded, learn, ?_⟩
    have := sampleOf_le mA
    simp only [Sense.add]
    split
    · exact ⟨by dsimp only; omega, last⟩
    · exact ⟨sum, last⟩
  | emptied => exact ⟨bounded, learn, Nat.zero_le _, last⟩
  | opened => exact ⟨bounded, learn, Nat.zero_le _, last⟩
  | measured load traces =>
    have mean := Sense.mean_le sum last
    exact ⟨fun idle queued hk => traces.bounded hk mean (bounded idle queued hk), learn, Nat.zero_le _, mean⟩
  | queued kind => exact ⟨fun _ queued => absurd rfl queued, nofun, sum, last⟩
  | replaced kind hs =>
    rcases hs with hs | ⟨hs, hk⟩
    · exact ⟨fun _ queued => absurd hs queued, fun settling => absurd (hs.symm.trans settling) (by decide), sum, last⟩
    · exact ⟨fun _ _ hl => absurd (Option.some.inj hl) hk, fun settling => absurd (hs.symm.trans settling) (by decide), sum,
        last⟩
  | granted =>
    refine ⟨fun _ _ _ z => ?_, nofun, sum, last⟩
    simpa using TraceEntry.blank_bounded
  | reversing hg => exact ⟨fun _ _ => bounded hg.1 hg.2, nofun, sum, last⟩
  | settling hg hl => exact ⟨fun _ _ => bounded hg.1 hg.2, fun _ hr => hl (Option.some.inj hr), sum, last⟩
  | released => exact ⟨fun idle => absurd rfl idle, nofun, sum, last⟩
  | _ => exact h

theorem Watched.Update.zoneLaw {x y : Watched} (u : x.Update y) (trace : x.TraceLaw) (h : x.ZoneLaw) : y.ZoneLaw := by
  cases u with
  | learned settling done hz =>
    obtain ⟨bounded, learn, -⟩ := trace
    have granted : x.state.Granted := by rw [settling]; decide
    intro z
    rcases hz z with old | ⟨y, sampled, new⟩
    · exact old ▸ h z
    · exact new ▸ TraceEntry.learned_inBand (bounded granted.1 granted.2 (learn settling done) y) sampled
  | adapted hz => exact fun z => hz z ▸ ZoneEntry.adapt_inBand (h z) _
  | written y tRef iRef vRef =>
    intro z
    by_cases hz : y = z
    · subst hz
      simpa using writtenZone_inBand tRef iRef vRef
    · have : (y : Nat) ≠ z := fun same => hz (Fin.ext same)
      simpa [this] using h z
  | _ => exact h

end Sys2Proof.Machine
end

section
/-! PROOFS. What an operation can do to the state, in the parts that those laws speak of: `State.Evolves`, said once for
each operation in the order of the model's files. -/
namespace Sys2Proof.Machine

/-- One closure becomes another by updates of its watched parts. -/
abbrev ClosureState.Becomes (c d : ClosureState) : Prop := Relation.ReflTransGen Watched.Update c.watched d.watched

theorem ClosureState.becomes_of_same {c d : ClosureState} (h : d.watched = c.watched) : c.Becomes d := by
  rw [ClosureState.Becomes, h]

/-- The zones of an image that a commit which failed or was cut off leaves, free values (log entry 8), are in band. -/
abbrev TornImagesInBand : Prop :=
  ∀ (i : Nat) (k : ClosureId) (z : Fin 64), (Config.tornImage i).profiles[k].zones[z].InBand

/-- The profiles that a trusted image holds and those that a commit in flight has captured are in band (R48). -/
structure State.StoredInBand (s : State) : Prop where
  image : s.ImageTrusted → ∀ (k : ClosureId) (z : Fin 64), s.store.image.profiles[k].zones[z].InBand
  captured : ∀ n park x, s.store.job = .committing n park x → ∀ (k : ClosureId) (z : Fin 64), x.profiles[k].zones[z].InBand

theorem State.zoneLaw_iff (s : State) :
    s.ZoneLaw ↔ (∀ k : ClosureId, s.closures[k].watched.ZoneLaw) ∧ s.StoredInBand := by
  constructor
  · rintro ⟨working, image, captured⟩
    refine ⟨working, image, fun n park x hj => ?_⟩
    rwa [hj] at captured
  · rintro ⟨working, image, captured⟩
    refine ⟨working, image, ?_⟩
    split
    · exact captured _ _ _ ‹_›
    · trivial
    · trivial

/-- One state comes of another by the model's updates: every closure by updates of its watched parts, every word by
reduced values (R124), and the store with zones in their bands, if the zones were so and the traces lawful (R48). -/
structure State.Evolves (s t : State) : Prop where
  closures : ∀ k : ClosureId, s.closures[k].Becomes t.closures[k]
  words : ∀ w : Fin 6, t.words[w] = s.words[w] ∨ ∃ v, t.words[w] = reduceWord w v
  stored : TornImagesInBand → s.TraceLaw → s.ZoneLaw → t.StoredInBand

/-! The laws of a closure that another becomes. -/

section
variable {c d : ClosureState} (h : c.Becomes d)
include h

theorem ClosureState.Becomes.escapeLaw (law : c.watched.EscapeLaw) : d.watched.EscapeLaw :=
  Relation.ReflTransGen.head_induction_on (motive := fun x _ => x.EscapeLaw → d.watched.EscapeLaw) h id
    (fun u _ ih law => ih (u.escapeLaw law)) law

theorem ClosureState.Becomes.loadLaw (law : c.watched.LoadLaw) : d.watched.LoadLaw :=
  Relation.ReflTransGen.head_induction_on (motive := fun x _ => x.LoadLaw → d.watched.LoadLaw) h id
    (fun u _ ih law => ih (u.loadLaw law)) law

theorem ClosureState.Becomes.traceLaw (law : c.watched.TraceLaw) : d.watched.TraceLaw :=
  Relation.ReflTransGen.head_induction_on (motive := fun x _ => x.TraceLaw → d.watched.TraceLaw) h id
    (fun u _ ih law => ih (u.traceLaw law)) law

theorem ClosureState.Becomes.zoneLaw (traces : c.watched.TraceLaw) (law : c.watched.ZoneLaw) : d.watched.ZoneLaw :=
  Relation.ReflTransGen.head_induction_on (motive := fun x _ => x.TraceLaw → x.ZoneLaw → d.watched.ZoneLaw) h
    (fun _ law => law) (fun u _ ih traces law => ih (u.traceLaw traces) (u.zoneLaw traces law)) traces law

end

/-! State updates. -/

theorem State.Evolves.refl (s : State) : s.Evolves s :=
  ⟨fun _ => .refl, fun _ => .inl rfl, fun _ _ law => (s.zoneLaw_iff.mp law).2⟩

/-- What the laws know of a state besides its closures, and its closures. -/
def State.kept (s : State) : Vector ClosureState 8 × Vector Byte 6 × Store × Bool :=
  (s.closures, s.words, s.store, s.arbiter.unparkPending)

section
variable {o s t : State}

theorem State.StoredInBand.congr (h : s.StoredInBand) (hs : t.store = s.store)
    (hp : t.arbiter.unparkPending = s.arbiter.unparkPending) : t.StoredInBand := by
  obtain ⟨image, captured⟩ := h
  constructor
  · simpa only [State.ImageTrusted, hs, hp] using image
  · simpa only [hs] using captured

theorem State.Evolves.congr (h : o.Evolves s) (same : t.kept = s.kept) : o.Evolves t := by
  simp only [State.kept, Prod.mk.injEq] at same
  obtain ⟨hc, hw, hs, hp⟩ := same
  obtain ⟨closures, words, stored⟩ := h
  exact ⟨by simpa only [hc] using closures, by simpa only [hw] using words, fun torn traces law =>
    (stored torn traces law).congr hs hp⟩

/-- The working zones of a state that comes of a lawful one are in band. -/
theorem State.Evolves.working (h : o.Evolves s) (traces : o.TraceLaw) (law : o.ZoneLaw) (k : ClosureId) (z : Fin 64) :
    s.closures[k].profile.zones[z].InBand := (h.closures k).zoneLaw (traces k) (law.1 k) z

theorem State.Evolves.modClosure_of (h : o.Evolves s) (k : ClosureId) (f : ClosureState → ClosureState)
    (hf : s.closures[k].Becomes (f s.closures[k])) : o.Evolves (s.modClosure k f) := by
  refine ⟨fun j => ?_, h.words, fun torn traces law => (h.stored torn traces law).congr rfl rfl⟩
  by_cases hj : j = k
  · subst hj
    simpa only [State.modClosure_self] using (h.closures j).trans hf
  · simpa only [State.modClosure_other s f hj] using h.closures j

theorem State.Evolves.modClosure (h : o.Evolves s) (k : ClosureId) {f : ClosureState → ClosureState}
    (hf : ∀ c : ClosureState, c.Becomes (f c)) : o.Evolves (s.modClosure k f) := h.modClosure_of k f (hf _)

/-- Two updates of one closure are one. -/
theorem State.modClosure_modClosure (s : State) (k : ClosureId) (f g : ClosureState → ClosureState) :
    (s.modClosure k f).modClosure k g = s.modClosure k fun c => g (f c) :=
  State.modClosure_withClosure s k _ g

/-- One closure changes in parts that are not watched. -/
theorem State.Evolves.still (h : o.Evolves s) (k : ClosureId) (f : ClosureState → ClosureState)
    (same : ∀ c : ClosureState, (f c).watched = c.watched := by exact fun _ => rfl) : o.Evolves (s.modClosure k f) :=
  h.modClosure k fun c => ClosureState.becomes_of_same (same c)

/-- A context becomes IDLE (R103, R104). -/
theorem State.Evolves.release (h : o.Evolves s) (k : ClosureId) : o.Evolves (s.modClosure k ClosureState.toIdle) :=
  h.modClosure k fun _ => .single (.released _)

theorem State.Evolves.modCounter (h : o.Evolves s) (k : ClosureId) (f : Counter → Counter) : o.Evolves (s.modCounter k f) :=
  h.still k _

/-- The verdict unit's counts of steps, its timers and its records are not watched. -/
theorem State.Evolves.modVerdict (h : o.Evolves s) (k : ClosureId) (f : Verdict → Verdict)
    (same : ∀ v, (f v).reversals = v.reversals ∧ (f v).escape = v.escape := by exact fun _ => ⟨rfl, rfl⟩) :
    o.Evolves (s.modVerdict k f) := h.still k _ fun c => by simp only [ClosureState.watched, same]

/-- A context keeps its state, its move and its end reason. -/
theorem State.Evolves.modCtx (h : o.Evolves s) (k : ClosureId) (f : Context → Context)
    (same : ∀ x, (f x).state = x.state ∧ (f x).move = x.move ∧ (f x).endReason = x.endReason := by
      exact fun _ => ⟨rfl, rfl, rfl⟩) : o.Evolves (s.modCtx k f) :=
  h.still k _ fun c => by simp only [ClosureState.watched, same]

theorem State.Evolves.modArbiter (h : o.Evolves s) (f : Arbiter → Arbiter)
    (same : ∀ a, (f a).unparkPending = a.unparkPending := by exact fun _ => rfl) : o.Evolves (s.modArbiter f) :=
  h.congr (by simp only [State.kept, State.modArbiter, same])

theorem State.Evolves.modSeat (h : o.Evolves s) (n : SeatId) (f : SeatState → SeatState) : o.Evolves (s.modSeat n f) :=
  h.congr rfl

theorem State.Evolves.modLink (h : o.Evolves s) (f : Link → Link) : o.Evolves (s.modLink f) := h.congr rfl

theorem State.Evolves.postTo (h : o.Evolves s) (p : SeatId → Bool) (b : NoticeBody) : o.Evolves (s.postTo p b) :=
  h.congr rfl

theorem State.Evolves.mapClosures (h : o.Evolves s) (f : ClosureId → ClosureState → ClosureState)
    (hf : ∀ k (c : ClosureState), c.Becomes (f k c)) : o.Evolves (s.mapClosures f) := by
  refine ⟨fun k => ?_, h.words, fun torn traces law => (h.stored torn traces law).congr rfl rfl⟩
  have image : (s.mapClosures f).closures[k] = f k s.closures[k] := by simp
  rw [image]
  exact (h.closures k).trans (hf k _)

/-- A word takes a reduced value (R124). -/
theorem State.Evolves.setWord (h : o.Evolves s) (w : Fin 6) (v : Byte) :
    o.Evolves { s with words := s.words.set w (reduceWord w v) } := by
  refine ⟨h.closures, fun x => ?_, fun torn traces law => (h.stored torn traces law).congr rfl rfl⟩
  by_cases hx : w = x
  · subst hx
    exact .inr ⟨v, by simp⟩
  · have : (w : Nat) ≠ x := fun same => hx (Fin.ext same)
    simpa [this] using h.words x

/-- The store changes alone, to zones in band. -/
theorem State.Evolves.withStore (h : o.Evolves s) (hc : t.closures = s.closures) (hw : t.words = s.words)
    (ht : TornImagesInBand → o.TraceLaw → o.ZoneLaw → s.StoredInBand → t.StoredInBand) : o.Evolves t :=
  ⟨by simpa only [hc] using h.closures, by simpa only [hw] using h.words, fun torn traces law =>
    ht torn traces law (h.stored torn traces law)⟩

theorem State.Evolves.foldl {α : Type} (h : o.Evolves s) (f : State → α → State)
    (hf : ∀ t a, o.Evolves t → o.Evolves (f t a)) (l : List α) : o.Evolves (l.foldl f s) := by
  induction l generalizing s with
  | nil => exact h
  | cons a rest ih => exact ih (hf s a h)

theorem State.Evolves.ite {p : Prop} [Decidable p] (hs : o.Evolves s) (ht : o.Evolves t) :
    o.Evolves (if p then s else t) := by
  split
  · exact hs
  · exact ht

theorem State.Evolves.accept (h : o.Evolves s) (items : List Byte) : o.Evolves (s.accept items).state := h

theorem State.Evolves.placed {a : Answer} (h : o.Evolves a.state) (n : SeatId) (code : Byte) : o.Evolves (a.placed n code) :=
  h.congr rfl

/-! Motion. -/

/-- Entry to SETTLING of a granted move (R102); LEARN_DONE ends a LEARN move alone. -/
theorem State.Evolves.settle (h : o.Evolves s) (k : ClosureId) (r : EndReason) (w : Option SeatId)
    (granted : s.closures[k].ctx.state.Granted)
    (learn : r = .learnDone → s.closures[k].ctx.move.map (·.kind) = some .learn) : o.Evolves (s.settle k r w) :=
  (h.modClosure_of k (ClosureState.settle s.now r w) (.single (.settling _ granted learn))).congr rfl

/-- The unpark write begins on an image that is trusted for it (R118, R158). -/
theorem State.Evolves.startUnparkWrite (h : o.Evolves s) (pending : s.arbiter.unparkPending = true)
    (idle : s.store.job = .idle) : o.Evolves s.startUnparkWrite :=
  h.withStore rfl rfl fun _ _ _ stored => ⟨fun _ => stored.image (.inr (.inr ⟨idle, pending⟩)), nofun⟩

theorem State.Evolves.askUnpark (h : o.Evolves s) (pending : s.arbiter.unparkPending = true) : o.Evolves s.askUnpark := by
  unfold State.askUnpark
  split
  · exact h.startUnparkWrite pending ‹_›
  · exact h.congr rfl
  all_goals exact h

theorem State.Evolves.grant (h : o.Evolves s) (k : ClosureId) : o.Evolves (s.grant k) := by
  have taken : o.Evolves ((s.leaveQueue k).setSlot k true) := h.congr rfl
  unfold State.grant
  dsimp only
  split
  · exact taken
  · rename_i m _
    have granted := taken.modClosure k (f := ClosureState.grant s.now s.front.reading m) fun _ => .single (.granted _)
    split
    · refine granted.settle _ _ _ ?_ nofun
      rw [State.modClosure_self]
      exact ⟨nofun, nofun⟩
    · exact granted.modClosure _ fun _ => .single (.emptied _)

theorem State.Evolves.grantLoop (fuel : Nat) (h : o.Evolves s) : o.Evolves (s.grantLoop fuel) := by
  induction fuel generalizing s with
  | zero => exact h
  | succ n ih =>
    unfold State.grantLoop
    split
    · exact h
    · split
      · split
        · exact h.askUnpark ‹_›
        · split
          · exact ih (h.grant _)
          · exact h
      · exact h

theorem State.Evolves.grantTest (h : o.Evolves s) : o.Evolves s.grantTest := h.grantLoop _

theorem State.Evolves.endMove (h : o.Evolves s) (k : ClosureId) (r : EndReason) (w : Option SeatId)
    (granted : s.closures[k].ctx.state.Granted)
    (learn : r = .learnDone → s.closures[k].ctx.move.map (·.kind) = some .learn) : o.Evolves (s.endMove k r w) :=
  (h.settle k r w granted learn).grantTest

/-! A granted move stays granted while other moves end. -/

theorem State.settle_granted (k : ClosureId) (r : EndReason) (w : Option SeatId) {j : ClosureId}
    (granted : s.closures[j].ctx.state.Granted) : (s.settle k r w).closures[j].ctx.state.Granted := by
  by_cases hj : j = k
  · subst hj
    have : (s.settle j r w).closures[j] = ClosureState.settle s.now r w s.closures[j] := s.modClosure_self j _
    rw [this]
    exact ⟨nofun, nofun⟩
  · have : (s.settle k r w).closures[j] = s.closures[j] := s.modClosure_other _ hj
    rwa [this]

theorem State.grant_granted (k : ClosureId) {j : ClosureId} (granted : s.closures[j].ctx.state.Granted) :
    (s.grant k).closures[j].ctx.state.Granted := by
  by_cases hj : j = k
  · subst hj
    unfold State.grant
    dsimp only
    split
    · exact granted
    · rename_i m _
      have granted : (((s.leaveQueue j).setSlot j true).modClosure j
          (ClosureState.grant s.now s.front.reading m)).closures[j].ctx.state.Granted := by
        rw [State.modClosure_self]
        exact ⟨nofun, nofun⟩
      split
      · exact State.settle_granted _ _ _ granted
      · rw [State.modClosure_self]
        exact granted
  · rwa [State.grant_other s hj]

theorem State.grantLoop_granted (fuel : Nat) {j : ClosureId} (granted : s.closures[j].ctx.state.Granted) :
    (s.grantLoop fuel).closures[j].ctx.state.Granted := by
  induction fuel generalizing s with
  | zero => exact granted
  | succ n ih =>
    rcases hq : s.arbiter.queue with _ | ⟨head, rest⟩
    · simpa only [State.grantLoop, hq] using granted
    · rw [State.grantLoop_cons n hq]
      split
      · split
        · simpa only [State.askUnpark_closures] using granted
        · split
          · exact ih (State.grant_granted _ granted)
          · exact granted
      · exact granted

theorem State.endMove_granted (k : ClosureId) (r : EndReason) (w : Option SeatId) {j : ClosureId}
    (granted : s.closures[j].ctx.state.Granted) : (s.endMove k r w).closures[j].ctx.state.Granted :=
  State.grantLoop_granted _ (State.settle_granted k r w granted)

/-- The granted moves of several closures end, one after another (log entry 14). -/
theorem State.Evolves.endMoves (h : o.Evolves s) (l : List ClosureId) (r : EndReason) (w : Option SeatId)
    (granted : ∀ k ∈ l, s.closures[k].ctx.state.Granted) (learn : r ≠ .learnDone) :
    o.Evolves (l.foldl (fun t k => t.endMove k r w) s) := by
  induction l generalizing s with
  | nil => exact h
  | cons k rest ih =>
    refine ih (h.endMove k r w (granted k (by simp)) (absurd · learn)) fun j hj => ?_
    exact State.endMove_granted k r w (granted j (by simp [hj]))

/-! Outcomes, follow-ons and the end of settling. -/

theorem State.Evolves.remove (h : o.Evolves s) (k : ClosureId) (r : EndReason) (w : Option SeatId) :
    o.Evolves (s.remove k r w) := by
  have left : o.Evolves (s.leaveQueue k) := h.congr rfl
  unfold State.remove
  dsimp only
  split
  · exact h
  · exact ((left.still k _).postTo _ _).release k

theorem State.Evolves.enqueue (h : o.Evolves s) (k : ClosureId) (m : Move) : o.Evolves (s.enqueue k m) :=
  State.Evolves.congr (h.modClosure k
    (f := fun c => { c with ctx := queuedContext s.now s.seats[m.seat].record.holdUnits m })
    fun _ => .single (.queued _ m.kind)) rfl

theorem State.Evolves.dropFollowOn (h : o.Evolves s) (k : ClosureId) (c : DropCause) : o.Evolves (s.dropFollowOn k c) := by
  unfold State.dropFollowOn
  split
  · exact h
  · exact (h.modCtx k _).postTo _ _

theorem State.Evolves.storeFollowOn (h : o.Evolves s) (k : ClosureId) (m : Move) : o.Evolves (s.storeFollowOn k m) :=
  (h.dropFollowOn k .superseded).modCtx k _

/-- Every zone after a learning run is as it was, or learned from a sampled zone's trace (R51). -/
theorem Estimator.learnedZones_spec (x : Estimator) (old : Vector ZoneEntry 64) (z : Fin 64) :
    (x.learnedZones old)[z] = old[z] ∨
      ∃ y : Fin 64, 1 ≤ x.trace[y].count ∧ (x.learnedZones old)[z] = x.trace[y].learned := by
  simp only [Estimator.learnedZones, Fin.getElem_fin, Vector.getElem_ofFn]
  split
  · exact .inr ⟨z, (x.sampled_iff z).mp ‹_›, rfl⟩
  · rcases Option.eq_none_or_eq_some x.highest with hh | ⟨y, hh⟩
    · simp only [hh, true_or]
    · simp only [hh]
      split
      · exact .inr ⟨y, (x.sampled_iff y).mp (Estimator.highest_spec hh).1, rfl⟩
      · exact .inl rfl

theorem ClosureState.adapt_becomes (c : ClosureState) : c.Becomes c.adapt := by
  unfold ClosureState.adapt
  dsimp only
  split
  · exact .refl
  · exact .single (.adapted _ fun z => by simp [ClosureState.watched, Profile.changed])

/-- The profile memory at the end of settling learns or adapts, or leaves the profile (R51, R54, R55). -/
theorem ClosureState.profileAtEnd_becomes {c : ClosureState} {r : EndReason} (settling : c.ctx.state = .settling)
    (reason : c.ctx.endReason = some r) (m : Move) (b : Byte) (temperature : Int) :
    c.Becomes (c.profileAtEnd m r b temperature) := by
  unfold ClosureState.profileAtEnd
  split
  · rename_i done
    exact .single (.learned _ settling (done ▸ reason) fun z => c.est.learnedZones_spec _ z)
  · split
    · exact c.adapt_becomes
    · exact .refl

theorem State.Evolves.settleEnd (h : o.Evolves s) (k : ClosureId) (settling : s.closures[k].ctx.state = .settling) :
    o.Evolves (s.settleEnd k) := by
  unfold State.settleEnd
  dsimp only
  split
  · rename_i m r _ reason
    have learned := fun f : ClosureState → Stats => (h.still k fun x => { x with stats := f x }).modClosure_of k
      (fun x => x.profileAtEnd m r s.roughness s.front.temperature) (by
        rw [State.modClosure_self]
        refine ClosureState.profileAtEnd_becomes ?_ ?_ m _ _
        exacts [settling, reason])
    have posted := fun f p b outcome => ((learned f).postTo p b).still k fun x => { x with lastOutcome := outcome }
    split
    · exact (posted _ _ _ _).release _
    · exact ((posted _ _ _ _).enqueue _ _).grantTest
    · exact ((posted _ _ _ _).postTo _ _).release _
  · exact h

end

end Sys2Proof.Machine
end

section
/-! PROOFS. `State.Evolves` for the rest of the motion operations, for the events of the travel counters and the timers,
and for the commands. -/
namespace Sys2Proof.Machine

section
variable {o s : State}

/-! Loss of position, verdicts and reversals. -/

theorem CtxState.granted_of_running {x : CtxState} (h : x = .running) : x.Granted := by
  rw [h]
  decide

theorem CtxState.granted_of_reversing {x : CtxState} (h : x = .reversing) : x.Granted := by
  rw [h]
  decide

theorem State.modCounter_self (s : State) (k : ClosureId) (f : Counter → Counter) :
    (s.modCounter k f).closures[k] = { s.closures[k] with counter := f s.closures[k].counter } := s.modClosure_self k _

theorem State.modCtx_self (s : State) (k : ClosureId) (f : Context → Context) :
    (s.modCtx k f).closures[k] = { s.closures[k] with ctx := f s.closures[k].ctx } := s.modClosure_self k _

theorem State.Evolves.losePosition (h : o.Evolves s) (k : ClosureId) : o.Evolves (s.losePosition k) := by
  have lost := h.modCounter k fun x => { x with validity := .lost }
  have ends : s.closures[k].ctx.state.Granted →
      o.Evolves ((s.modCounter k fun x => { x with validity := .lost }).endMove k .positionLost none) := fun granted =>
    lost.endMove _ _ _ (by rwa [State.modCounter_self]) nofun
  unfold State.losePosition
  dsimp only
  split
  · exact h
  · split
    · exact lost
    · split
      · split
        · exact ends (CtxState.granted_of_running ‹_›)
        · exact ends (CtxState.granted_of_reversing ‹_›)
        · exact lost.remove _ _ _
        · exact lost
        · exact lost
      · exact lost

theorem ClosureState.beginReversal_becomes {c : ClosureState} (granted : c.ctx.state.Granted) (now : Nat) (pos : Int) :
    c.Becomes (c.beginReversal now pos) :=
  .tail (.single (.counted _ (Nat.min_le_left _ _))) (.reversing _ granted)

theorem State.recordAt_closures (s : State) (k : ClosureId) (c : VerdictCause) (p : Int) (l t : Nat) :
    (s.recordAt k c p l t).1.closures = s.closures := by
  unfold State.recordAt
  split <;> rfl

theorem State.Evolves.recordAt (h : o.Evolves s) (k : ClosureId) (c : VerdictCause) (p : Int) (l t : Nat) :
    o.Evolves (s.recordAt k c p l t).1 := by
  unfold State.recordAt
  split
  · exact h
  · exact h.congr rfl

theorem State.Evolves.startReversal (h : o.Evolves s) (k : ClosureId) (m : Move) (r : VerdictRecord)
    (granted : s.closures[k].ctx.state.Granted) : o.Evolves (s.startReversal k m r) := by
  have told : (((s.modClosure k (ClosureState.fillRecord r)).postOwner k m.seat (.pinch k r))).closures[k] =
      ClosureState.fillRecord r s.closures[k] := State.modClosure_self s k _
  refine ((h.still k (ClosureState.fillRecord r)).postTo _ _).modClosure_of k _ ?_
  rw [← State.postOwner, told]
  exact ClosureState.beginReversal_becomes (c := ClosureState.fillRecord r s.closures[k]) granted _ _

theorem State.Evolves.loadVerdict (h : o.Evolves s) (k : ClosureId) (p : Int) (l t : Nat) :
    o.Evolves (s.loadVerdict k p l t) := by
  have recorded := h.recordAt k .load p l t
  unfold State.loadVerdict
  dsimp only
  split
  · exact h.endMove _ _ _ (CtxState.granted_of_reversing ‹_›) nofun
  · have running : (s.recordAt k .load p l t).1.closures[k].ctx.state.Granted := by
      simpa only [State.recordAt_closures] using CtxState.granted_of_running ‹_›
    split
    · exact recorded.startReversal _ _ _ running
    · refine (recorded.still k _).endMove _ _ _ ?_ nofun
      rw [State.modClosure_self]
      exact running
  · exact h

theorem State.Evolves.judgeStep (h : o.Evolves s) (k : ClosureId) (d : Direction) (path : Path) (p : Int) (l : Nat) :
    o.Evolves (s.judgeStep k d path p l) := by
  unfold State.judgeStep
  dsimp only
  split
  · have applied := h.modVerdict k fun v => { v with lastThreshold := s.threshold k d path p }
    split
    · split
      · exact (applied.modVerdict k _).loadVerdict _ _ _ _
      · exact applied.modVerdict k _
    · exact applied.modVerdict k _
  · exact h.modVerdict k _

/-- The trace after a measured step (R41). -/
theorem ClosureState.traceAfter_tracesTo (c : ClosureState) (computed : Bool) {period : Nat} (supply : Nat) (pos : Int)
    (low : 200 ≤ period) (high : period ≤ 65535) :
    c.watched.TracesTo (c.traceAfter computed period c.sense.mean supply pos) := by
  unfold ClosureState.traceAfter
  split
  · rename_i m hm
    split
    · exact .inr ⟨m.kind, _, _, period, supply, by simp [ClosureState.watched, hm], low, high, rfl⟩
    · exact .inl rfl
  · exact .inl rfl

/-- The closure that a measured step leaves is a measured update of the one before it (R23, R29, R38). -/
theorem ClosureState.measured_becomes (c : ClosureState) {d : ClosureState} {period : Nat} (computed : Bool) (supply : Nat)
    (pos : Int) (low : 200 ≤ period) (high : period ≤ 65535)
    (load : d.est.published = c.est.published ∨ ∃ list, d.est.published = filteredLoad list)
    (hd : d.watched = { c.watched with
      sense := { c.sense.open_ with lastMean := c.sense.mean }
      published := d.est.published
      trace := c.traceAfter computed period c.sense.mean supply pos }) : c.Becomes d := by
  rw [ClosureState.Becomes, hd]
  exact .single (.measured _ load (c.traceAfter_tracesTo computed supply pos low high))

theorem State.Evolves.stepCompleted (h : o.Evolves s) (k : ClosureId) (d : Direction) {period : Nat} (low : 200 ≤ period)
    (high : period ≤ 65535) : o.Evolves (s.stepCompleted k d period) := by
  unfold State.stepCompleted
  dsimp only
  split
  · simp only [State.modClosure_modClosure]
    split
    · exact h.modClosure_of k _ (ClosureState.measured_becomes _ false _ _ low high (.inl rfl) rfl)
    · exact (h.modClosure_of k _ (ClosureState.measured_becomes _ true _ _ low high (.inr ⟨_, rfl⟩) rfl)).judgeStep
        _ _ _ _ _
  · exact h.modClosure k fun _ => .single (.opened _)

/-! Stalls. -/

/-- A closed-end stall leaves the reversal count, or clears it (R69). -/
theorem ClosureState.closedEnd_becomes (kind : Kind) (c : ClosureState) : c.Becomes (c.closedEnd kind) := by
  unfold ClosureState.closedEnd
  dsimp only
  split
  · exact .single (.cleared _)
  · exact .refl

theorem ClosureState.closedEnd_ctx (kind : Kind) (c : ClosureState) : (c.closedEnd kind).ctx = c.ctx := by
  rw [ClosureState.closedEnd_eq]

/-- LEARN_DONE is the end reason of a closed-end stall of a LEARN move alone (R51). -/
theorem ClosureState.kind_of_learnDone {c : ClosureState} {kind : Kind} (h : c.closedEndReason kind = .learnDone) :
    kind = .learn := by
  cases kind with
  | learn => rfl
  | _ => exact nomatch h

theorem State.Evolves.closedEndStall (h : o.Evolves s) (k : ClosureId) {m : Move} (hm : s.closures[k].ctx.move = some m)
    (running : s.closures[k].ctx.state = .running) : o.Evolves (s.closedEndStall k m) := by
  refine (h.modClosure k (ClosureState.closedEnd_becomes m.kind)).endMove _ _ _ ?_ fun done => ?_
  · rw [State.modClosure_self, ClosureState.closedEnd_ctx]
    exact CtxState.granted_of_running running
  · rw [State.modClosure_self, ClosureState.closedEnd_ctx, hm]
    exact congrArg some (ClosureState.kind_of_learnDone done)

theorem State.Evolves.stallVerdict (h : o.Evolves s) (k : ClosureId) (m : Move)
    (running : s.closures[k].ctx.state = .running) : o.Evolves (s.stallVerdict k m) := by
  refine (h.recordAt _ _ _ _ _).startReversal _ _ _ ?_
  simpa only [State.recordAt_closures] using CtxState.granted_of_running running

theorem State.Evolves.classifyStall (h : o.Evolves s) (k : ClosureId) : o.Evolves (s.classifyStall k) := by
  unfold State.classifyStall
  dsimp only
  split
  · rename_i m running hm
    split
    · split
      · exact h.closedEndStall _ hm running
      · exact h.stallVerdict _ _ running
    · refine h.endMove _ _ _ (CtxState.granted_of_running running) ?_
      split <;> exact nofun
  · split
    · exact h.endMove _ _ _ (CtxState.granted_of_reversing ‹_›) nofun
    · exact h
  · exact h

/-! Travel events. -/

theorem ClosureState.restartStall_watched (now : Nat) (c : ClosureState) : (c.restartStall now).watched = c.watched := by
  unfold ClosureState.restartStall
  split <;> rfl

theorem ClosureState.restartQuiet_watched (now : Nat) (c : ClosureState) : (c.restartQuiet now).watched = c.watched := by
  unfold ClosureState.restartQuiet
  split <;> rfl

theorem State.Evolves.refuseEdge (h : o.Evolves s) (k : ClosureId) : o.Evolves (s.refuseEdge k) :=
  (h.losePosition k).still k _ fun c => by rw [ClosureState.restartQuiet_watched, ClosureState.restartStall_watched]

/-- A counted pulse leaves the watched parts, or empties the accumulator at a change of direction (R8, R11). -/
theorem ClosureState.countPulse_becomes (d : Direction) (c : ClosureState) : c.Becomes (c.countPulse d) := by
  unfold ClosureState.countPulse
  dsimp only
  split
  · exact .refl
  · exact .single (.emptied _)

theorem State.Evolves.directionFault (h : o.Evolves s) (k : ClosureId) : o.Evolves (s.directionFault k) := by
  have lost := h.modCounter k fun x => { x with validity := .lost, dirFaultRun := 0 }
  unfold State.directionFault
  dsimp only
  split
  · exact lost.endMove _ _ _ (by rw [State.modCounter_self]; exact CtxState.granted_of_running ‹_›) nofun
  · exact lost.endMove _ _ _ (by rw [State.modCounter_self]; exact CtxState.granted_of_reversing ‹_›) nofun
  all_goals exact lost

theorem State.Evolves.superviseDirection (h : o.Evolves s) (k : ClosureId) (d : Direction) :
    o.Evolves (s.superviseDirection k d) := by
  have supervised := fun run => h.still k (fun x => { x.restartStall s.now with
    counter := { (x.restartStall s.now).counter with dirFaultRun := run } })
    (fun c => (c.restartStall_watched s.now : _))
  unfold State.superviseDirection
  dsimp only
  split
  · exact (supervised _).directionFault _
  · exact supervised _

theorem stepPeriod_bounds (from_ to_ : Nat) : 200 ≤ stepPeriod from_ to_ ∧ stepPeriod from_ to_ ≤ 65535 := by
  rw [stepPeriod, clampNat_eq (by decide)]
  omega

theorem State.Evolves.stepLogic (h : o.Evolves s) (k : ClosureId) (d : Direction) : o.Evolves (s.stepLogic k d) := by
  have taken := h.modCounter k fun x => { x with stepRecord := some { time := s.now, dir := d } }
  have opened := taken.modClosure k (f := fun x => { x with sense := x.sense.open_ }) fun _ => .single (.opened _)
  unfold State.stepLogic
  dsimp only
  split
  · rename_i e _
    obtain ⟨low, high⟩ := stepPeriod_bounds e.time s.now
    split
    · exact (taken.modCounter _ _).stepCompleted _ _ low high
    · exact opened
  · exact opened

theorem State.Evolves.movedUndriven (h : o.Evolves s) (k : ClosureId) : o.Evolves (s.movedUndriven k) := by
  unfold State.movedUndriven
  dsimp only
  split
  · rename_i asks
    exact (h.postTo _ _).askUnpark (Bool.and_eq_true_iff.mp asks).1
  · exact h.postTo _ _

theorem State.Evolves.undrivenPulse (h : o.Evolves s) (k : ClosureId) : o.Evolves (s.undrivenPulse k) := by
  have counted := h.modCounter k fun x =>
    { x with burst := min Config.runLength (x.burst + 1), undrivenTimer := some (s.now + Config.undrivenQuiet) }
  unfold State.undrivenPulse
  dsimp only
  split
  · split
    · exact counted.congr rfl
    · exact counted.movedUndriven _
  · exact counted

theorem ClosureState.reversalReason_ne_learnDone (c : ClosureState) : c.reversalReason ≠ .learnDone := by
  unfold ClosureState.reversalReason
  split <;> decide

theorem State.Evolves.reportPulse (h : o.Evolves s) (k : ClosureId) : o.Evolves (s.reportPulse k) := by
  unfold State.reportPulse
  dsimp only
  split
  · exact h.still _ _ (ClosureState.restartQuiet_watched _)
  · split
    · exact h.endMove _ _ _ (CtxState.granted_of_running ‹_›) nofun
    · exact h
  · split
    · exact h.endMove _ _ _ (CtxState.granted_of_reversing ‹_›) (absurd · (ClosureState.reversalReason_ne_learnDone _))
    · exact h
  · exact h

theorem State.Evolves.takePulse (h : o.Evolves s) (k : ClosureId) (d : Direction) (rising : Bool) :
    o.Evolves (s.takePulse k d rising) := by
  have counted := (h.modClosure k (ClosureState.countPulse_becomes d)).superviseDirection k d
  have stepped := (counted.stepLogic k d).ite (p := rising) counted
  exact ((stepped.undrivenPulse k).ite stepped).reportPulse k

theorem State.Evolves.hallEdge (h : o.Evolves s) (k : ClosureId) (ph : Phase) : o.Evolves (s.hallEdge k ph) := by
  have sampled := h.modCounter k fun x => x.toggle ph
  exact (sampled.refuseEdge k).ite (sampled.takePulse k _ _)

theorem State.Evolves.moveFault (h : o.Evolves s) (k : ClosureId) : o.Evolves (s.moveFault k) := by
  have counted := h.modCounter k fun x => { x with phaseFaults := min Config.faultLimit (x.phaseFaults + 1) }
  have lost := counted.modCounter k fun x => { x with validity := .lost }
  unfold State.moveFault
  dsimp only
  split
  · split
    · refine lost.endMove _ _ _ ?_ nofun
      rw [State.modCounter_self, State.modCounter_self]
      exact CtxState.granted_of_running ‹_›
    · refine lost.endMove _ _ _ ?_ nofun
      rw [State.modCounter_self, State.modCounter_self]
      exact CtxState.granted_of_reversing ‹_›
    all_goals exact lost
  · exact counted

theorem State.Evolves.phaseFault (h : o.Evolves s) (k : ClosureId) : o.Evolves (s.phaseFault k) := by
  have emptied := h.modClosure k (f := ClosureState.emptyStep) fun _ => .single (.emptied _)
  unfold State.phaseFault
  dsimp only
  split
  case h_1 | h_2 | h_3 => exact emptied.moveFault _
  case h_4 | h_5 => exact emptied.losePosition _

theorem State.Evolves.endBrake (h : o.Evolves s) (k : ClosureId) (reversing : s.closures[k].ctx.state = .reversing) :
    o.Evolves (s.endBrake k) := by
  unfold State.endBrake
  dsimp only
  split
  · exact h.endMove _ _ _ (CtxState.granted_of_reversing reversing)
      (absurd · (ClosureState.reversalReason_ne_learnDone _))
  · exact (h.modVerdict k _).modClosure k fun _ => .single (.emptied _)

/-! Motion commands. -/

theorem State.Evolves.replaceQueued (h : o.Evolves s) (k : ClosureId) (m : Move)
    (queued : s.closures[k].ctx.state = .queued) : o.Evolves (s.replaceQueued k m) := by
  have replaced : o.Evolves (s.modCtx k (Context.replace s.now s.seats[m.seat].record.holdUnits m)) :=
    h.modClosure_of k _ (.single (.replaced _ m.kind (.inl queued)))
  have placed : o.Evolves
      ((s.modCtx k (Context.replace s.now s.seats[m.seat].record.holdUnits m)).replaceInQueue k) := by
    unfold State.replaceInQueue
    split
    · exact replaced.congr rfl
    · exact replaced
  exact (placed.remove _ _ _).ite placed

/-- What a taken request leaves, if it is taken, comes of a state. -/
def Submitted.From (o : State) : Submitted → Prop
  | .refused _ => True
  | .taken t _ _ => o.Evolves t

/-- A request that ends a RUNNING move or replaces one in place, or a QUEUED one, meets such a context (R89, R90). -/
theorem Context.meet_state (x : Context) (m : Move) :
    (x.meet m = .replaceQueued → x.state = .queued) ∧
    (x.meet m = .replaceRunning → x.state = .running ∧ m.kind ≠ .learn) ∧
    (x.meet m = .supersedeRunning → x.state = .running) := by
  unfold Context.meet
  split
  · rename_i queued _
    refine ⟨fun _ => queued, ?_, ?_⟩ <;> (split <;> [exact nofun; (split <;> exact nofun)])
  · rename_i running _
    refine ⟨?_, fun kept => ⟨running, fun learn => ?_⟩, fun _ => running⟩
    · split <;> [exact nofun; (split <;> [exact nofun; (split <;> exact nofun)])]
    · revert kept
      simp only [learn, Kind.toStop, Bool.or_true, if_true]
      split <;> [exact nofun; (split <;> exact nofun)]
  · split <;> exact ⟨nofun, nofun, nofun⟩
  all_goals exact ⟨nofun, nofun, nofun⟩

theorem State.Evolves.replaceRunning (h : o.Evolves s) (k : ClosureId) {m : Move}
    (running : s.closures[k].ctx.state = .running) (kind : m.kind ≠ .learn) :
    (s.replaceRunning k m).From o := by
  have replaced : o.Evolves (s.modCtx k (Context.replace s.now s.seats[m.seat].record.holdUnits m)) :=
    h.modClosure_of k _ (.single (.replaced _ m.kind (.inr ⟨running, kind⟩)))
  have granted : (s.modCtx k (Context.replace s.now s.seats[m.seat].record.holdUnits m)).closures[k].ctx.state.Granted := by
    rw [State.modCtx_self]
    exact CtxState.granted_of_running running
  exact (replaced.endMove k .targetReached none granted nofun).ite replaced

theorem State.Evolves.takeMove (h : o.Evolves s) (k : ClosureId) (m : Move) : (s.takeMove k m).From o := by
  obtain ⟨queued, kept, superseded⟩ := s.closures[k].ctx.meet_state m
  unfold State.takeMove
  split
  · trivial
  · exact (h.enqueue _ _).grantTest
  · exact h.replaceQueued _ _ (queued ‹_›)
  · exact ((h.remove _ _ _).enqueue _ _).grantTest
  · exact h.replaceRunning _ (kept ‹_›).1 (kept ‹_›).2
  · exact (h.endMove _ _ _ (CtxState.granted_of_running (superseded ‹_›)) (by exact nofun)).storeFollowOn _ _
  · exact h.storeFollowOn _ _

theorem State.Evolves.submit (h : o.Evolves s) (k : ClosureId) (m : Move) : (s.submit k m).From o := by
  unfold State.submit
  dsimp only
  split
  · trivial
  · exact h.takeMove _ _

theorem State.Evolves.moveCommand (h : o.Evolves s) (n : SeatId) (k kind dir origin : Byte) (target : Option Int) :
    o.Evolves (s.moveCommand n k kind dir origin target).state := by
  unfold State.moveCommand
  split
  · exact h
  · rename_i j _
    split
    · exact h
    · rename_i m _
      have submitted := h.submit j m
      split
      · exact h
      · rename_i taken
        rw [taken] at submitted
        exact submitted

theorem State.Evolves.answerMove (h : o.Evolves s) (n : SeatId) (args : List Byte) :
    o.Evolves (s.answerMove n args).state := by
  unfold State.answerMove
  split
  · exact h.moveCommand _ _ _ _ _ _
  · exact h.moveCommand _ _ _ _ _ _
  · exact h

theorem State.Evolves.answerRenew (h : o.Evolves s) (n : SeatId) (args : List Byte) :
    o.Evolves (s.answerRenew n args).state := by
  unfold State.answerRenew
  split
  · split
    · exact h
    · split
      · exact (h.modCtx _ _).accept _
      · exact h
  · exact h

theorem State.Evolves.halt (h : o.Evolves s) (k : ClosureId) {r : EndReason} (learn : r ≠ .learnDone) (c : DropCause)
    (n : SeatId) : o.Evolves (s.halt k r c n) := by
  unfold State.halt
  split
  · exact h.endMove _ _ _ (CtxState.granted_of_running ‹_›) (absurd · learn)
  · exact (h.endMove _ _ _ (CtxState.granted_of_reversing ‹_›) (absurd · learn)).dropFollowOn _ _
  · exact h.remove _ _ _
  · exact h.dropFollowOn _ _
  · exact h

theorem State.Evolves.answerStop (h : o.Evolves s) (n : SeatId) (args : List Byte) :
    o.Evolves (s.answerStop n args).state := by
  unfold State.answerStop
  split
  · split
    · exact h
    · split
      · exact State.Evolves.accept (h.halt _ (by decide) _ _) _
      · exact h
  · exact h

theorem State.Evolves.answerClear (h : o.Evolves s) (n : SeatId) (args : List Byte) :
    o.Evolves (s.answerClear n args).state := by
  unfold State.answerClear
  split
  · split
    · exact h
    · split
      · refine State.Evolves.accept (State.Evolves.modCounter ?_ _ _) _
        exact (h.halt _ (by decide) _ _).modClosure _ (f := ClosureState.clearEscape) fun _ => .single (.cleared _)
      · exact h
  · exact h

theorem Context.granted_of_moving {x : Context} (h : x.moving = true) : x.state.Granted := by
  simp only [Context.moving, Bool.or_eq_true, decide_eq_true_eq] at h
  exact h.elim CtxState.granted_of_running CtxState.granted_of_reversing

theorem State.Evolves.allStop (h : o.Evolves s) (who : Option SeatId) : o.Evolves (s.allStop who) := by
  have removed := h.foldl
    (fun t k => if t.closures[k].ctx.state = .queued then t.remove k .allStopped who else t)
    (fun _ _ g => (g.remove _ _ _).ite g) allClosures
  exact (removed.endMoves _ .allStopped who (fun k hk => Context.granted_of_moving (List.mem_filter.mp hk).2)
    nofun).mapClosures _ fun _ _ => .refl

theorem State.Evolves.answerAllStop (h : o.Evolves s) (n : SeatId) (args : List Byte) :
    o.Evolves (s.answerAllStop n args).state := by
  unfold State.answerAllStop
  split
  · exact h.allStop _
  · exact h

theorem State.Evolves.broadcastAllStop (h : o.Evolves s) (args : List Byte) : o.Evolves (s.broadcastAllStop args) := by
  unfold State.broadcastAllStop
  split
  · exact h.allStop _
  · exact h

theorem State.Evolves.clearQueue (h : o.Evolves s) (ask : Move) (l : List ClosureId) : o.Evolves (s.clearQueue ask l) := by
  rw [State.clearQueue_eq]
  exact h.congr rfl

theorem State.Evolves.globalTake (ask : Move) (asked : List ClosureId) {x : GlobalRun} (h : o.Evolves x.state)
    (k : ClosureId) : o.Evolves (x.take ask asked k).state := by
  unfold GlobalRun.take
  dsimp only
  have submitted := ((h.clearQueue ask (asked.filter (k < ·))).ite (p := x.state.releasesSlot k ask) h).submit k ask
  split
  · exact h
  · rename_i taken
    rw [taken] at submitted
    exact submitted

theorem State.Evolves.globalTakes (ask : Move) (asked l : List ClosureId) {x : GlobalRun} (h : o.Evolves x.state) :
    o.Evolves (l.foldl (GlobalRun.take ask asked) x).state := by
  induction l generalizing x with
  | nil => exact h
  | cons k rest ih => exact ih (State.Evolves.globalTake ask asked h k)

theorem State.Evolves.answerGlobal (h : o.Evolves s) (n : SeatId) (args : List Byte) :
    o.Evolves (s.answerGlobal n args).state := by
  unfold State.answerGlobal
  split
  · split
    · split
      · exact h
      · split
        · exact State.Evolves.globalTakes _ _ _ h
        · exact h
    · exact h
  · exact h

end

end Sys2Proof.Machine
end

section
/-! PROOFS. `State.Evolves` for the other commands, the store, the front end, the frames and the events of power; what
every command does, and the reversal count, the load and the words (R36, R80, R123). -/
namespace Sys2Proof.Machine

section
variable {o s : State}

/-! Profile, statistics, settings, seats and words. -/

theorem State.Evolves.answerClearStats (h : o.Evolves s) (n : SeatId) (args : List Byte) :
    o.Evolves (s.answerClearStats n args).state := by
  unfold State.answerClearStats
  split
  · split
    · exact h
    · split
      · exact State.Evolves.accept (h.still _ _) _
      · exact h
  · exact h

theorem State.Evolves.answerWriteProfileZone (h : o.Evolves s) (n : SeatId) (args : List Byte) :
    o.Evolves (s.answerWriteProfileZone n args).state := by
  unfold State.answerWriteProfileZone
  split
  · rename_i closure zone tHi tLo iHi iLo vHi vLo
    split
    · exact h
    · rename_i k _
      split
      · exact h
      · split
        · rename_i hz
          split
          · exact State.Evolves.accept (h.modClosure_of k _ (.single (.written _ ⟨zone.toNat, hz⟩ (word16 tHi tLo).toNat
              (word16 iHi iLo).toNat (word16 vHi vLo).toNat))) _
          · exact h
        · exact h
  · exact h

theorem State.Evolves.answerMarkLearned (h : o.Evolves s) (n : SeatId) (args : List Byte) :
    o.Evolves (s.answerMarkLearned n args).state := by
  unfold State.answerMarkLearned
  split
  · split
    · exact h
    · split
      · refine State.Evolves.accept (h.still _ _ fun c => ?_) _
        unfold Profile.markLearned
        split <;> rfl
      · exact h
  · exact h

/-- One write does not change both R_max and the class or the travel (R2, R3). -/
theorem Description.write_escapeMax_or {d e : Description} {id v : Nat} (h : d.write id v = some e) :
    e.escapeMax = d.escapeMax ∨ e.cls = d.cls ∧ e.travel = d.travel := by
  unfold Description.write at h
  split at h
  case h_2 | h_6 | h_22 =>
    obtain ⟨x, -, rfl⟩ := Option.map_eq_some_iff.mp h
    exact .inl rfl
  case h_1 =>
    obtain ⟨x, -, rfl⟩ := Option.map_eq_some_iff.mp h
    left
    split <;> rfl
  case h_21 =>
    obtain rfl := Option.some.inj h
    exact .inr ⟨rfl, rfl⟩
  case h_23 => exact nomatch h
  case h_3 | h_4 | h_15 =>
    obtain rfl := Option.some.inj h
    left
    split <;> rfl
  all_goals
    obtain rfl := Option.some.inj h
    exact .inl rfl

theorem ClosureState.limitPosition_watched (c : ClosureState) : c.limitPosition.watched = c.watched := by
  rw [ClosureState.limitPosition_eq]
  rfl

/-- A description write leaves the watched parts but for R_max, to which it limits the reversal count (R3, R80). -/
theorem ClosureState.adjustAfterWrite_becomes {c : ClosureState} {e : Description}
    (he : e.escapeMax = c.desc.escapeMax ∨ e.cls = c.desc.cls ∧ e.travel = c.desc.travel) :
    c.Becomes (ClosureState.adjustAfterWrite c.desc { c with desc := e }) := by
  unfold ClosureState.adjustAfterWrite
  dsimp only
  by_cases top : e.escapeMax = c.desc.escapeMax
  · refine ClosureState.becomes_of_same ?_
    have kept : ({ c with desc := e } : ClosureState).watched = c.watched := by
      simp only [ClosureState.watched, top]
    rw [if_neg (not_not.mpr top)]
    split
    · exact kept
    · split
      · exact (ClosureState.limitPosition_watched _).trans kept
      · exact kept
  · obtain ⟨cls, travel⟩ := he.resolve_left top
    rw [if_neg (not_not.mpr cls), if_neg (not_not.mpr travel), if_pos top]
    exact .single (.limited _ (Nat.min_le_left _ _))

theorem State.Evolves.writeDescription (h : o.Evolves s) (k : ClosureId) {e : Description}
    (he : e.escapeMax = s.closures[k].desc.escapeMax ∨
      e.cls = s.closures[k].desc.cls ∧ e.travel = s.closures[k].desc.travel) : o.Evolves (s.writeDescription k e) := by
  have written := h.modClosure_of k (fun c => ClosureState.adjustAfterWrite s.closures[k].desc { c with desc := e })
    (ClosureState.adjustAfterWrite_becomes he)
  exact (written.losePosition k).ite written

theorem State.Evolves.writeField (h : o.Evolves s) (n : SeatId) (k id : Byte) (v : Nat) :
    o.Evolves (s.writeField n k id v).state := by
  unfold State.writeField
  split
  · exact h
  · split
    · exact h
    · split
      · exact h
      · split
        · exact h
        · rename_i written
          split
          · exact h
          · exact (h.writeDescription _ (Description.write_escapeMax_or written)).accept _

theorem State.Evolves.writeSupplySetting (h : o.Evolves s) (n : SeatId) (x : SupplySetting) (v : Nat) :
    o.Evolves (s.writeSupplySetting n x v).state := by
  unfold State.writeSupplySetting
  split
  · exact h
  · split
    · exact h
    · exact h.congr (t := State.mk ..) rfl

theorem State.Evolves.writeRetention (h : o.Evolves s) (n : SeatId) (v : Nat) :
    o.Evolves (s.writeRetention n v).state := by
  unfold State.writeRetention
  split
  · exact h
  · exact h.congr (t := State.mk ..) rfl

theorem State.Evolves.answerWriteSetting (h : o.Evolves s) (n : SeatId) (args : List Byte) :
    o.Evolves (s.answerWriteSetting n args).state := by
  unfold State.answerWriteSetting
  split
  · split
    · exact h.writeSupplySetting _ _ _
    · exact h.writeRetention _ _
    · exact h.writeField _ _ _ _
  · exact h

theorem State.Evolves.answerWriteSeatRecord (h : o.Evolves s) (n : SeatId) (args : List Byte) :
    o.Evolves (s.answerWriteSeatRecord n args).state := by
  unfold State.answerWriteSeatRecord
  split
  · split
    · exact h
    · split
      · exact State.Evolves.accept (h.modSeat _ _) _
      · exact h
  · exact h

theorem State.Evolves.answerTakeNotice (h : o.Evolves s) (n : SeatId) (args : List Byte) :
    o.Evolves (s.answerTakeNotice n args).state := by
  unfold State.answerTakeNotice
  split
  · split
    · exact h
    · exact State.Evolves.accept (h.modSeat _ _) _
  · exact h

theorem State.Evolves.answerReadSeatStatus (h : o.Evolves s) (n : SeatId) (args : List Byte) :
    o.Evolves (s.answerReadSeatStatus n args).state := by
  unfold State.answerReadSeatStatus
  split
  · exact State.Evolves.accept (h.modSeat _ _) _
  · exact h

theorem Context.state_of_isLocal {x : Context} {state : CtxState} (h : x.isLocal state = true) : x.state = state :=
  of_decide_eq_true (Bool.and_eq_true_iff.mp h).1

theorem Context.state_of_closes {x : Context} {state : CtxState} (h : x.closes state = true) : x.state = state :=
  of_decide_eq_true (Bool.and_eq_true_iff.mp h).1

theorem State.Evolves.lockOut (h : o.Evolves s) (added : Byte) : o.Evolves (s.lockOut added) := by
  have removed := h.foldl
    (fun t k => if t.closures[k].ctx.isLocal .queued then t.remove k .lockedOut none else t)
    (fun _ _ g => (g.remove _ _ _).ite g) (allClosures.filter fun k => hasMember added k.val)
  exact removed.endMoves _ .lockedOut none (fun k hk =>
    CtxState.granted_of_running (Context.state_of_isLocal (List.mem_filter.mp hk).2)) (by decide)

theorem State.Evolves.wordChanged (h : o.Evolves s) (w : Fin 6) (old new : Byte) :
    o.Evolves (s.wordChanged w old new) := by
  unfold State.wordChanged
  split
  · exact h.lockOut _
  · exact State.Evolves.ite (.ite h (h.congr rfl)) (.ite (h.congr rfl) h)
  · exact h.ite (h.congr rfl)
  all_goals exact h

theorem State.Evolves.takeWord (h : o.Evolves s) (w : Fin 6) (v : Byte) : o.Evolves (s.takeWord w v).state := by
  have written := h.setWord w v
  exact (written.ite (written.wordChanged _ _ _)).accept _

theorem State.Evolves.wordCommand (h : o.Evolves s) (n : SeatId) (w : Byte) {act : Fin 6 → Answer}
    (ha : ∀ x, o.Evolves (act x).state) : o.Evolves (s.wordCommand n w act).state := by
  unfold State.wordCommand
  split
  · exact h
  · split
    · exact ha _
    · exact h

theorem State.Evolves.answerWriteWord (h : o.Evolves s) (n : SeatId) (args : List Byte) :
    o.Evolves (s.answerWriteWord n args).state := by
  unfold State.answerWriteWord
  split
  · exact h.wordCommand _ _ fun _ => h.takeWord _ _
  · exact h

theorem State.Evolves.answerSetBits (h : o.Evolves s) (n : SeatId) (args : List Byte) :
    o.Evolves (s.answerSetBits n args).state := by
  unfold State.answerSetBits
  split
  · exact h.wordCommand _ _ fun _ => h.takeWord _ _
  · exact h

theorem State.Evolves.answerClearBits (h : o.Evolves s) (n : SeatId) (args : List Byte) :
    o.Evolves (s.answerClearBits n args).state := by
  unfold State.answerClearBits
  split
  · exact h.wordCommand _ _ fun _ => h.takeWord _ _
  · exact h

theorem State.Evolves.answerCompareAndWrite (h : o.Evolves s) (n : SeatId) (args : List Byte) :
    o.Evolves (s.answerCompareAndWrite n args).state := by
  unfold State.answerCompareAndWrite
  split
  · refine h.wordCommand _ _ fun _ => ?_
    split
    · exact h.takeWord _ _
    · exact h
  · exact h

/-! The store. -/

/-- A commit captures working zones, and trusts the image no more than before (R156). -/
theorem State.Evolves.acceptCommit (h : o.Evolves s) (n : SeatId) (park : Bool) : o.Evolves (s.acceptCommit n park) := by
  have marked := h.mapClosures (fun _ c => { c with profile := { c.profile with capture := true } }) fun _ _ => .refl
  refine marked.withStore rfl rfl fun _ traces law stored => ⟨?_, ?_⟩
  · rintro (valid | unparking | ⟨idle, -⟩)
    · exact stored.image (.inl valid)
    · exact nomatch unparking
    · exact nomatch idle
  · rintro _ _ _ ⟨⟩ k z
    simpa [State.capture] using h.working traces law k z

theorem State.Evolves.answerCommit (h : o.Evolves s) (n : SeatId) (args : List Byte) :
    o.Evolves (s.answerCommit n args).state := by
  unfold State.answerCommit
  split
  · split
    · exact h
    · split
      · exact h
      · split
        · exact h
        · split
          · exact h
          · exact (h.acceptCommit _ _).accept _
  · exact h

theorem State.Evolves.commitEnded (h : o.Evolves s) (idle : s.store.job = .idle) : o.Evolves s.commitEnded := by
  unfold State.commitEnded
  split
  · split
    · exact h.startUnparkWrite ‹_› idle
    · exact State.Evolves.grantTest (h.congr rfl)
  all_goals exact h

/-- A completed commit leaves the zones that it captured in the image (R157). -/
theorem State.Evolves.completeCommit (h : o.Evolves s) {n : SeatId} {park : Bool} {captured : Image}
    (hj : s.store.job = .committing n park captured) : o.Evolves (s.completeCommit n park captured) := by
  have clean := (h.postTo (fun x => decide (x = n)) (.storeDone (commitOp park))).mapClosures
    (fun _ c => { c with profile := c.profile.retained }) fun _ _ => .refl
  refine State.Evolves.commitEnded (clean.withStore rfl rfl fun _ _ _ stored => ⟨fun _ => ?_, nofun⟩) rfl
  exact stored.captured n park captured hj

/-- An image that no load trusts and no write in flight leave no stored zone to speak of. -/
theorem State.storedInBand_of_untrusted (idle : s.store.job = .idle) (invalid : s.store.image.valid = false)
    (flag : s.arbiter.unparkPending = false) : s.StoredInBand := by
  refine ⟨?_, fun n park x job => nomatch idle.symm.trans job⟩
  rintro (valid | unparking | ⟨-, pending⟩)
  · exact nomatch invalid.symm.trans valid
  · exact nomatch idle.symm.trans unparking
  · exact nomatch flag.symm.trans pending

theorem State.Evolves.failCommit (h : o.Evolves s) (n : SeatId) (park : Bool) : o.Evolves (s.failCommit n park) := by
  have unmarked := (h.postTo (fun x => decide (x = n)) (.storeFailed (commitOp park))).mapClosures
    (fun _ c => { c with profile := { c.profile with capture := false } }) fun _ _ => .refl
  exact State.Evolves.commitEnded
    (unmarked.withStore rfl rfl fun _ _ _ _ => State.storedInBand_of_untrusted rfl rfl rfl) rfl

/-- An unpark write ends with the image's zones as they were, trusted for the write, or with the marker clear (R158). -/
theorem State.Evolves.endUnpark (h : o.Evolves s) (b : NoticeBody) {image : Image} (unparking : s.store.job = .unparking)
    (same : image.profiles = s.store.image.profiles) : o.Evolves (s.endUnpark b image) := by
  have posted := h.postTo (fun n => s.seats[n].record.grants .commit) b
  refine State.Evolves.grantTest (posted.withStore rfl rfl fun _ _ _ stored => ⟨fun _ k z => ?_, nofun⟩)
  have kept : s.store.image.profiles[k].zones[z].InBand := stored.image (.inr (.inl unparking)) k z
  simpa only [same] using kept

/-! The front end. -/

theorem State.Evolves.testDerating (h : o.Evolves s) : o.Evolves s.testDerating :=
  State.Evolves.ite (.ite (State.Evolves.grantTest (h.congr rfl)) h) (.ite (h.congr rfl) h)

theorem State.Evolves.postSupply (h : o.Evolves s) (due : DueNotice) (b : NoticeBody) : o.Evolves (s.postSupply due b) :=
  State.Evolves.ite (h.congr rfl) (h.postTo _ _)

theorem State.Evolves.endClosings (h : o.Evolves s) : o.Evolves s.endClosings := by
  have removed := h.foldl
    (fun t k => if t.closures[k].ctx.closes .queued then t.remove k .supplyLow none else t)
    (fun _ _ g => (g.remove _ _ _).ite g) allClosures
  exact removed.endMoves _ .supplyLow none (fun k hk =>
    CtxState.granted_of_running (Context.state_of_closes (List.mem_filter.mp hk).2)) (by decide)

theorem State.Evolves.testSupply (h : o.Evolves s) : o.Evolves s.testSupply := by
  have below := h.modArbiter fun a => { a with supplyState := .below }
  unfold State.testSupply
  split
  · split
    · exact h
    · exact (below.ite ((below.postSupply _ _).modArbiter _)).endClosings
  · exact h.modArbiter _

theorem State.Evolves.testRecovery (h : o.Evolves s) : o.Evolves s.testRecovery :=
  State.Evolves.ite ((h.postSupply _ _).modArbiter _) h

/-! Frames, events and power. -/

theorem State.Evolves.advance (h : o.Evolves s) (dt : Nat) : o.Evolves (s.advance dt) := h.congr rfl

theorem State.Evolves.sleepTest (h : o.Evolves s) : o.Evolves s.sleepTest := State.Evolves.ite (h.congr rfl) h

theorem State.Evolves.wake (h : o.Evolves s) : o.Evolves s.wake := by
  unfold State.wake
  split
  · exact h
  · rename_i since _
    exact (h.mapClosures (fun _ c => c.wake (s.now - since)) fun _ _ => .single (.emptied _)).congr rfl

theorem State.Evolves.onEvent (h : o.Evolves s) (dt : Nat) {act : State → State}
    (ha : ∀ t : State, o.Evolves t → o.Evolves (act t)) : o.Evolves (s.onEvent dt act) :=
  State.Evolves.ite (ha _ (h.advance dt)).sleepTest (h.advance dt)

theorem State.Evolves.frameError (h : o.Evolves s) (target : Target) (bytes : List Byte) :
    o.Evolves (s.frameError target bytes) := by
  unfold State.frameError
  split
  · exact h.modSeat _ _
  · exact h

/-- The effect of a frame, whatever command it spells. -/
theorem State.Evolves.frameEffect (h : o.Evolves s) (c : Instr) : o.Evolves (s.frameEffect c) := by
  unfold State.frameEffect
  split
  · exact (h.answerMove _ _).placed _ _
  · exact (h.answerRenew _ _).placed _ _
  · exact (h.answerStop _ _).placed _ _
  · exact (h.answerGlobal _ _).placed _ _
  · exact (h.answerClear _ _).placed _ _
  · exact (h.answerAllStop _ _).placed _ _
  · exact h.broadcastAllStop _
  · exact State.Evolves.placed (by simpa using h) _ _
  · exact State.Evolves.placed (by simpa using h) _ _
  · exact State.Evolves.placed (by simpa using h) _ _
  · exact (h.answerClearStats _ _).placed _ _
  · exact State.Evolves.placed (by simpa using h) _ _
  · exact (h.answerWriteProfileZone _ _).placed _ _
  · exact (h.answerMarkLearned _ _).placed _ _
  · exact State.Evolves.placed (by simpa using h) _ _
  · exact State.Evolves.placed h _ _
  · exact State.Evolves.placed h _ _
  · exact (h.answerWriteSetting _ _).placed _ _
  · exact (h.writeSupplySetting _ _ _).placed _ _
  · exact (h.writeRetention _ _).placed _ _
  · exact State.Evolves.placed (by simpa using h) _ _
  · exact (h.answerWriteSeatRecord _ _).placed _ _
  · exact State.Evolves.placed (by simpa using h) _ _
  · exact (h.answerWriteWord _ _).placed _ _
  · exact (h.answerSetBits _ _).placed _ _
  · exact (h.answerClearBits _ _).placed _ _
  · exact (h.answerCompareAndWrite _ _).placed _ _
  · exact (h.answerTakeNotice _ _).placed _ _
  · exact (h.answerReadSeatStatus _ _).placed _ _
  · exact (h.answerCommit _ _).placed _ _
  · exact h.congr rfl
  · exact State.Evolves.placed (a := s.refuse .unknownCommand) h _ _
  · exact h.frameError _ _
  all_goals exact h

theorem State.Evolves.openReply (h : o.Evolves s) (n : SeatId) : o.Evolves (s.openReply n) := by
  unfold State.openReply
  split
  · exact h
  · exact (State.Evolves.ite (h.modSeat _ _) h).modLink _

theorem State.Evolves.sendBytes (h : o.Evolves s) (sent : Nat) : o.Evolves (s.sendBytes sent) := by
  unfold State.sendBytes
  split
  · exact h.modLink _
  · exact h

theorem State.Evolves.consumeReply (h : o.Evolves s) (n : SeatId) (sent : Nat) : o.Evolves (s.consumeReply n sent) := by
  unfold State.consumeReply
  split
  · exact (h.modSeat _ _).ite h
  · exact h

theorem State.Evolves.readEffect (h : o.Evolves s) (n : SeatId) (sent : Nat) : o.Evolves (s.readEffect n sent) :=
  ((h.openReply n).sendBytes sent).consumeReply n sent

theorem State.Evolves.endOther (h : o.Evolves s) (heard : Heard) : o.Evolves (s.endOther heard) := by
  unfold State.endOther
  split
  · exact h
  · split
    · exact (State.Evolves.ite (h.frameError _ _) (h.frameEffect _)).modLink _
    · exact (h.readEffect _ _).modLink _
    all_goals exact h

theorem State.Evolves.onFrame (h : o.Evolves s) (dt : Nat) (heard : Heard) (fin : FrameEnd) (acks : List Bool)
    {act : State → State} (ha : ∀ t : State, o.Evolves t → o.Evolves (act t)) :
    o.Evolves (s.onFrame dt heard fin acks act) := by
  have later := h.advance dt
  exact later.ite (.ite (later.modLink _) ((ha _ (later.wake.endOther heard)).modLink _).sleepTest)

theorem State.Evolves.onFrameUnderWay (h : o.Evolves s) (dt : Nat) (heard : Heard) (receiver : Receiver)
    (acks : List Bool) {act : State → State} (ha : ∀ t : State, o.Evolves t → o.Evolves (act t)) :
    o.Evolves (s.onFrameUnderWay dt heard receiver acks act) := by
  have later := h.advance dt
  exact later.ite (.ite (later.modLink _) ((ha _ (later.wake.endOther heard)).modLink _))

/-- A command of the catalogue is the effect of its frame (R148). -/
theorem State.Evolves.frameCommand (h : o.Evolves s) (dt : Nat) (heard : Heard) (fin : FrameEnd) (acks : List Bool)
    (c : Instr) : o.Evolves (s.onFrame dt heard fin acks fun t => t.frameEffect c) :=
  h.onFrame _ _ _ _ fun _ g => g.frameEffect c

theorem State.Evolves.recoverLink (h : o.Evolves s) : o.Evolves s.recoverLink := by
  have cut : o.Evolves s.cutFrame := by
    unfold State.cutFrame
    split
    · exact h.frameError _ _
    all_goals exact h
  exact cut.modLink _

/-- A write cut off leaves the marker clear; what a commit leaves in the image, if an unpark write is still pending, are
free values (R157, R158). -/
theorem State.Evolves.cutStore (h : o.Evolves s) : o.Evolves s.cutStore := by
  unfold State.cutStore
  split
  · exact h
  · exact h.withStore rfl rfl fun torn _ _ _ => ⟨fun _ => torn _, nofun⟩
  · rename_i unparking
    exact h.withStore rfl rfl fun _ _ _ stored => ⟨fun _ => stored.image (.inr (.inl unparking)), nofun⟩

theorem State.Evolves.postDue (h : o.Evolves s) (x : DueNotice) : o.Evolves (s.postDue x) := by
  cases x with
  | movedUndriven k => exact h.movedUndriven k
  | supplyLowEntered mV => exact h.postTo _ _
  | supplyRecovered mV => exact h.postTo _ _

/-- The end of the start-up load sets the unpark pending flag for an image with both markers alone (R117). -/
theorem State.Evolves.loadEnded (h : o.Evolves s) : o.Evolves { s with
    loading := false
    deferred := []
    arbiter := { s.arbiter with unparkPending := s.store.image.valid && s.store.image.parked } } := by
  refine h.withStore rfl rfl fun _ _ _ stored => ⟨?_, stored.captured⟩
  rintro (valid | unparking | ⟨-, pending⟩)
  · exact stored.image (.inl valid)
  · exact stored.image (.inr (.inl unparking))
  · exact stored.image (.inl (Bool.and_eq_true_iff.mp pending).1)

end

end Sys2Proof.Machine
end

section
/-! PROOFS. What a step does, in the parts that the laws of R36, R41, R48, R80 and R123 speak of: it evolves the state, or
it is a start-up load. O9, and what there is to say of O19. -/
namespace Sys2Proof.Machine

/-- One state comes of another by a start-up load, in the parts that the laws speak of (R161). -/
def State.Restarts (s t : State) : Prop :=
  ∃ (u : State) (straps : Fin 4) (counters : ClosureId → Counter),
    s.Evolves u ∧ t.kept = (u.startUp straps counters).kept

theorem State.Evolves.restarts {o u : State} (h : o.Evolves u) (straps : Fin 4) (counters : ClosureId → Counter) :
    o.Restarts (u.startUp straps counters) := ⟨u, straps, counters, h, rfl⟩

/-- Every command evolves the state or is a start-up load. -/
theorem exec_evolves_or_restarts {o s : State} (h : o.Evolves s) (c : Instr) :
    ∃ t, exec c s = .next t ∧ (o.Evolves t ∨ o.Restarts t) := by
  have frame := fun dt heard fin acks => h.frameCommand dt heard fin acks c
  cases c with
  | move | renew | stop | global | clear | readClosure | readOutcome | readStats | clearStats | readProfile
  | writeProfileZone | markLearned | readSetting | readDeviceSetting | readSlotState | writeSetting | writeDeviceSetting
  | writeTRet | readSeatRecord | writeSeatRecord | readWords | writeWord | setBits | clearBits | compareAndWrite
  | takeNotice | readSeatStatus | commit | linkReset | unknownCommand | broadcastFrameDiscarded =>
    exact ⟨_, rfl, .inl (frame _ _ _ _)⟩
  | allStop dt target fin args =>
    cases target with
    | seat n => exact ⟨_, rfl, .inl (frame _ _ _ _)⟩
    | broadcast => exact ⟨_, rfl, .inl (frame _ _ _ _)⟩
  | frameDiscard dt target ended bytes =>
    cases ended with
    | some fin => exact ⟨_, rfl, .inl (frame _ _ _ _)⟩
    | none => exact ⟨_, rfl, .inl (h.onFrameUnderWay _ _ _ _ fun _ g => g)⟩
  | readFrame f sent =>
    obtain ⟨dt, n, ended⟩ := f
    cases ended with
    | some fin => exact ⟨_, rfl, .inl (h.onFrame _ _ _ _ fun _ g => g.readEffect _ _)⟩
    | none => exact ⟨_, rfl, .inl (h.onFrameUnderWay _ _ _ _ fun _ g => (g.openReply _).sendBytes _)⟩
  | stuckLinkRecovery dt held =>
    exact ⟨_, rfl, .inl (h.onEvent _ fun _ g => (g.modLink _).recoverLink.ite (g.modLink _))⟩
  | frameNotAcknowledged dt address ended =>
    have later := h.advance dt
    have heard := later.wake.endOther .other
    refine ⟨_, rfl, .inl (later.ite ?_)⟩
    cases address <;> cases ended
    · exact heard.modLink _
    · exact (heard.modLink _).sleepTest
    · exact heard.modLink _
    · exact (heard.modLink _).sleepTest
  | hallEdge dt k ph =>
    have later := h.advance dt
    exact ⟨_, rfl, .inl (later.ite (.ite (later.modCounter _ _).sleepTest (later.wake.hallEdge k ph).sleepTest))⟩
  | phaseFault dt k =>
    have sampled := (h.advance dt).modCounter k fun x => (x.toggle .a).toggle .b
    exact ⟨_, rfl, .inl ((h.advance dt).ite (sampled.sleepTest.ite (sampled.phaseFault k).sleepTest))⟩
  | stallExpiry dt k =>
    exact ⟨_, rfl, .inl (h.onEvent _ fun _ g => ((g.modCounter _ _).classifyStall _).ite g)⟩
  | undrivenQuietExpiry dt k => exact ⟨_, rfl, .inl (h.onEvent _ fun _ g => (g.modCounter _ _).ite g)⟩
  | brakeTimerExpiry dt k =>
    refine ⟨_, rfl, .inl (h.onEvent _ fun _ g => ?_)⟩
    dsimp only
    split
    · rename_i due
      exact g.endBrake _ due.2.1
    · exact g
  | quietTimerExpiry dt k =>
    refine ⟨_, rfl, .inl (h.onEvent _ fun _ g => ?_)⟩
    dsimp only
    split
    · rename_i due
      exact g.settleEnd _ due.2
    · exact g
  | limitTimerExpiry dt k =>
    refine ⟨_, rfl, .inl (h.onEvent _ fun _ g => ?_)⟩
    dsimp only
    split
    · rename_i due
      refine (g.modCtx k _).settleEnd _ ?_
      rw [State.modCtx_self]
      exact due.2
    · exact g
  | holdDeadlineExpiry dt k =>
    refine ⟨_, rfl, .inl (h.onEvent _ fun t g => State.Evolves.ite ?_ g)⟩
    split
    · exact g.endMove _ _ _ (CtxState.granted_of_running ‹_›) nofun
    · exact g.remove _ _ _
    all_goals exact g
  | queueTimeout dt k => exact ⟨_, rfl, .inl (h.onEvent _ fun _ g => (g.remove _ _ _).ite g)⟩
  | currentSample dt k mA =>
    refine ⟨_, rfl, .inl (h.onEvent _ fun _ g => ?_)⟩
    exact g.modClosure k (f := fun c => { c with sense := c.sense.add mA }) fun _ => .single (.sampled _ mA)
  | supplySample dt mV => exact ⟨_, rfl, .inl (h.onEvent _ fun _ g => g.congr rfl)⟩
  | supplyRefresh dt =>
    refine ⟨_, rfl, .inl (h.onEvent _ fun t g => g.ite ?_)⟩
    have published : o.Evolves { t with front := t.front.publish } := g.congr rfl
    exact published.testDerating.testSupply.testRecovery
  | temperatureMeasurement dt celsius => exact ⟨_, rfl, .inl (h.onEvent _ fun _ g => g.congr rfl)⟩
  | retainedWindowExpiry dt => exact ⟨_, rfl, .inl (h.onEvent _ fun _ g => State.Evolves.ite (g.congr rfl) g)⟩
  | staleExpiry dt n => exact ⟨_, rfl, .inl (h.onEvent _ fun _ g => (g.modSeat _ _).ite g)⟩
  | commitCompletion dt =>
    refine ⟨_, rfl, .inl (h.onEvent _ fun t g => ?_)⟩
    split
    · exact g.completeCommit ‹_›
    all_goals exact g
  | commitFailure dt =>
    refine ⟨_, rfl, .inl (h.onEvent _ fun t g => ?_)⟩
    split
    · exact g.failCommit _ _
    all_goals exact g
  | unparkWriteCompletion dt =>
    refine ⟨_, rfl, .inl (h.onEvent _ fun t g => ?_)⟩
    split
    · exact g.endUnpark _ ‹_› rfl
    all_goals exact g
  | unparkWriteFailure dt =>
    refine ⟨_, rfl, .inl (h.onEvent _ fun t g => ?_)⟩
    split
    · have counted : o.Evolves { t with freeCount := t.freeCount + 1 } := g.congr rfl
      exact counted.endUnpark _ ‹_› rfl
    all_goals exact g
  | linkQuietExpiry dt => exact ⟨_, rfl, .inl (h.onEvent _ fun _ g => (g.modLink _).ite g)⟩
  | resetInput dt straps =>
    have later := h.advance dt
    refine ⟨_, rfl, ?_⟩
    split
    · exact .inl later
    · exact .inr (later.wake.cutStore.restarts _ _)
  | coldStart dt straps a b => exact ⟨_, rfl, .inr ((h.advance dt).cutStore.restarts _ _)⟩
  | startUpLoadEnd dt =>
    refine ⟨_, rfl, .inl (h.onEvent _ fun t g => State.Evolves.ite ?_ g)⟩
    exact g.loadEnded.foldl State.postDue (fun _ x g' => g'.postDue x) _
  | powerLoss dt =>
    have cut := (h.advance dt).cutStore
    refine ⟨_, rfl, ?_⟩
    dsimp only
    split
    · exact .inl cut
    · exact .inr ⟨_, 0, _, cut, rfl⟩

theorem step_evolves_or_restarts {s t : State} (h : step s = .next t) : s.Evolves t ∨ s.Restarts t := by
  unfold step at h
  split at h
  · cases h
    exact .inl (.refl s)
  · rename_i c rest _
    have running : s.Evolves { s with pending := rest } := (State.Evolves.refl s).congr rfl
    obtain ⟨u, hu, done⟩ := exec_evolves_or_restarts running c
    cases hu.symm.trans h
    exact done

/-! The laws after a start-up load (R161). -/

/-- The watched parts of a closure that a start-up load leaves: nothing of a move, a trace or a verdict. -/
theorem Image.closure_watched (x : Image) (k : ClosureId) (counter : Counter) : (x.closure k counter).watched =
    { escapeMax := x.atStart.descriptions[k].escapeMax, reversals := 0, escape := false, sense := {}, published := 0
      trace := Vector.replicate 64 {}, zones := x.atStart.profiles[k].zones, state := .idle, kind := none
      reason := none } := by
  rw [Image.closure_eq]
  rfl

theorem State.Restarts.closure {s t : State} (h : s.Restarts t) (k : ClosureId) :
    t.closures[k].watched.reversals = 0 ∧ t.closures[k].watched.escape = false ∧ t.closures[k].watched.published = 0 ∧
    t.closures[k].watched.TraceLaw := by
  obtain ⟨u, straps, counters, -, same⟩ := h
  have closures : t.closures = (u.startUp straps counters).closures := congrArg Prod.fst same
  have watched : t.closures[k].watched = (u.store.image.closure k (counters k)).watched := by
    simp only [closures, State.startUp_closures]
  rw [watched, Image.closure_watched]
  exact ⟨rfl, rfl, rfl, fun idle => absurd rfl idle, nofun, Nat.zero_le _, Nat.zero_le _⟩

theorem State.Restarts.words {s t : State} (h : s.Restarts t) (w : Fin 6) : t.words[w] = 0 := by
  obtain ⟨u, straps, counters, -, same⟩ := h
  have words : t.words = (u.startUp straps counters).words := congrArg (·.2.1) same
  simp only [words, State.startUp_words]

/-! The words (R123). -/

/-- The largest value of each word (R123). -/
def wordTop : Fin 6 → Nat
  | 0 => 255 | 1 => 2 | 2 => 3 | 3 => 3 | 4 => 3 | 5 => 1

theorem limited_le (top v : Byte) : (if top.toNat < v.toNat then top else v).toNat ≤ top.toNat := by
  split
  · exact le_rfl
  · omega

theorem reduceWord_le (w : Fin 6) (v : Byte) : (reduceWord w v).toNat ≤ wordTop w :=
  match w with
  | 0 => Nat.le_of_lt_succ v.isLt
  | 1 => limited_le 2 v
  | 2 => (BitVec.toNat_and v 3).trans_le Nat.and_le_right
  | 3 => limited_le 3 v
  | 4 => limited_le 3 v
  | 5 => limited_le 1 v

theorem State.wordLaw_iff (s : State) : s.WordLaw ↔ ∀ w : Fin 6, s.words[w].toNat ≤ wordTop w := by
  constructor
  · rintro ⟨h1, h2, h3, h4, h5⟩ w
    have h0 := s.words[0].isLt
    match w with
    | 0 => exact Nat.le_of_lt_succ h0
    | 1 => exact h1
    | 2 => exact h2
    | 3 => exact h3
    | 4 => exact h4
    | 5 => exact h5
  · exact fun h => ⟨h 1, h 2, h 3, h 4, h 5⟩

/-- Settles O9: every update that a step makes of a closure keeps the law of the count and the law of the load, every word
takes reduced values alone, and a start-up load begins from 0. -/
theorem boundedStateKept : Obligations.BoundedStateKept := by
  refine ⟨fun s t law hstep k => ?_, fun s t loads words hstep => ⟨fun k => ?_, t.wordLaw_iff.mpr fun w => ?_⟩⟩
  · rcases step_evolves_or_restarts hstep with evolves | restarts
    · exact (evolves.closures k).escapeLaw (law k)
    · obtain ⟨count, out, -⟩ := restarts.closure k
      exact Watched.escapeLaw_zero count out
  · rcases step_evolves_or_restarts hstep with evolves | restarts
    · exact (evolves.closures k).loadLaw (loads k)
    · obtain ⟨-, -, load, -⟩ := restarts.closure k
      exact load.trans_le (Nat.zero_le _)
  · rcases step_evolves_or_restarts hstep with evolves | restarts
    · rcases evolves.words w with same | ⟨v, reduced⟩
      · exact same ▸ s.wordLaw_iff.mp words w
      · exact reduced ▸ reduceWord_le w v
    · rw [restarts.words w]
      exact Nat.zero_le _

end Sys2Proof.Machine
end

section
/-! PROOFS. The stages of the load estimator (R30 to R36). -/
namespace Sys2Proof.Machine

/-! Division truncated toward zero (00_scope.md, Arithmetic). -/

theorem tdiv_nonneg_le {n d hi : Int} (hd : 0 < d) (hn : 0 ≤ n) (high : n < (hi + 1) * d) :
    0 ≤ n.tdiv d ∧ n.tdiv d ≤ hi := by
  rw [Int.tdiv_eq_ediv_of_nonneg hn]
  exact ⟨Int.ediv_nonneg hn hd.le, Int.lt_add_one_iff.mp (Int.ediv_lt_of_lt_mul hd high)⟩

/-- A quotient lies between two bounds around 0 when its numerator lies between the next multiples of the divisor. -/
theorem tdiv_bounds {n d lo hi : Int} (hd : 0 < d) (hlo : lo ≤ 0) (hhi : 0 ≤ hi) (low : (lo - 1) * d < n)
    (high : n < (hi + 1) * d) : lo ≤ n.tdiv d ∧ n.tdiv d ≤ hi := by
  rcases le_total 0 n with hn | hn
  · obtain ⟨zero, top⟩ := tdiv_nonneg_le hd hn high
    exact ⟨hlo.trans zero, top⟩
  · obtain ⟨zero, top⟩ := tdiv_nonneg_le (n := -n) (hi := -lo) hd (by omega) (by linarith)
    rw [Int.neg_tdiv] at zero top
    omega

/-! The stages (R30 to R34). -/

/-- Stage 1: the quotient rounded half up is the number whose double's multiples enclose the rounded numerator (R30). -/
theorem expectedPeriod_eq {e : ZoneEntry} {supply x : Nat} (low : 2 * supply * x ≤ 2 * (e.tRef * e.vRef) + supply)
    (high : 2 * (e.tRef * e.vRef) + supply < 2 * supply * (x + 1)) :
    expectedPeriod e supply = if x < 100 then 100 else if 65535 < x then 65535 else x := by
  have quotient : (2 * (e.tRef * e.vRef) + supply) / (2 * supply) = x :=
    Nat.div_eq_of_lt_le (by rwa [Nat.mul_comm x]) (by rwa [Nat.mul_comm (x + 1)])
  rw [expectedPeriod, quotient, clampNat]

/-- Stage 2: a positive period's excess is above -1024, and only the upper clamp acts (R31). -/
theorem excessPeriod_eq {period expected : Nat} (hp : 0 < period) (he : 0 < expected) :
    let q := (((period : Int) - expected) * 1024).tdiv expected
    (-1024 : Int) < q ∧ excessPeriod period expected = if 4095 < q then 4095 else q := by
  intro q
  have low : -1023 ≤ q := by
    refine (tdiv_bounds (hi := 1024 * period) (by omega) (by decide) (by omega) (by linarith) ?_).1
    nlinarith
  refine ⟨by omega, ?_⟩
  rw [excessPeriod, clampInt, if_neg (show ¬ q < -1024 by omega)]

/-- Stage 3 (R32). -/
theorem speedLoad_bounds {gain : Nat} {e : Int} (hg : gain ≤ 255) (low : -1024 ≤ e) (high : e ≤ 4095) :
    -4080 ≤ speedLoad gain e ∧ speedLoad gain e ≤ 16316 :=
  tdiv_bounds (by decide) (by decide) (by decide) (by nlinarith) (by nlinarith)

/-- Stage 4 (R33). -/
theorem currentLoad_bounds {gain current reference : Nat} (hg : gain ≤ 255) (hc : current ≤ 40000)
    (hr : reference ≤ 40000) :
    -39843 ≤ currentLoad gain current reference ∧ currentLoad gain current reference ≤ 39843 :=
  tdiv_bounds (by decide) (by decide) (by decide) (by nlinarith) (by nlinarith)

/-- Stage 5: a blend of two loads within ±39,843 LU is within them (R34). -/
theorem blendLoad_bounds {w : Nat} {lc ls : Int} (hw : w ≤ 16) (lc_low : -39843 ≤ lc) (lc_high : lc ≤ 39843)
    (ls_low : -39843 ≤ ls) (ls_high : ls ≤ 39843) :
    -39843 ≤ blendLoad w lc ls ∧ blendLoad w lc ls ≤ 39843 :=
  tdiv_bounds (by decide) (by decide) (by decide) (by nlinarith) (by nlinarith)

/-! Filter and clamp (R35, R36). -/

section
variable {x : Estimator} {path : Path} (raw : Int)

/-- A change of path empties the list (R35, operation 1). -/
theorem Estimator.joined_otherPath (h : x.listPath ≠ some path) : x.joined path raw = [raw] := by
  simp [Estimator.joined, h]

theorem Estimator.joined_room (h : x.listPath = some path) (room : x.rawList.length < 4) :
    x.joined path raw = x.rawList ++ [raw] := by
  have none_dropped : x.rawList.length + 1 - 4 = 0 := by omega
  simp [Estimator.joined, h, none_dropped]

/-- A full list loses its oldest raw load (R35, operation 3). -/
theorem Estimator.joined_full (h : x.listPath = some path) (full : x.rawList.length = 4) :
    x.joined path raw = x.rawList.tail ++ [raw] := by
  simp [Estimator.joined, h, full, List.drop_append]

end

theorem filteredLoad_eq (list : List Int) :
    let mean := list.sum.tdiv list.length
    (filteredLoad list : Int) = if mean < 0 then 0 else if 2047 < mean then 2047 else mean := by
  intro mean
  rw [filteredLoad, Int.toNat_of_nonneg]
  · rfl
  · unfold clampInt
    split
    · exact le_rfl
    · split <;> omega

/-- Settles O17: each stage is its truncated division, within bounds that the ranges of its operands give. -/
theorem estimatorArithmetic : Obligations.EstimatorArithmetic := by
  refine ⟨fun _ _ _ _ => expectedPeriod_eq, ⟨fun period expected hp he => excessPeriod_eq (by omega) (by omega),
    fun gain e hg low high => ⟨rfl, speedLoad_bounds hg low high⟩,
    fun gain current reference hg hc hr => ⟨rfl, currentLoad_bounds hg hc hr⟩,
    fun w lc ls hw lc_low lc_high ls_low ls_high =>
      ⟨rfl, blendLoad_bounds hw lc_low lc_high (by omega) (by omega)⟩⟩,
    fun x path raw _ => ⟨Estimator.joined_otherPath raw, Estimator.joined_room raw, Estimator.joined_full raw⟩,
    fun list _ => filteredLoad_eq list⟩

end Sys2Proof.Machine
end

section
/-! PROOFS. The samples of the front end (R22, R24, R25). -/
namespace Sys2Proof.Machine

theorem clampInt_eq {lo hi : Int} (h : lo ≤ hi) (x : Int) : clampInt lo hi x = max lo (min hi x) := by
  unfold clampInt
  split
  · omega
  · split <;> omega

/-- An open accumulator with room takes a sample (R22). -/
theorem Sense.add_open {x : Sense} (isOpen : x.isOpen = true) (room : x.count < 65535) (mA : Int) :
    x.add mA = { x with sum := x.sum + (max 0 (min 40000 mA)).toNat, count := x.count + 1 } := by
  have takes : (x.isOpen && decide (x.count < Config.wordMax)) = true := by simp [isOpen, Config.wordMax, room]
  rw [Sense.add, if_pos takes, sampleOf, clampInt_eq (by decide)]

theorem Sense.add_refused {x : Sense} (h : x.isOpen = false ∨ 65535 ≤ x.count) (mA : Int) : x.add mA = x := by
  refine if_neg fun takes => ?_
  obtain ⟨isOpen, room⟩ := Bool.and_eq_true_iff.mp takes
  rcases h with h | h
  · exact nomatch h.symm.trans isOpen
  · exact absurd h (Nat.not_le.mpr (of_decide_eq_true room))

/-- The newest 20 samples of a window that held at most 20 (R24). -/
theorem windowAfter_eq {window : List Nat} (h : window.length ≤ 20) (mV : Nat) :
    windowAfter window mV = if window.length = 20 then window.tail ++ [mV] else window ++ [mV] := by
  by_cases full : window.length = 20
  · simp [windowAfter, full, List.drop_append]
  · have none_dropped : window.length + 1 - 20 = 0 := by omega
    simp [windowAfter, full, none_dropped]

/-- Settles O55: each is an event of its own at an attentive part, which touches one accumulator, the window or the
temperature. -/
theorem frontEndSamples : Obligations.FrontEndSamples := by
  refine fun dt s h => ⟨fun k mA => ⟨fun isOpen room => ?_, fun refused => ?_⟩, fun mV short => ?_, fun celsius => ?_⟩
  · refine congrArg Host.Outcome.next (State.onEvent_eq h ?_ rfl)
    rw [← Sense.add_open isOpen room]
    rfl
  · refine congrArg Host.Outcome.next (State.onEvent_eq h (State.modClosure_fixed ?_) rfl)
    exact congrArg (fun x => { s.closures[k] with sense := x }) (Sense.add_refused refused mA)
  · refine congrArg Host.Outcome.next (State.onEvent_eq h ?_ rfl)
    rw [← windowAfter_eq short]
    rfl
  · refine congrArg Host.Outcome.next (State.onEvent_eq h ?_ rfl)
    rw [← clampInt_eq (by decide)]
    rfl

end Sys2Proof.Machine
end

section
/-! PROOFS. A supply refresh (R24): derating (R113), the supply monitor and its notices (R115, R116), and a fall (R100). -/
namespace Sys2Proof.Machine

/-! The published reading and derating (R24, R113). -/

theorem FrontEnd.publish_reading (x : FrontEnd) : x.publish.reading = max 6000 (min 18000 (x.window.sum / 20)) :=
  clampNat_eq (by decide) _

/-- A state with its reading published, `dt` µs later. -/
def State.published (s : State) (dt : Nat) : State := { s.later dt with front := s.front.publish }

/-- A state whose derating has been tested, with no grant made (R113). -/
def State.derated (s : State) : State :=
  { s with arbiter := { s.arbiter with
      derating := if s.arbiter.derating then decide (s.front.reading < s.settings.vResume)
        else decide (s.front.reading < s.settings.vLow)
      effective := if s.arbiter.derating then
          if s.settings.vResume ≤ s.front.reading then s.settings.slots else s.arbiter.effective
        else if s.front.reading < s.settings.vLow then 1 else s.arbiter.effective } }

/-- The derating test makes no grant when nothing waits or derating does not end. -/
theorem State.testDerating_eq {s : State} (h : s.arbiter.queue = [] ∨ s.arbiter.derating = false) :
    s.testDerating = s.derated := by
  unfold State.testDerating State.derated
  by_cases derating : s.arbiter.derating = true
  · have empty : s.arbiter.queue = [] := h.resolve_right (by simp [derating])
    simp only [if_pos derating]
    by_cases high : s.settings.vResume ≤ s.front.reading
    · rw [if_pos high, if_pos high, State.grantTest_empty (by simpa using empty), decide_eq_false (Nat.not_lt.mpr high)]
      rfl
    · rw [if_neg high, if_neg high, decide_eq_true (Nat.not_le.mp high), ← derating]
  · simp only [if_neg derating]
    by_cases low : s.front.reading < s.settings.vLow
    · rw [if_pos low, if_pos low, decide_eq_true low]
      rfl
    · rw [if_neg low, if_neg low, decide_eq_false low, ← Bool.eq_false_iff.mpr derating]

/-- A refresh with a full window at an attentive part (R24). -/
theorem exec_supplyRefresh {s t : State} {dt : Nat} (h : s.Attentive) (full : s.front.window.length = 20)
    (quiet : s.arbiter.queue = [] ∨ s.arbiter.derating = false)
    (ht : (s.published dt).derated.testSupply.testRecovery = t) (hl : t.link = s.link) :
    exec (.supplyRefresh dt) s = .next t := by
  refine congrArg Host.Outcome.next (State.onEvent_eq h ?_ hl)
  have enough : ¬ (s.later dt).front.window.length < 20 := by simp [full]
  rw [if_neg enough, ← ht]
  exact congrArg (fun u => (State.testSupply u).testRecovery) (State.testDerating_eq (s := s.published dt) quiet)

/-! The supply monitor (R115, R116). -/

/-- The supply falls below V_min (R115). -/
abbrev State.SupplyFalls (s : State) : Prop := s.front.reading < s.settings.vMin ∧ s.arbiter.supplyState = .above

/-- A fall noted, before the closing moves end (R115): the supply state BELOW, and SUPPLY_LOW told once. -/
def State.fallNoted (s : State) : State :=
  let below := s.modArbiter fun a => { a with supplyState := .below }
  if below.arbiter.supplyNotice then below
  else (below.postSupply (.supplyLowEntered s.front.reading) (.supplyLowEntered s.front.reading)).modArbiter
    fun a => { a with supplyNotice := true }

section
variable {s : State}

theorem State.testSupply_falls (h : s.SupplyFalls) : s.testSupply = s.fallNoted.endClosings := by
  simp only [State.testSupply, if_pos h.1, h.2]
  rfl

theorem State.testSupply_below (low : s.front.reading < s.settings.vMin) (h : s.arbiter.supplyState ≠ .above) :
    s.testSupply = s := by
  have below : s.arbiter.supplyState = .below := by
    cases hs : s.arbiter.supplyState with
    | above => exact absurd hs h
    | below => rfl
  simp only [State.testSupply, if_pos low, below]

theorem State.testSupply_above (h : ¬ s.front.reading < s.settings.vMin) :
    s.testSupply = s.modArbiter fun a => { a with supplyState := .above } := if_neg h

theorem State.testRecovery_stays (h : ¬ (s.arbiter.supplyNotice = true ∧ s.settings.vMin + 500 ≤ s.front.reading)) :
    s.testRecovery = s := if_neg (by simpa using h)

theorem State.testRecovery_recovers (loaded : s.loading = false) (noticed : s.arbiter.supplyNotice = true)
    (high : s.settings.vMin + 500 ≤ s.front.reading) : s.testRecovery =
      (s.postTo (fun _ => true) (.supplyRecovered s.front.reading)).modArbiter
        fun a => { a with supplyNotice := false } := by
  simp [State.testRecovery, noticed, high, State.postSupply, loaded]

/-- A notice to every seat reaches each one that has room (R130, R131). -/
theorem State.postTo_all_room (b : NoticeBody) {n : SeatId} (room : s.seats[n].queue.length < 16) :
    (s.postTo (fun _ => true) b).seats[n].queue = s.seats[n].queue ++ [{ body := b, time := s.now }] :=
  ((State.told_of_seats (hears := fun _ => True) rfl (by simp) n).1 trivial room).1

/-- What a fall noted leaves: the supply state BELOW, the notice flag set, and the notice at the seats if it was clear. -/
theorem State.fallNoted_eq (loaded : s.loading = false) : ∃ seats : Vector SeatState 4,
    s.fallNoted = { s with
      seats := seats, arbiter := { s.arbiter with supplyState := .below, supplyNotice := true } } ∧
    (s.arbiter.supplyNotice = true → seats = s.seats) ∧
    ∀ n : SeatId, seats[n].record = s.seats[n].record ∧
      (s.seats[n].queue.length < 16 → seats[n].queue = s.seats[n].queue ++
        if s.arbiter.supplyNotice then []
        else [{ body := .supplyLowEntered s.front.reading, time := s.now }]) := by
  cases flag : s.arbiter.supplyNotice with
  | true =>
    refine ⟨s.seats, ?_, fun _ => rfl, fun n => ⟨rfl, fun _ => by simp⟩⟩
    simp [State.fallNoted, State.modArbiter, flag]
  | false =>
    refine ⟨(s.postTo (fun _ => true) (.supplyLowEntered s.front.reading)).seats, ?_, nofun, fun n => ⟨?_, fun room => ?_⟩⟩
    · simp [State.fallNoted, State.modArbiter, flag, State.postSupply, loaded, State.postTo]
    · exact State.record_of_seats rfl n
    · exact State.postTo_all_room _ room

end

/-! The closing moves that a fall ends (R100). -/

/-- A fold that acts at one member of a list alone. -/
theorem foldl_once {α β : Type} (f : β → α → β) (s : β) {a : α} {l : List α} (mem : a ∈ l) (nodup : l.Nodup)
    (before : ∀ x, x ≠ a → f s x = s) (after : ∀ x, x ≠ a → f (f s a) x = f s a) : l.foldl f s = f s a := by
  have still : ∀ (t : β) (m : List α), (∀ x ∈ m, f t x = t) → m.foldl f t = t := by
    intro t m h
    induction m with
    | nil => rfl
    | cons x rest ih =>
      rw [List.foldl_cons, h x (by simp)]
      exact ih fun y hy => h y (by simp [hy])
  obtain ⟨front, back, rfl⟩ := List.append_of_mem mem
  obtain ⟨-, once, apart⟩ := List.nodup_append.mp nodup
  rw [List.foldl_append, List.foldl_cons, still s front, still (f s a) back]
  · exact fun x hx => after x (fun same => (List.nodup_cons.mp once).1 (same ▸ hx))
  · exact fun x hx => before x fun same => apart x hx a (by simp) same

theorem mem_allClosures (k : ClosureId) : k ∈ allClosures := by revert k; decide

theorem Context.closes_running {x : Context} {m : Move} (running : x.state = .running) (hm : x.move = some m)
    (closing : m.direction = .closing) : x.closes .running = true := by
  simp [Context.closes, running, hm, closing]

theorem Context.closes_queued {x : Context} {m : Move} (queued : x.state = .queued) (hm : x.move = some m)
    (closing : m.direction = .closing) : x.closes .queued = true := by
  simp [Context.closes, queued, hm, closing]

theorem Context.closes_other {x : Context} {state : CtxState} (h : x.state ≠ state) : x.closes state = false := by
  simp [Context.closes, h]

/-- A closure holds no closing move that a fall ends. -/
abbrev ClosureState.Spared (c : ClosureState) : Prop :=
  ∀ m : Move, c.ctx.move = some m → m.direction = .closing → c.ctx.state ≠ .running ∧ c.ctx.state ≠ .queued

theorem ClosureState.Spared.closes {c : ClosureState} (h : c.Spared) {state : CtxState}
    (hs : state = .running ∨ state = .queued) : c.ctx.closes state = false := by
  rw [Bool.eq_false_iff]
  intro closes
  simp only [Context.closes, Bool.and_eq_true, decide_eq_true_eq, Option.map_eq_some_iff] at closes
  obtain ⟨rfl, m, hm, closing⟩ := closes
  exact hs.elim (h m hm closing).1 (h m hm closing).2

section
variable {s : State} {k : ClosureId} {m : Move}

/-- With no closing move QUEUED a fall ends the RUNNING ones. -/
theorem State.endClosings_unqueued (h : ∀ j : ClosureId, s.closures[j].ctx.closes .queued = false) :
    s.endClosings =
      allClosures.foldl (fun t k => if s.closures[k].ctx.closes .running then t.endMove k .supplyLow none else t) s := by
  have removed : allClosures.foldl
      (fun t k => if t.closures[k].ctx.closes .queued then t.remove k .supplyLow none else t) s = s :=
    List.foldl_fixed' (fun j => by simp only [h j, Bool.false_eq_true, if_false]) _
  unfold State.endClosings
  simp only [removed]
  rw [List.foldl_filter]

theorem State.endClosings_none (spared : ∀ j : ClosureId, s.closures[j].Spared) : s.endClosings = s := by
  rw [State.endClosings_unqueued fun j => (spared j).closes (.inr rfl)]
  exact List.foldl_fixed' (fun j => by simp only [(spared j).closes (.inl rfl), Bool.false_eq_true, if_false]) _

/-- The RUNNING closing move of one closure ends at a fall, if every other closure is spared. -/
theorem State.endClosings_running (running : s.closures[k].ctx.state = .running)
    (hm : s.closures[k].ctx.move = some m) (closing : m.direction = .closing)
    (others : ∀ j : ClosureId, j ≠ k → s.closures[j].Spared) : s.endClosings = s.endMove k .supplyLow none := by
  have unqueued : ∀ j : ClosureId, s.closures[j].ctx.closes .queued = false := by
    intro j
    by_cases hj : j = k
    · subst hj
      exact Context.closes_other (by rw [running]; decide)
    · exact (others j hj).closes (.inr rfl)
  rw [State.endClosings_unqueued unqueued]
  refine (foldl_once _ s (mem_allClosures k) (by decide) (fun j hj => ?_) fun j hj => ?_).trans
    (if_pos (Context.closes_running running hm closing))
  all_goals simp only [(others j hj).closes (.inl rfl), Bool.false_eq_true, if_false]

/-- The QUEUED closing move of one closure is removed at a fall, if every other closure is spared. -/
theorem State.endClosings_queued (queued : s.closures[k].ctx.state = .queued)
    (hm : s.closures[k].ctx.move = some m) (closing : m.direction = .closing)
    (others : ∀ j : ClosureId, j ≠ k → s.closures[j].Spared) : s.endClosings = s.remove k .supplyLow none := by
  obtain ⟨closures, -⟩ := State.remove_removed .supplyLow none hm
  have other : ∀ j : ClosureId, j ≠ k → (s.remove k .supplyLow none).closures[j] = s.closures[j] := by
    intro j hj
    simp only [closures]
    exact State.withClosure_other s _ hj
  have self : (s.remove k .supplyLow none).closures[k].ctx = {} := by
    simp only [closures]
    exact congrArg ClosureState.ctx (State.withClosure_self s k _)
  have removed : allClosures.foldl
      (fun t k => if t.closures[k].ctx.closes .queued then t.remove k .supplyLow none else t) s =
        s.remove k .supplyLow none := by
    have acts : (if s.closures[k].ctx.closes .queued then s.remove k .supplyLow none else s) = s.remove k .supplyLow none :=
      if_pos (Context.closes_queued queued hm closing)
    refine (foldl_once _ s (mem_allClosures k) (by decide) (fun j hj => ?_) fun j hj => ?_).trans acts
    · simp only [(others j hj).closes (.inr rfl), Bool.false_eq_true, if_false]
    · simp only [acts, other j hj, (others j hj).closes (.inr rfl), Bool.false_eq_true, if_false]
  unfold State.endClosings
  simp only [removed]
  rw [List.foldl_filter]
  refine List.foldl_fixed' (fun j => ?_) _
  by_cases hj : j = k
  · subst hj
    rw [if_neg (by rw [self]; decide)]
  · simp only [other j hj, (others j hj).closes (.inl rfl), Bool.false_eq_true, if_false]

end

end Sys2Proof.Machine
end

section
/-! PROOFS. O56: what a supply refresh publishes, tells and ends. -/
namespace Sys2Proof.Machine

/-- The supply notice flag stands after the fall's test (R115). -/
abbrev State.SupplyNoticed (s : State) : Prop := s.arbiter.supplyNotice = true ∨ s.SupplyFalls

/-- The supply has recovered after a notice (R116). -/
abbrev State.SupplyRecovers (s : State) : Prop := s.SupplyNoticed ∧ s.settings.vMin + 500 ≤ s.front.reading

/-- The supply monitor's tests with no closing move to end: the supply state, the notice flag and the notices (R115, R116). -/
theorem State.testSupply_testRecovery {s : State} (loaded : s.loading = false)
    (spared : ∀ j : ClosureId, s.closures[j].Spared) :
    ∃ (seats : Vector SeatState 4) (supply : SupplyState) (flag : Bool),
      s.testSupply.testRecovery = { s with
        seats := seats, arbiter := { s.arbiter with supplyState := supply, supplyNotice := flag } } ∧
      supply = (if s.front.reading < s.settings.vMin then .below else .above) ∧
      (flag = true ↔ s.SupplyNoticed ∧ ¬ s.SupplyRecovers) ∧
      ∀ n : SeatId, s.seats[n].queue.length < 16 →
        (s.SupplyFalls → s.arbiter.supplyNotice = false →
          seats[n].queue = s.seats[n].queue ++ [{ body := .supplyLowEntered s.front.reading, time := s.now }]) ∧
        (s.SupplyRecovers →
          seats[n].queue = s.seats[n].queue ++ [{ body := .supplyRecovered s.front.reading, time := s.now }]) ∧
        (¬ (s.SupplyFalls ∧ s.arbiter.supplyNotice = false) → ¬ s.SupplyRecovers → seats[n] = s.seats[n]) := by
  by_cases low : s.front.reading < s.settings.vMin
  · have stays : ¬ s.SupplyRecovers := fun recovers => by omega
    by_cases above : s.arbiter.supplyState = .above
    · have falls : s.SupplyFalls := ⟨low, above⟩
      obtain ⟨seats, noted, same, told⟩ := State.fallNoted_eq loaded
      refine ⟨seats, .below, true, ?_, (if_pos low).symm, ⟨fun _ => ⟨.inr falls, stays⟩, fun _ => rfl⟩, fun n room =>
        ⟨fun _ clear => ?_, fun recovers => absurd recovers stays, fun quiet _ => ?_⟩⟩
      · rw [State.testSupply_falls falls, noted]
        refine (congrArg State.testRecovery (State.endClosings_none ?_)).trans (State.testRecovery_stays ?_)
        · exact spared
        · exact fun ⟨_, high⟩ => stays ⟨.inr falls, high⟩
      · simpa [clear] using (told n).2 room
      · rw [same (by simpa [falls] using quiet)]
    · refine ⟨s.seats, s.arbiter.supplyState, s.arbiter.supplyNotice, ?_, ?_, ?_, fun n _ =>
        ⟨fun falls => absurd falls.2 above, fun recovers => absurd recovers stays, fun _ _ => rfl⟩⟩
      · rw [State.testSupply_below low above]
        exact State.testRecovery_stays fun ⟨flag, high⟩ => stays ⟨.inl flag, high⟩
      · rw [if_pos low]
        cases hs : s.arbiter.supplyState with
        | above => exact absurd hs above
        | below => rfl
      · exact ⟨fun flag => ⟨.inl flag, stays⟩, fun noticed => noticed.1.resolve_right fun falls => above falls.2⟩
  · have noticed_iff : s.SupplyNoticed ↔ s.arbiter.supplyNotice = true :=
      ⟨fun noticed => noticed.resolve_right fun falls => low falls.1, .inl⟩
    rw [State.testSupply_above low]
    by_cases recovers : s.SupplyRecovers
    · refine ⟨_, .above, false, State.testRecovery_recovers loaded (noticed_iff.mp recovers.1) recovers.2,
        (if_neg low).symm, ⟨nofun, fun kept => absurd recovers kept.2⟩, fun n room =>
        ⟨fun falls => absurd falls.1 low, fun _ => ?_, fun _ stays => absurd recovers stays⟩⟩
      exact State.postTo_all_room _ room
    · refine ⟨s.seats, .above, s.arbiter.supplyNotice, State.testRecovery_stays fun ⟨flag, high⟩ =>
        recovers ⟨.inl flag, high⟩, (if_neg low).symm,
        ⟨fun flag => ⟨.inl flag, recovers⟩, fun kept => noticed_iff.mp kept.1⟩, fun n _ =>
        ⟨fun falls => absurd falls.1 low, fun now => absurd now recovers, fun _ _ => rfl⟩⟩

/-- What a fall noted changes beside the arbiter's two flags (R115): SUPPLY_LOW at the seats, once. -/
theorem State.fallNoted_told {s : State} (loaded : s.loading = false) :
    s.fallNoted.closures = s.closures ∧
    s.fallNoted.arbiter = { s.arbiter with supplyState := .below, supplyNotice := true } ∧
    s.SameOutside s.fallNoted ∧
    ∀ n : SeatId, s.fallNoted.seats[n].record = s.seats[n].record ∧
      (s.seats[n].queue.length < 16 → s.fallNoted.seats[n].queue = s.seats[n].queue ++
        if s.arbiter.supplyNotice then []
        else [{ body := .supplyLowEntered s.front.reading, time := s.now }]) := by
  obtain ⟨seats, noted, -, told⟩ := State.fallNoted_eq loaded
  rw [noted]
  exact ⟨rfl, rfl, by constructor <;> rfl, told⟩

section
variable {s t : State} {dt : Nat} {k : ClosureId} {m : Move}

/-- A refresh at which the supply falls: the fall noted, then the closing moves ended. -/
theorem exec_supplyRefresh_falls (h : s.Attentive) (full : s.front.window.length = 20)
    (quiet : s.arbiter.queue = [] ∨ s.arbiter.derating = false) (falls : (s.published dt).derated.SupplyFalls)
    (ended : (s.published dt).derated.fallNoted.endClosings = t)
    (same : (s.published dt).derated.SameOutside t) : exec (.supplyRefresh dt) s = .next t := by
  refine exec_supplyRefresh h full quiet ?_ same.link
  rw [State.testSupply_falls falls, ended]
  refine State.testRecovery_stays fun ⟨_, high⟩ => ?_
  rw [same.settings, same.front] at high
  have low := falls.1
  omega

/-- At a fall the one RUNNING closing move ends SUPPLY_LOW and gives its slot back (R100). -/
theorem State.fallNoted_running (loaded : s.loading = false) (empty : s.arbiter.queue = [])
    (running : s.closures[k].ctx.state = .running) (hm : s.closures[k].ctx.move = some m)
    (closing : m.direction = .closing) (others : ∀ j : ClosureId, j ≠ k → s.closures[j].Spared) :
    s.fallNoted.endClosings = s.fallNoted.moveEnded k s.now .supplyLow none := by
  obtain ⟨closures, arbiter, same, -⟩ := State.fallNoted_told loaded
  rw [← closures] at running hm others
  rw [State.endClosings_running running hm closing others, ← same.now]
  exact State.endMove_empty k _ _ (by rw [arbiter]; exact empty)

/-- At a fall the one QUEUED closing move is removed SUPPLY_LOW (R100). -/
theorem State.fallNoted_queued (loaded : s.loading = false)
    (queued : s.closures[k].ctx.state = .queued) (hm : s.closures[k].ctx.move = some m)
    (closing : m.direction = .closing) (others : ∀ j : ClosureId, j ≠ k → s.closures[j].Spared) :
    s.fallNoted.endClosings = s.fallNoted.remove k .supplyLow none := by
  obtain ⟨closures, -⟩ := State.fallNoted_told loaded
  rw [← closures] at queued hm others
  exact State.endClosings_queued queued hm closing others

/-- The seats after a fall that removes a move: SUPPLY_LOW, then MOVE_ENDED at the seats that hear of the closure. -/
theorem State.fallNoted_remove_queue (loaded : s.loading = false) (hm : s.closures[k].ctx.move = some m) {n : SeatId}
    (room : s.seats[n].queue.length < 15) :
    (s.fallNoted.remove k .supplyLow none).seats[n].queue = s.seats[n].queue ++
      (if s.arbiter.supplyNotice then [] else [{ body := .supplyLowEntered s.front.reading, time := s.now }]) ++
      if s.Hears k m.seat n then
        [{ body := .moveEnded (s.closures[k].removal k m .supplyLow none s.front.reading), time := s.now }]
      else [] := by
  obtain ⟨closures, -, same, told⟩ := State.fallNoted_told loaded
  obtain ⟨record, queue⟩ := told n
  replace queue := queue (Nat.lt_succ_of_lt room)
  rw [← closures] at hm
  obtain ⟨-, -, heard, -⟩ := State.remove_removed .supplyLow none hm
  obtain ⟨hears, deaf⟩ := heard n
  have hears_iff : s.fallNoted.Hears k m.seat n ↔ s.Hears k m.seat n := by simp only [State.Hears, record]
  rw [hears_iff, closures, same.front, same.now] at hears
  rw [hears_iff] at deaf
  rw [← queue]
  split
  · refine (hears ‹_› ?_).1
    rw [queue]
    split <;> simp only [List.length_append, List.length_nil, List.length_singleton] <;> omega
  · rw [List.append_nil]
    exact (deaf ‹_›).1

end

/-- Settles O56: derating is tested, then the monitor; with no closing move to end the refresh is those two tests, and at
a fall the one closing move ends or is removed. -/
theorem supplyRefreshAndFall : Obligations.SupplyRefreshAndFall := by
  refine ⟨fun dt s h loaded full empty spared => ?_,
    fun dt k m s h loaded full above low vMin_low vMin_high hm closing spared => ?_⟩
  · obtain ⟨seats, supply, flag, refreshed, hsupply, hflag, hseats⟩ :=
      State.testSupply_testRecovery (s := (s.published dt).derated) loaded spared
    dsimp only
    rw [← s.front.publish_reading]
    exact ⟨_, exec_supplyRefresh h full (.inl empty) refreshed rfl, rfl, rfl, rfl, hsupply, hflag, hseats, rfl, rfl, empty,
      rfl, rfl, rfl, rfl⟩
  · have reading : s.front.publish.reading = max 6000 (s.front.window.sum / 20) := by
      rw [FrontEnd.publish_reading]
      omega
    have falls : (s.published dt).derated.SupplyFalls := by
      refine ⟨?_, above⟩
      change s.front.publish.reading < s.settings.vMin
      omega
    have others : ∀ j : ClosureId, j ≠ k → s.closures[j].Spared := fun j hj x => spared j x hj
    obtain ⟨closures, arbiter, same, told⟩ := State.fallNoted_told (s := (s.published dt).derated) loaded
    dsimp only
    rw [← reading]
    refine ⟨fun running empty => ?_, fun queued steady => ?_⟩
    · refine ⟨_, exec_supplyRefresh_falls h full (.inl empty) falls
        (State.fallNoted_running loaded empty running hm closing others) (same.trans (by constructor <;> rfl)),
        ?_, ?_, ?_, ?_, fun room n => ?_⟩
      · rw [State.moveEnded_closures, closures]
        rfl
      · rw [State.moveEnded_arbiter, arbiter]
        rfl
      · exact (congrArg Arbiter.queue arbiter).trans empty
      · exact congrArg Arbiter.supplyState arbiter
      · exact (told n).2 (Nat.lt_succ_of_lt (room n))
    · have hm' : (s.published dt).derated.fallNoted.closures[k].ctx.move = some m := by rwa [closures]
      obtain ⟨gone, without, -⟩ := State.remove_removed .supplyLow none hm'
      rw [same.front, closures] at gone
      rw [arbiter] at without
      refine ⟨_, exec_supplyRefresh_falls h full (.inr steady) falls
        (State.fallNoted_queued loaded queued hm closing others) (same.trans (State.sameOutside_remove _ _ _ _)),
        gone, ?_, ?_, ?_, fun room n =>
          State.fallNoted_remove_queue (s := (s.published dt).derated) loaded hm (room n)⟩
      · rw [without]
        rfl
      · rw [without]
        rfl
      · exact congrArg Arbiter.supplyState without

end Sys2Proof.Machine
end

section
/-! PROOFS. O19: its five clauses, of which the last is left to a free value. A loss of power at a part that is already
without power still cuts a commit off (`execPowerLoss`), and an unpark that waits then makes the image which the commit
leaves a trusted one (R158): its zones are those of `Config.tornImage` (log entry 8), and ZoneLaw asks that they be in
band. The model leaves that value open, so O19 is settled neither way; what stands is that it is that one assumption. -/
namespace Sys2Proof.Machine

theorem adaptValue_eq {anchor lo hi : Nat} (range : lo ≤ hi) (reference mean : Nat) :
    (adaptValue reference anchor mean lo hi : Int) =
      max (lo : Int) (min hi (max ((3 * anchor / 4 : Nat) : Int)
        (min ((5 * anchor / 4 : Nat) : Int) (reference + ((mean : Int) - reference).tdiv 8)))) := by
  unfold adaptValue
  rw [clampNat_eq range, clampNat_eq (by omega)]
  omega

theorem ZoneEntry.adapt_eq {t : TraceEntry} (counted : t.count ≠ 0) (e : ZoneEntry) :
    e.adapt t = { e with
      tRef := adaptValue e.tRef e.tAnchor (t.period / t.count) 200 65535
      iRef := adaptValue e.iRef e.iAnchor (t.current / t.count) 0 40000 } := if_neg counted

theorem ZoneEntry.adapt_uncounted {t : TraceEntry} (none : t.count = 0) (e : ZoneEntry) : e.adapt t = e := if_pos none

theorem ZoneEntry.adapt_anchors (e : ZoneEntry) (t : TraceEntry) :
    (e.adapt t).tAnchor = e.tAnchor ∧ (e.adapt t).iAnchor = e.iAnchor ∧ (e.adapt t).vRef = e.vRef := by
  by_cases counted : t.count = 0
  · rw [ZoneEntry.adapt_uncounted counted]
    exact ⟨rfl, rfl, rfl⟩
  · rw [ZoneEntry.adapt_eq counted]
    exact ⟨rfl, rfl, rfl⟩

/-- Every step keeps the bounds on what the traces and the front end sum (R22, R41). -/
theorem step_traceLaw {s t : State} (law : s.TraceLaw) (h : step s = .next t) : t.TraceLaw := by
  rcases step_evolves_or_restarts h with evolves | restarts
  · exact fun k => (evolves.closures k).traceLaw (law k)
  · intro k
    obtain ⟨-, -, -, traces⟩ := restarts.closure k
    exact traces

/-- What a start-up load takes is in band: a valid image's zones, or blank ones (R48, R161). -/
theorem State.StoredInBand.atStart {s : State} (h : s.StoredInBand) (k : ClosureId) (z : Fin 64) :
    s.store.image.atStart.profiles[k].zones[z].InBand := by
  cases valid : s.store.image.valid with
  | true =>
    rw [Image.atStart_of_valid valid]
    exact h.image (.inl valid) k z
  | false =>
    rw [Image.atStart_of_invalid valid]
    simpa using ZoneEntry.blank_inBand

theorem State.Restarts.zoneLaw {s t : State} (h : s.Restarts t) (torn : TornImagesInBand) (traces : s.TraceLaw)
    (law : s.ZoneLaw) : t.ZoneLaw := by
  obtain ⟨u, straps, counters, evolves, same⟩ := h
  have stored := evolves.stored torn traces law
  simp only [State.kept, Prod.mk.injEq] at same
  obtain ⟨closures, -, store, pending⟩ := same
  refine t.zoneLaw_iff.mpr ⟨fun k z => ?_, fun trusted => ?_, fun n park x job => ?_⟩
  · have watched : t.closures[k].watched = (u.store.image.closure k (counters k)).watched := by
      simp only [closures, State.startUp_closures]
    rw [watched, Image.closure_watched]
    exact stored.atStart k z
  · have valid : u.store.image.valid = true := by
      simpa [State.ImageTrusted, store, pending, State.startUp] using trusted
    rw [store]
    exact stored.image (.inl valid)
  · rw [store] at job
    exact absurd job (by exact nofun)

/-- With the free images in band every step keeps every zone in its band (R48). -/
theorem step_zoneLaw {s t : State} (torn : TornImagesInBand) (traces : s.TraceLaw) (law : s.ZoneLaw)
    (h : step s = .next t) : t.ZoneLaw := by
  rcases step_evolves_or_restarts h with evolves | restarts
  · exact t.zoneLaw_iff.mpr
      ⟨fun k => (evolves.closures k).zoneLaw (traces k) (law.1 k), evolves.stored torn traces law⟩
  · exact restarts.zoneLaw torn traces law

/-! The state that asks for a free image in band. -/

/-- Without power, a commit in flight and an unpark waiting; POWER_LOSS comes. -/
def State.unpoweredCommit (i : Nat) : State :=
  { State.reset with
    pending := [.powerLoss 0], powered := false, store := { job := .committing 0 false {} }
    arbiter := { unparkPending := true }, freeCount := i }

theorem State.unpoweredCommit_traceLaw (i : Nat) : (State.unpoweredCommit i).TraceLaw := by
  intro k
  have blank : (State.unpoweredCommit i).closures[k] = {} := State.reset_closures k
  rw [blank]
  exact ⟨fun idle => absurd rfl idle, nofun, Nat.zero_le _, Nat.zero_le _⟩

theorem State.unpoweredCommit_zoneLaw (i : Nat) : (State.unpoweredCommit i).ZoneLaw := by
  obtain ⟨working, -⟩ := State.reset_zoneLaw
  refine ⟨working, fun trusted => ?_, fun k z => ?_⟩
  · simp [State.ImageTrusted, State.unpoweredCommit] at trusted
  · simpa using ZoneEntry.blank_inBand

/-- The image that the cut commit leaves is trusted: its zones are the free value's. -/
theorem step_unpoweredCommit (i : Nat) : ∃ t, step (State.unpoweredCommit i) = .next t ∧ t.ImageTrusted ∧
    t.store.image.profiles = (Config.tornImage i).profiles := ⟨_, rfl, .inr (.inr ⟨rfl, rfl⟩), rfl⟩

/-- O19 is the assumption that the free images are in band: the model says nothing else of the image that a cut commit
leaves. -/
theorem anchorBandKept_iff : Obligations.AnchorBandKept ↔ TornImagesInBand := by
  constructor
  · rintro ⟨-, -, -, -, kept⟩ i k z
    obtain ⟨t, stepped, trusted, image⟩ := step_unpoweredCommit i
    obtain ⟨-, stored, -⟩ := kept _ t (State.unpoweredCommit_traceLaw i) (State.unpoweredCommit_zoneLaw i) stepped
    rw [← image]
    exact stored trusted k z
  · intro torn
    refine ⟨fun e t sampled => ?_, fun e t band => ?_, writtenZone_inBand, fun s t => step_traceLaw,
      fun s t traces law => step_zoneLaw torn traces law⟩
    · have counted : t.count ≠ 0 := Nat.one_le_iff_ne_zero.mp sampled
      intro toward _
      rw [ZoneEntry.adapt_eq counted]
      exact ⟨adaptValue_eq (lo := 200) (hi := 65535) (by decide) _ _,
        adaptValue_eq (lo := 0) (hi := 40000) (by decide) _ _⟩
    · obtain ⟨tAnchor, iAnchor, vRef⟩ := e.adapt_anchors t
      exact ⟨ZoneEntry.adapt_inBand band t, tAnchor, iAnchor, vRef, fun none => ZoneEntry.adapt_uncounted none e⟩

end Sys2Proof.Machine
end

section
/-! PROOFS. READ PROFILE, WRITE PROFILE ZONE and MARK LEARNED (R56 to R58). -/
namespace Sys2Proof.Machine

/-! READ PROFILE (R56). -/

theorem flatMap_filter_ite {α β : Type} (l : List α) (p : α → Prop) [DecidablePred p] (f : α → List β) :
    (l.filter fun x => decide (p x)).flatMap f = l.flatMap fun x => if p x then f x else [] := by
  induction l with
  | nil => rfl
  | cons x rest ih => by_cases h : p x <;> simp [h, ih]

/-- The items of READ PROFILE, zone by zone (R56). -/
theorem profileItems_eq (p : Profile) (first count : Nat) : profileItems p first count =
    [if p.status = .learned then 0 else 1, if p.dirty then 1 else 0]
      ++ (List.finRange 64).flatMap fun z =>
        if first ≤ z.val ∧ z.val < first + count then
          [byteOf z.val] ++ be16 p.zones[z].tRef ++ be16 p.zones[z].iRef ++ be16 p.zones[z].vRef
            ++ be16 p.zones[z].tAnchor ++ be16 p.zones[z].iAnchor
        else [] := by
  have status : byteOf p.status.code = if p.status = .learned then 0 else 1 := by cases p.status <;> rfl
  rw [profileItems, flatMap_filter_ite, status]
  rfl

section
variable (s : State)

theorem State.answerReadProfile_of (k : ClosureId) {first count : Nat} (nonempty : 1 ≤ count) (few : count ≤ 4)
    (low : first ≤ 63) (within : first + count ≤ 64) :
    s.answerReadProfile [byteOf k.val, byteOf first, byteOf count] =
      s.accept (profileItems s.closures[k].profile first count) := by
  have hf : (byteOf first).toNat = first := byteOf_toNat (by omega)
  have hc : (byteOf count).toNat = count := byteOf_toNat (by omega)
  have nonzero : byteOf count ≠ 0 := fun zero => by
    have : (byteOf count).toNat = 0 := congrArg BitVec.toNat zero
    omega
  have range : ¬ (byteOf count = 0 ∨ 4 < count ∨ 63 < first ∨ 64 < first + count) := by
    simp only [nonzero, false_or]
    omega
  simp only [State.answerReadProfile, closureOf_byteOf, hf, hc, if_neg range]

theorem State.answerReadProfile_badArgument (k : ClosureId) {first count : Byte}
    (range : count = 0 ∨ 4 < count.toNat ∨ 63 < first.toNat ∨ 64 < first.toNat + count.toNat) :
    s.answerReadProfile [byteOf k.val, first, count] = s.refuse .badArgument := by
  simp only [State.answerReadProfile, closureOf_byteOf, if_pos range]

theorem State.answerReadProfile_badClosure {b : Byte} (h : 8 ≤ b.toNat) (first count : Byte) :
    s.answerReadProfile [b, first, count] = s.refuse .badClosure := by
  simp only [State.answerReadProfile, closureOf_of_le h]

end

/-! WRITE PROFILE ZONE (R57). -/

theorem writtenZone_eq {tRef iRef vRef : Nat} (h : tRef ≤ 65535) : writtenZone tRef iRef vRef =
    { tRef := max 200 tRef, iRef := min 40000 iRef, vRef := max 6000 (min 18000 vRef), tAnchor := max 200 tRef
      iAnchor := min 40000 iRef } := by
  have hT : clampNat 200 65535 tRef = max 200 tRef := by
    rw [clampNat_eq (by decide), min_eq_right h]
  have hI : clampNat 0 40000 iRef = min 40000 iRef := by
    rw [clampNat_eq (by decide), Nat.zero_max]
  simp only [writtenZone, hT, hI, clampNat_eq (show 6000 ≤ 18000 by decide)]

/-- A zone of a profile written (R57): dirty, and the capture mark clear. -/
def Profile.withZone (p : Profile) (z : Fin 64) (e : ZoneEntry) : Profile :=
  { p with zones := p.zones.set z e, dirty := true, capture := false }

section
variable (s : State) (n : SeatId) (k : ClosureId) (zone a b c d e f : Byte)

theorem State.answerWriteProfileZone_badClosure {x : Byte} (h : 8 ≤ x.toNat) :
    s.answerWriteProfileZone n [x, zone, a, b, c, d, e, f] = s.refuse .badClosure := by
  simp only [State.answerWriteProfileZone, closureOf_of_le h]

theorem State.answerWriteProfileZone_notPermitted (h : s.seats[n].record.grants .settings = false) :
    s.answerWriteProfileZone n [byteOf k.val, zone, a, b, c, d, e, f] = s.refuse .notPermitted := by
  simp only [State.answerWriteProfileZone, closureOf_byteOf, h, Bool.not_false, if_true]

variable {s n k zone} (h : s.seats[n].record.grants .settings = true)
include h

theorem State.answerWriteProfileZone_badArgument (high : 64 ≤ zone.toNat) :
    s.answerWriteProfileZone n [byteOf k.val, zone, a, b, c, d, e, f] = s.refuse .badArgument := by
  simp only [State.answerWriteProfileZone, closureOf_byteOf, h, Bool.not_true, Bool.false_eq_true, if_false,
    dif_neg (Nat.not_lt.mpr high)]

theorem State.answerWriteProfileZone_notIdle (low : zone.toNat < 64) (busy : s.closures[k].ctx.state ≠ .idle) :
    s.answerWriteProfileZone n [byteOf k.val, zone, a, b, c, d, e, f] = s.refuse .notIdle := by
  simp only [State.answerWriteProfileZone, closureOf_byteOf, h, Bool.not_true, Bool.false_eq_true, if_false, dif_pos low,
    if_neg busy]

/-- The zone taken (R57). -/
theorem State.answerWriteProfileZone_of (z : Fin 64) (idle : s.closures[k].ctx.state = .idle) (tRef iRef vRef : BitVec 16) :
    let entry := writtenZone tRef.toNat iRef.toNat vRef.toNat
    s.answerWriteProfileZone n ([byteOf k.val, byteOf z.val] ++ bytesOf16 tRef ++ bytesOf16 iRef ++ bytesOf16 vRef) =
      (s.withClosure k { s.closures[k] with profile := s.closures[k].profile.withZone z entry }).accept
        (byteOf z.val :: (be16 entry.tRef ++ be16 entry.iRef ++ be16 entry.vRef)) := by
  have value : (byteOf z.val).toNat = z.val := byteOf_toNat (by omega)
  simp only [bytesOf16, List.cons_append, List.nil_append, State.answerWriteProfileZone, closureOf_byteOf, h, Bool.not_true,
    Bool.false_eq_true, if_false, value, z.isLt, dite_true, if_pos idle, word16_extract]
  rfl

end

/-! MARK LEARNED (R58). -/

section
variable (s : State) (n : SeatId) (k : ClosureId)

theorem State.answerMarkLearned_badClosure {b : Byte} (h : 8 ≤ b.toNat) :
    s.answerMarkLearned n [b] = s.refuse .badClosure := by
  simp only [State.answerMarkLearned, closureOf_of_le h]

theorem State.answerMarkLearned_notPermitted (h : s.seats[n].record.grants .settings = false) :
    s.answerMarkLearned n [byteOf k.val] = s.refuse .notPermitted := by
  simp only [State.answerMarkLearned, closureOf_byteOf, h, Bool.false_eq_true, if_false]

variable {s n k} (h : s.seats[n].record.grants .settings = true)
include h

theorem State.answerMarkLearned_unlearned (unlearned : s.closures[k].profile.status = .unlearned) :
    s.answerMarkLearned n [byteOf k.val] = (s.withClosure k { s.closures[k] with profile :=
      { s.closures[k].profile with status := .learned, dirty := true, capture := false } }).accept [] := by
  simp only [State.answerMarkLearned, closureOf_byteOf, h, if_true, State.modProfile, State.modClosure_eq,
    Profile.markLearned, unlearned]
  rfl

/-- A profile that is LEARNED already stays as it is (R58). -/
theorem State.answerMarkLearned_learned (learned : s.closures[k].profile.status = .learned) :
    s.answerMarkLearned n [byteOf k.val] = s.accept [] := by
  simp only [State.answerMarkLearned, closureOf_byteOf, h, if_true, State.modProfile, State.modClosure_eq,
    Profile.markLearned, learned]
  exact congrArg (State.accept · []) (s.withClosure_present k)

end

/-- Settles O24: each command's answer by its checks, in their order. -/
theorem profileCommands : Obligations.ProfileCommands := by
  refine ⟨fun f s awake => ⟨fun k first count nonempty few low within => ?_, fun k first count range => ?_,
    fun b first count hb => ?_⟩, fun f s k awake => ⟨fun z tRef iRef vRef right idle => ?_,
    fun zone a b c' d e g => ⟨fun none => ?_, fun right high => ?_, fun right low busy => ?_⟩, fun right unlearned => ?_,
    fun right learned => ?_, fun none => ?_⟩, fun f s b zone a c d e g h awake hb => ⟨?_, ?_⟩⟩
  · refine congrArg Host.Outcome.next (State.seatCommand_answered awake ?_)
    rw [State.answerReadProfile_of _ k nonempty few low within, profileItems_eq]
    rfl
  · exact congrArg Host.Outcome.next
      (State.seatCommand_refused awake (State.answerReadProfile_badArgument _ k range))
  · exact congrArg Host.Outcome.next
      (State.seatCommand_refused awake (State.answerReadProfile_badClosure _ hb first count))
  · refine congrArg Host.Outcome.next (State.seatCommand_answered awake ?_)
    have entry := writtenZone_eq (iRef := iRef.toNat) (vRef := vRef.toNat) (Nat.le_of_lt_succ tRef.isLt)
    rw [State.answerWriteProfileZone_of (s := s.later f.dt) right z idle tRef iRef vRef, entry]
    rfl
  · exact congrArg Host.Outcome.next
      (State.seatCommand_refused awake (State.answerWriteProfileZone_notPermitted _ _ k zone a b c' d e g none))
  · exact congrArg Host.Outcome.next
      (State.seatCommand_refused awake (State.answerWriteProfileZone_badArgument a b c' d e g right high))
  · exact congrArg Host.Outcome.next
      (State.seatCommand_refused awake (State.answerWriteProfileZone_notIdle a b c' d e g right low busy))
  · refine congrArg Host.Outcome.next (State.seatCommand_answered awake ?_)
    exact State.answerMarkLearned_unlearned (s := s.later f.dt) right unlearned
  · refine congrArg Host.Outcome.next (State.seatCommand_answered awake ?_)
    exact State.answerMarkLearned_learned (s := s.later f.dt) right learned
  · exact congrArg Host.Outcome.next (State.seatCommand_refused awake (State.answerMarkLearned_notPermitted _ _ k none))
  · exact congrArg Host.Outcome.next
      (State.seatCommand_refused awake (State.answerWriteProfileZone_badClosure _ _ zone a c d e g h hb))
  · exact congrArg Host.Outcome.next (State.seatCommand_refused awake (State.answerMarkLearned_badClosure _ _ hb))

end Sys2Proof.Machine
end

section
/-! PROOFS. COMMIT (R156): what it captures, and its refusals. -/
namespace Sys2Proof.Machine

theorem parkOf_arg (park : Bool) : parkOf (if park then 1 else 0) = some park := by cases park <;> rfl

theorem parkOf_of_le {b : Byte} (h : 2 ≤ b.toNat) : parkOf b = none := by
  unfold parkOf onOffOf
  split
  · omega
  · omega
  · rfl

theorem State.allIdle_iff (s : State) : s.allIdle = true ↔ ∀ k : ClosureId, s.closures[k].ctx.state = .idle := by
  simp only [State.allIdle, List.all_eq_true, decide_eq_true_eq]
  exact ⟨fun h k => h k (mem_allClosures k), fun h k _ => h k⟩

/-- The captured copy, part by part (R155, R156). -/
theorem State.capture_spec (s : State) :
    s.capture.settings = s.settings ∧ (∀ n : SeatId, s.capture.records[n] = s.seats[n].record) ∧
    ∀ k : ClosureId,
      s.capture.descriptions[k] = s.closures[k].desc ∧
      s.capture.profiles[k].status = s.closures[k].profile.status ∧
      s.capture.profiles[k].zones = s.closures[k].profile.zones ∧
      s.capture.stats[k] = s.closures[k].stats.counters ∧
      s.capture.positions[k].pos = s.closures[k].counter.position ∧
      s.capture.positions[k].validity = s.closures[k].counter.validity := by
  simp [State.capture]

section
variable (s : State) (n : SeatId)

theorem State.answerCommit_badArgument {b : Byte} (h : 2 ≤ b.toNat) : s.answerCommit n [b] = s.refuse .badArgument := by
  simp only [State.answerCommit, parkOf_of_le h]

theorem State.answerCommit_notPermitted (park : Bool) (h : s.seats[n].record.grants .commit = false) :
    s.answerCommit n [if park then 1 else 0] = s.refuse .notPermitted := by
  simp only [State.answerCommit, parkOf_arg, h, Bool.not_false, if_true]

variable {s n} (h : s.seats[n].record.grants .commit = true)
include h

theorem State.answerCommit_storeBusy (park : Bool) (busy : s.store.job ≠ .idle) :
    s.answerCommit n [if park then 1 else 0] = s.refuse .storeBusy := by
  simp only [State.answerCommit, parkOf_arg, h, Bool.not_true, Bool.false_eq_true, if_false, if_pos busy]

variable {park : Bool} (free : s.store.job = .idle)
include free

theorem State.answerCommit_notIdle (parks : park = true) (moving : ¬ ∀ k : ClosureId, s.closures[k].ctx.state = .idle) :
    s.answerCommit n [if park then 1 else 0] = s.refuse .notIdle := by
  rw [← State.allIdle_iff, Bool.not_eq_true] at moving
  have refused : (park && !s.allIdle) = true := by rw [parks, moving]; rfl
  simp only [State.answerCommit, parkOf_arg, h, Bool.not_true, Bool.false_eq_true, if_false, free, ne_eq,
    not_true_eq_false, refused, if_true]

theorem State.answerCommit_of (idle : park = true → ∀ k : ClosureId, s.closures[k].ctx.state = .idle) :
    s.answerCommit n [if park then 1 else 0] = (s.acceptCommit n park).accept [] := by
  rw [← State.allIdle_iff] at idle
  have stands : (park && !s.allIdle) = false := by
    cases park with
    | false => rfl
    | true => rw [idle rfl]; rfl
  simp only [State.answerCommit, parkOf_arg, h, Bool.not_true, Bool.false_eq_true, if_false, free, ne_eq,
    not_true_eq_false, stands]

end

/-- Settles O57: the captured copy part by part, and each refusal by its check, in their order. -/
theorem commitAccepted : Obligations.CommitAccepted := by
  refine fun f park s awake => ⟨fun right free idle => ?_, fun none => ?_, fun right busy => ?_,
    fun right free parks moving => ?_, fun b hb => ?_⟩
  · have answer := State.answerCommit_of (s := s.later f.dt) right free idle
    obtain ⟨settings, records, parts⟩ := s.capture_spec
    refine ⟨_, s.capture, congrArg Host.Outcome.next ((State.seatCommand_awake awake).trans
      (congrArg (fun a : Answer => (a.placed f.seat Code.commit).frameSeen _ _) answer)), rfl, settings, records,
      fun k => ?_, rfl, rfl, ?_, rfl, rfl⟩
    · obtain ⟨desc, status, zones, stats, pos, validity⟩ := parts k
      refine ⟨desc, status, zones, stats, pos, validity, ?_⟩
      exact Vector.getElem_ofFn _
    · exact congrArg SeatState.reply (Vector.getElem_set_self _)
  · exact congrArg Host.Outcome.next (State.seatCommand_refused awake (State.answerCommit_notPermitted _ _ park none))
  · exact congrArg Host.Outcome.next
      (State.seatCommand_refused awake (State.answerCommit_storeBusy (s := s.later f.dt) right park busy))
  · exact congrArg Host.Outcome.next
      (State.seatCommand_refused awake (State.answerCommit_notIdle (s := s.later f.dt) right free parks moving))
  · exact congrArg Host.Outcome.next (State.seatCommand_refused awake (State.answerCommit_badArgument _ _ hb))

end Sys2Proof.Machine
end

section
/-! PROOFS. Grants, spelled field by field (R92, R107, R111). -/
namespace Sys2Proof.Machine

/-! The closure. -/

theorem ClosureState.grant_eq_grantedAt (c : ClosureState) (m : Move) (now reading : Nat) : c.grant now reading m = c.grantedAt m now reading := by
  have position : (if (decide (m.kind = .normalise) && decide (c.counter.validity = .lost)) = true then 0
      else c.counter.position) = c.grantPosition m := by
    simp only [ClosureState.grantPosition, Bool.and_eq_true, decide_eq_true_eq]
  simp only [ClosureState.grant, position]
  rfl

/-- A move that names no target and may end anywhere has reached none (R93). -/
theorem Move.Runs.not_reached {m : Move} (h : m.Runs) (p : Int) : m.reached p = false := by
  obtain ⟨kind | kind | kind, target⟩ := h <;> simp [Move.reached, Kind.toStop, kind, target]

/-! The slots. -/

/-- One more of a list's members passes a test that differs at one of them alone. -/
theorem countP_of_flip {α : Type} [DecidableEq α] {l : List α} {a : α} {p q : α → Bool} (mem : a ∈ l)
    (nodup : l.Nodup) (before : p a = false) (after : q a = true) (same : ∀ x, x ≠ a → q x = p x) :
    l.countP q = l.countP p + 1 := by
  have moved := List.perm_cons_erase mem
  have rest : (l.erase a).countP q = (l.erase a).countP p :=
    List.countP_congr fun x hx => by rw [same x (nodup.mem_erase_iff.mp hx).1]
  rw [moved.countP_eq q, moved.countP_eq p, List.countP_cons_of_pos after, List.countP_cons_of_neg (by simp [before]), rest]

/-- A slot taken by a closure that held none is one more (R106). -/
theorem Arbiter.heldCount_take {a b : Arbiter} {k : ClosureId} (free : a.held[k] = false)
    (taken : b.held = a.held.set k true) : b.heldCount = a.heldCount + 1 := by
  have other : ∀ j : ClosureId, j ≠ k → b.held[j] = a.held[j] := by
    intro j hj
    have : (k : Nat) ≠ j := fun e => hj (Fin.ext e.symm)
    simp [taken, this]
  simp only [Arbiter.heldCount, ← List.countP_eq_length_filter]
  exact countP_of_flip (mem_allClosures k) (by decide) free (by simp [taken]) other

section
variable {s : State}

theorem State.grantLoop_full (fuel : Nat) (h : s.arbiter.effective ≤ s.arbiter.heldCount) : s.grantLoop fuel = s := by
  cases fuel with
  | zero => rfl
  | succ fuel =>
    unfold State.grantLoop
    split
    · rfl
    · exact if_neg (Nat.not_lt.mpr h)

/-! The grant (R92). -/

section
variable {k : ClosureId} {m : Move} (hm : s.closures[k].ctx.move = some m)
include hm

theorem State.grant_eq :
    let taken := ((s.leaveQueue k).setSlot k true).withClosure k (s.closures[k].grantedAt m s.now s.front.reading)
    s.grant k = if m.reached (s.closures[k].grantPosition m) then taken.settle k .targetReached none
      else taken.modClosure k (ClosureState.activate s.now m.direction) := by
  simp only [State.grant, hm, State.modClosure_eq, ClosureState.grant_eq_grantedAt, State.withClosure_self]
  rfl

/-- A grant with the target still ahead. -/
theorem State.grant_ahead (ahead : m.reached (s.closures[k].grantPosition m) = false) :
    s.grant k = s.granted k m s.now := by
  simp only [State.grant_eq hm, ahead, Bool.false_eq_true, if_false, State.modClosure_withClosure]
  rfl

/-- A grant at the target: SETTLING at once, and the slot given back. -/
theorem State.grant_reached (reached : m.reached (s.closures[k].grantPosition m) = true) : s.grant k =
    { s.withClosure k ((s.closures[k].grantedAt m s.now s.front.reading).settledAt s.now .targetReached none) with
      arbiter := { s.arbiter.without k with held := s.arbiter.held.set k false } } := by
  have given : (s.arbiter.held.set k true).set k false = s.arbiter.held.set k false := by simp
  simp only [State.grant_eq hm, reached, if_true, State.settle, State.modClosure_withClosure]
  rw [← given]
  rfl

end

/-! The grant test (R111). -/

section
variable {e : QueueEntry} {rest : List QueueEntry} (queue : s.arbiter.queue = e :: rest)
include queue

/-- With a slot free and no unpark write awaited the head of the queue is granted, and the test goes on. -/
theorem State.grantTest_free (free : s.SlotFree) : s.grantTest = (s.grant e.closure).grantLoop rest.length := by
  obtain ⟨room, clear, wait⟩ := free
  rw [State.grantTest, queue, List.length_cons, State.grantLoop_cons _ queue, if_pos room, if_neg (by rw [clear]; decide),
    if_pos wait]

/-- With one slot free the head of the queue takes it, if it runs, and the test ends. -/
theorem State.grantTest_last {m : Move} (hm : s.closures[e.closure].ctx.move = some m) (runs : m.Runs)
    (slotless : s.arbiter.held[e.closure] = false) (one : s.arbiter.heldCount + 1 = s.arbiter.effective)
    (clear : s.arbiter.unparkPending = false) (wait : s.arbiter.unparkWait = .none) :
    s.grantTest = s.granted e.closure m s.now := by
  rw [State.grantTest_free queue ⟨by omega, clear, wait⟩, State.grant_ahead hm (runs.not_reached _)]
  have count : (s.granted e.closure m s.now).arbiter.heldCount = s.arbiter.heldCount + 1 :=
    Arbiter.heldCount_take slotless rfl
  exact State.grantLoop_full _ (by rw [count]; exact one.ge)

end

end

end Sys2Proof.Machine
end

section
/-! PROOFS. The ends of commits and unpark writes (R157, R158), and of an unpark wait for the store (R118). -/
namespace Sys2Proof.Machine

/-! Notices (R130, R131). -/

section
variable (s : State) (body : NoticeBody)

theorem State.postTo_chosen {chosen : SeatId → Bool} {n : SeatId} (h : chosen n = true)
    (room : s.seats[n].queue.length < 16) :
    (s.postTo chosen body).seats[n].queue = s.seats[n].queue ++ [{ body := body, time := s.now }] :=
  ((State.told_of_seats (hears := fun n => chosen n = true) rfl (fun _ => Iff.rfl) n).1 h room).1

theorem State.postTo_other {chosen : SeatId → Bool} {n : SeatId} (h : chosen n = false) :
    (s.postTo chosen body).seats[n] = s.seats[n] := by
  simp [h]

end

/-! The end of a commit (R157). -/

/-- A profile at the end of a commit (R47): the capture mark clear, and a captured profile's dirty flag when the commit
has completed. -/
def Profile.afterCommit (completed : Bool) (p : Profile) : Profile :=
  { p with dirty := p.dirty && !(completed && p.capture), capture := false }

/-- What the end of a commit leaves, before an unpark wait is looked at: the seat's notice, the profiles, unpark pending,
the image, the store IDLE (R47, R117, R157). -/
def State.commitOver (s : State) (n : SeatId) (body : NoticeBody) (completed pending : Bool) (image : Image) (free : Nat) :
    State :=
  { s.postSeat n body with
    closures := Vector.ofFn fun k : ClosureId =>
      { s.closures[k] with profile := s.closures[k].profile.afterCommit completed }
    arbiter := { s.arbiter with unparkPending := pending }
    store := { s.store with job := .idle, image := image }
    freeCount := free }

section
variable (s : State) (n : SeatId) (park : Bool)

theorem State.completeCommit_eq (captured : Image) : s.completeCommit n park captured =
    (s.commitOver n (.storeDone (commitOp park)) true (park && s.arbiter.unparkPending)
      (s.store.image.committed captured park) s.freeCount).commitEnded := rfl

theorem State.failCommit_eq : s.failCommit n park =
    (s.commitOver n (.storeFailed (commitOp park)) false false (s.store.image.torn park s.freeCount)
      (s.freeCount + 1)).commitEnded := by
  have unmarked : ∀ p : Profile, p.afterCommit false = { p with capture := false } := by
    simp [Profile.afterCommit]
  simp only [State.commitOver, unmarked]
  rfl

end

section
variable (s : State) (n : SeatId) (body : NoticeBody) (completed pending : Bool) (image : Image) (free : Nat)

theorem State.sameOutside_commitOver : s.SameOutside (s.commitOver n body completed pending image free) := by
  constructor <;> rfl

theorem State.commitOver_closure (k : ClosureId) : (s.commitOver n body completed pending image free).closures[k] =
    { s.closures[k] with profile := s.closures[k].profile.afterCommit completed } := Vector.getElem_ofFn _

end

/-! An unpark wait at the end of a commit (R118). -/

section
variable (s : State)

theorem State.commitEnded_unawaited (h : s.arbiter.unparkWait = .none) : s.commitEnded = s := by
  simp only [State.commitEnded, h]

theorem State.commitEnded_writes (h : s.arbiter.unparkWait = .waitingForStore)
    (pending : s.arbiter.unparkPending = true) : s.commitEnded = s.startUnparkWrite := by
  simp only [State.commitEnded, h, pending, if_true]

theorem State.commitEnded_frees (h : s.arbiter.unparkWait = .waitingForStore) (clear : s.arbiter.unparkPending = false) :
    s.commitEnded = (s.modArbiter fun a => { a with unparkWait := .none }).grantTest := by
  simp only [State.commitEnded, h, clear, Bool.false_eq_true, if_false]

theorem State.sameOutside_commitEnded : s.SameOutside s.commitEnded := by
  unfold State.commitEnded
  split
  · split
    · constructor <;> rfl
    · exact (s.sameOutside_modArbiter _).trans (State.sameOutside_grantTest _)
  · exact .refl s
  · exact .refl s

end

/-- No unpark is pending and none is awaited. -/
def State.unparkFreed (s : State) : State :=
  { s with arbiter := { s.arbiter with unparkPending := false, unparkWait := .none } }

/-- What the grant test at the end of an unpark wait makes of a state, by the slot queue (R111): nothing with nothing
waiting, and with one slot free the grant of the head, if it runs. -/
inductive State.TestedTo (s : State) (now : Nat) : State → Prop where
  | still (empty : s.arbiter.queue = []) : s.TestedTo now s
  | grants {e : QueueEntry} {rest : List QueueEntry} {m : Move} (queue : s.arbiter.queue = e :: rest)
      (hm : s.closures[e.closure].ctx.move = some m) (runs : m.Runs) (slotless : s.arbiter.held[e.closure] = false)
      (one : s.arbiter.heldCount + 1 = s.arbiter.effective) : s.TestedTo now (s.granted e.closure m now)

/-- The grant test at the end of an unpark wait, at a state that differs from `s` by an update `f` of each closure which
no grant depends on. -/
theorem State.TestedTo.grantTest_spec {s u v : State} (h : s.unparkFreed.TestedTo v.now u)
    {f : ClosureId → ClosureState → ClosureState} (move : ∀ k c, (f k c).ctx.move = c.ctx.move)
    (commutes : ∀ (k : ClosureId) (c : ClosureState) (m : Move) (now reading : Nat),
      ((f k c).grantedAt m now reading).drivenAt now m.direction =
        f k ((c.grantedAt m now reading).drivenAt now m.direction))
    (closures : ∀ k : ClosureId, v.closures[k] = f k s.closures[k])
    (arbiter : v.arbiter = s.unparkFreed.arbiter) (front : v.front = s.front) :
    v.grantTest.arbiter = u.arbiter ∧ (∀ k : ClosureId, v.grantTest.closures[k] = f k u.closures[k]) ∧
      v.grantTest.seats = v.seats ∧ v.grantTest.store = v.store := by
  cases h with
  | still empty =>
    rw [State.grantTest_empty (by rw [arbiter]; exact empty)]
    exact ⟨arbiter, closures, rfl, rfl⟩
  | @grants e rest m queue hm runs slotless one =>
    rw [State.grantTest_last (e := e) (rest := rest) (m := m) (by rw [arbiter]; exact queue)
      (by rw [closures, move]; exact hm) runs (by rw [arbiter]; exact slotless) (by rw [arbiter]; exact one)
      (by rw [arbiter]; rfl) (by rw [arbiter]; rfl)]
    refine ⟨by simp only [State.granted, arbiter], fun k => ?_, rfl, rfl⟩
    by_cases hk : k = e.closure
    · subst hk
      refine (State.withClosure_self v _ _).trans ?_
      rw [closures, commutes, front]
      exact congrArg (f _) (State.withClosure_self s _ _).symm
    · refine (State.withClosure_other v _ hk).trans ((closures k).trans ?_)
      exact congrArg (f k) (State.withClosure_other s _ hk).symm

/-! Commits (R157). -/

/-- A commit ends with an unpark wait for the store and unpark pending clear: the wait ends, with its grant test. -/
theorem State.commitOver_frees {s u : State} {dt : Nat} (wait : s.arbiter.unparkWait = .waitingForStore)
    (h : s.unparkFreed.TestedTo (s.now + dt) u) (n : SeatId) (body : NoticeBody) (completed : Bool) (image : Image)
    (free : Nat) :
    let left := (s.later dt).commitOver n body completed false image free
    left.commitEnded.arbiter = u.arbiter ∧
    (∀ k : ClosureId, left.commitEnded.closures[k] = { u.closures[k] with profile := { u.closures[k].profile with
      dirty := (s.closures[k].profile.afterCommit completed).dirty, capture := false } }) ∧
    left.commitEnded.seats = left.seats ∧ left.commitEnded.store = left.store := by
  intro left
  rw [State.commitEnded_frees left wait rfl]
  exact State.TestedTo.grantTest_spec (v := left.modArbiter _) h
    (f := fun k c => { c with profile := { c.profile with
      dirty := (s.closures[k].profile.afterCommit completed).dirty, capture := false } })
    (fun _ _ => rfl) (fun _ _ _ _ _ => rfl)
    (fun k => State.commitOver_closure (s.later dt) n body completed false image free k) rfl rfl

section
variable {s t : State} {dt : Nat} {n : SeatId} {park : Bool} {captured : Image} (h : s.Attentive)
  (job : s.store.job = .committing n park captured)
include h job

theorem exec_commitCompletion
    (ended : ((s.later dt).commitOver n (.storeDone (commitOp park)) true (park && s.arbiter.unparkPending)
      (s.store.image.committed captured park) s.freeCount).commitEnded = t) :
    exec (.commitCompletion dt) s = .next t := by
  subst ended
  refine congrArg Host.Outcome.next (State.onEvent_eq h ?_
    ((State.sameOutside_commitOver ..).trans (State.sameOutside_commitEnded _)).link)
  simp only [State.later_store, job, State.completeCommit_eq]
  rfl

theorem exec_commitFailure
    (ended : ((s.later dt).commitOver n (.storeFailed (commitOp park)) false false
      (s.store.image.torn park s.freeCount) (s.freeCount + 1)).commitEnded = t) :
    exec (.commitFailure dt) s = .next t := by
  subst ended
  refine congrArg Host.Outcome.next (State.onEvent_eq h ?_
    ((State.sameOutside_commitOver ..).trans (State.sameOutside_commitEnded _)).link)
  simp only [State.later_store, job, State.failCommit_eq]
  rfl

end

/-! Unpark writes (R158). -/

/-- A store notice reached exactly the seats that hold the COMMIT right, each if its queue had room. -/
abbrev State.ToldCommitters (s t : State) (body : NoticeBody) (time : Nat) : Prop :=
  ∀ n : SeatId,
    (s.seats[n].record.grants .commit = true → s.seats[n].queue.length < 16 →
      t.seats[n].queue = s.seats[n].queue ++ [{ body := body, time := time }]) ∧
    (s.seats[n].record.grants .commit = false → t.seats[n] = s.seats[n])

/-- The end of an unpark write, by the grant test that it makes. -/
theorem State.endUnpark_spec {s u v : State} (h : s.unparkFreed.TestedTo v.now u) (closures : v.closures = s.closures)
    (arbiter : v.arbiter = s.arbiter) (front : v.front = s.front) (seats : v.seats = s.seats) (body : NoticeBody)
    (image : Image) :
    (v.endUnpark body image).store.job = .idle ∧ (v.endUnpark body image).store.image = image ∧
    (v.endUnpark body image).arbiter = u.arbiter ∧ s.ToldCommitters (v.endUnpark body image) body v.now ∧
    (v.endUnpark body image).closures = u.closures := by
  obtain ⟨arbiter', closures', seats', store'⟩ := State.TestedTo.grantTest_spec
    (v := { (v.postTo (fun n => v.seats[n].record.grants .commit) body) with
      arbiter := { v.arbiter with unparkPending := false, unparkWait := .none }
      store := { v.store with job := .idle, image := image } }) h (f := fun _ c => c) (fun _ _ => rfl)
    (fun _ _ _ _ _ => rfl) (fun k => by simp only [State.postTo_closures, closures]) (by rw [arbiter]; rfl) front
  refine ⟨congrArg Store.job store', congrArg Store.image store', arbiter', fun n => ?_,
    Vector.ext fun i hi => closures' ⟨i, hi⟩⟩
  rw [← seats]
  refine ⟨fun right room => ?_, fun none => ?_⟩
  · exact (congrArg (fun x => SeatState.queue x[n]) seats').trans (State.postTo_chosen v body right room)
  · exact (congrArg (fun x => x[n]) seats').trans (State.postTo_other v body none)

theorem State.sameOutside_endUnpark (s : State) (body : NoticeBody) (image : Image) :
    s.SameOutside (s.endUnpark body image) :=
  .trans (by constructor <;> rfl) (State.sameOutside_grantTest _)

section
variable {s : State} {dt : Nat} (h : s.Attentive) (job : s.store.job = .unparking)
include h job

theorem exec_unparkWriteCompletion : exec (.unparkWriteCompletion dt) s = .next
    ((s.later dt).endUnpark (.storeDone .unparkWrite) { s.store.image with parked := false, valid := true }) := by
  refine congrArg Host.Outcome.next (State.onEvent_eq h ?_ (State.sameOutside_endUnpark ..).link)
  simp only [State.later_store, job]

theorem exec_unparkWriteFailure : exec (.unparkWriteFailure dt) s = .next
    (({ s.later dt with freeCount := s.freeCount + 1 }).endUnpark (.storeFailed .unparkWrite)
      (s.store.image.halfUnparked s.freeCount)) := by
  refine congrArg Host.Outcome.next (State.onEvent_eq h ?_ (State.sameOutside_endUnpark ..).link)
  simp only [State.later_store, job]
  rfl

/-- Both ends of an unpark write, by the grant test that they make (R118, R158). -/
theorem unparkWrite_ends {u : State} (tested : s.unparkFreed.TestedTo (s.now + dt) u) :
    (∃ t, exec (.unparkWriteCompletion dt) s = .next t ∧ t.store.job = .idle ∧
      t.store.image = { s.store.image with parked := false, valid := true } ∧ t.arbiter = u.arbiter ∧
      s.ToldCommitters t (.storeDone .unparkWrite) (s.now + dt) ∧ t.closures = u.closures) ∧
    (∃ t, exec (.unparkWriteFailure dt) s = .next t ∧ t.store.job = .idle ∧ t.store.image.valid = false ∧
      t.arbiter = u.arbiter ∧ s.ToldCommitters t (.storeFailed .unparkWrite) (s.now + dt) ∧
      t.closures = u.closures) := by
  refine ⟨⟨_, exec_unparkWriteCompletion h job, State.endUnpark_spec (v := s.later dt) tested rfl rfl rfl rfl _ _⟩, ?_⟩
  obtain ⟨idle, image, rest⟩ := State.endUnpark_spec (v := { s.later dt with freeCount := s.freeCount + 1 }) tested
    rfl rfl rfl rfl (.storeFailed .unparkWrite) (s.store.image.halfUnparked s.freeCount)
  exact ⟨_, exec_unparkWriteFailure h job, idle, (congrArg Image.valid image).trans rfl, rest⟩

end

/-! A commit with an unpark wait for the store (R118). -/

section
variable {s : State} {dt : Nat} {n : SeatId} {park : Bool} {captured : Image} (h : s.Attentive)
  (job : s.store.job = .committing n park captured)

/-- A store notice reached one seat alone. -/
abbrev State.ToldSeat (s t : State) (n : SeatId) (body : NoticeBody) (time : Nat) : Prop :=
  t.seats[n].queue = s.seats[n].queue ++ [{ body := body, time := time }] ∧
  ∀ j : SeatId, j ≠ n → t.seats[j] = s.seats[j]

/-- The profiles of `t` are those of `u` with the marks that the end of a commit gives them (R47). -/
abbrev State.Profiled (s u t : State) (completed : Bool) : Prop :=
  ∀ k : ClosureId, t.closures[k] = { u.closures[k] with profile := { u.closures[k].profile with
    dirty := s.closures[k].profile.dirty && !(completed && s.closures[k].profile.capture), capture := false } }

theorem State.toldSeat_of_seats {t : State} {body : NoticeBody} (room : s.seats[n].queue.length < 16)
    (seats : t.seats = ((s.later dt).postSeat n body).seats) : s.ToldSeat t n body (s.now + dt) := by
  simp only [State.ToldSeat, seats]
  exact ⟨(s.later dt).postTo_chosen body (decide_eq_true rfl) room,
    fun _ hj => (s.later dt).postTo_other body (decide_eq_false hj)⟩

variable (wait : s.arbiter.unparkWait = .waitingForStore) (room : s.seats[n].queue.length < 16)
include h job wait room

theorem commitFailure_frees {u : State} (tested : s.unparkFreed.TestedTo (s.now + dt) u) :
    ∃ t, exec (.commitFailure dt) s = .next t ∧ t.store.job = .idle ∧ t.store.image.valid = false ∧
      t.arbiter = u.arbiter ∧ s.ToldSeat t n (.storeFailed (commitOp park)) (s.now + dt) ∧ s.Profiled u t false := by
  obtain ⟨arbiter, closures, seats, store⟩ := State.commitOver_frees wait tested n (.storeFailed (commitOp park)) false
    (s.store.image.torn park s.freeCount) (s.freeCount + 1)
  exact ⟨_, exec_commitFailure h job rfl, congrArg Store.job store, congrArg (fun x => x.image.valid) store, arbiter,
    State.toldSeat_of_seats room seats, closures⟩

theorem commitCompletion_frees {u : State} (tested : s.unparkFreed.TestedTo (s.now + dt) u) (keeps : park = false) :
    ∃ t, exec (.commitCompletion dt) s = .next t ∧ t.store.job = .idle ∧
      t.store.image = { captured with positions := s.store.image.positions, parked := false, valid := true } ∧
      t.arbiter = u.arbiter ∧ s.ToldSeat t n (.storeDone (commitOp park)) (s.now + dt) ∧ s.Profiled u t true := by
  subst keeps
  obtain ⟨arbiter, closures, seats, store⟩ := State.commitOver_frees wait tested n (.storeDone (commitOp false)) true
    (s.store.image.committed captured false) s.freeCount
  exact ⟨_, exec_commitCompletion h job rfl, congrArg Store.job store, congrArg Store.image store, arbiter,
    State.toldSeat_of_seats room seats, closures⟩

/-- A parking commit that completes with unpark pending is followed by the unpark write at once. -/
theorem commitCompletion_unparks (parks : park = true) (pending : s.arbiter.unparkPending = true) :
    ∃ t, exec (.commitCompletion dt) s = .next t ∧ t.store.job = .unparking ∧
      t.store.image = { captured with parked := true, valid := false } ∧
      t.arbiter = { s.arbiter with unparkWait := .writing } ∧
      s.ToldSeat t n (.storeDone (commitOp park)) (s.now + dt) ∧ s.Profiled s t true := by
  subst parks
  exact ⟨_, exec_commitCompletion h job (State.commitEnded_writes _ wait (pending : (true && _) = true)),
    rfl, rfl, rfl, State.toldSeat_of_seats room rfl, fun _ => Vector.getElem_ofFn _⟩

end

/-- Settles O58: each end of a write, then the unpark wait by the state of unpark pending and of the slot queue. -/
theorem storeWritesEnd : Obligations.StoreWritesEnd := by
  refine ⟨fun dt n park captured s h job wait room => ⟨?_, ?_⟩, fun dt s h job => ⟨fun empty => ?_,
    fun e rest m queue hm runs slotless one => ?_⟩, fun dt n park captured s h job wait room => ⟨fun parks pending => ?_,
    fun empty => ?_, fun e rest m queue hm runs slotless one => ?_⟩⟩
  · refine ⟨_, exec_commitCompletion h job (State.commitEnded_unawaited _ wait), rfl, rfl,
      (State.toldSeat_of_seats room rfl).1, rfl, fun k => ?_⟩
    rw [State.commitOver_closure]
    exact ⟨rfl, rfl, rfl, rfl, rfl⟩
  · refine ⟨_, exec_commitFailure h job (State.commitEnded_unawaited _ wait), rfl, rfl, fun keeps => ?_,
      (State.toldSeat_of_seats room rfl).1, rfl, fun k => ?_⟩
    · subst keeps
      rfl
    · rw [State.commitOver_closure]
      exact ⟨Bool.and_true _, rfl, rfl, rfl⟩
  · exact unparkWrite_ends h job (.still empty)
  · exact unparkWrite_ends h job (.grants queue hm runs slotless one)
  · exact commitCompletion_unparks h job wait room parks pending
  · exact ⟨commitFailure_frees h job wait room (.still empty), commitCompletion_frees h job wait room (.still empty)⟩
  · have tested : s.unparkFreed.TestedTo (s.now + dt) _ := .grants queue hm runs slotless one
    exact ⟨commitFailure_frees h job wait room tested, commitCompletion_frees h job wait room tested⟩

end Sys2Proof.Machine
end

section
/-! PROOFS. The statistics, the profile and the follow-on at the end of settling (R51, R54, R55, R103, R140, R141). -/
namespace Sys2Proof.Machine

/-! Statistics (R139 to R141). -/

theorem StatCounters.countReason_eq (c : StatCounters) (r : EndReason) : c.countReason r =
    { c with
      closed := if r = .closed then countUp c.closed else c.closed
      reversals :=
        if r = .pinchReversed ∨ r = .stallReversed ∨ r = .reversalBlocked then countUp c.reversals else c.reversals
      obstructions := if r = .openObstructed then countUp c.obstructions else c.obstructions
      lapses := if r = .holdLapsed then countUp c.lapses else c.lapses
      dirFaults := if r = .directionFault then countUp c.dirFaults else c.dirFaults } := by
  cases r <;> rfl

/-- Time added to the run time saturates it, and a saturated run time keeps no remainder (R141; log entry 13). -/
theorem Stats.addTime_eq (x : Stats) (ms : Nat) :
    let units := x.counters.runTime + (x.remainder + ms) / 100
    x.addTime ms =
      { counters := { x.counters with runTime := min 4294967295 units }
        remainder := if 4294967295 ≤ units then 0 else (x.remainder + ms) % 100 } := by
  intro units
  by_cases full : 4294967295 ≤ units
  · rw [min_eq_left full, if_pos full]
    exact if_pos full
  · rw [min_eq_right (not_le.mp full).le, if_neg full]
    exact if_neg full

theorem Stats.settleEnd_eq (x : Stats) (o : OutcomeRecord) (ms : Nat) :
    x.settleEnd o ms = x.afterEnd o.reason o.peak.load ms := by
  simp only [Stats.settleEnd, Stats.addTime_eq, StatCounters.countReason_eq]
  rfl

/-! The profile (R51, R54, R55). -/

theorem ClosureState.readiness_eq_full (c : ClosureState) :
    c.readiness = .full ↔ c.counter.validity = .valid ∧ c.profile.status = .learned := by
  rw [c.readiness_eq]
  cases c.counter.validity <;> cases c.profile.status <;> simp

theorem State.adaptsAt_iff (s : State) (c : ClosureState) (m : Move) (r : EndReason) :
    c.adapts m r s.roughness s.front.temperature = true ↔ s.AdaptsAt c m r := by
  simp only [ClosureState.adapts, Bool.and_eq_true, Bool.or_eq_true, decide_eq_true_eq, Bool.not_eq_true',
    Option.isNone_iff_eq_none, c.readiness_eq_full, State.AdaptsAt, and_assoc, or_assoc]
  rfl

/-- The zones after a learning run (R51): each sampled one by its own trace, each above the highest sampled one by that
one's. -/
theorem ClosureState.learn_learnedFrom (c : ClosureState) : c.learn.LearnedFrom c := by
  refine ⟨rfl, rfl, rfl, rfl, rfl, fun z counted => ?_, fun h counted above z hz => ?_⟩
  · have sampled := (c.est.sampled_iff z).mpr counted
    simp only [ClosureState.learn, Profile.changed, Estimator.learnedZones, Fin.getElem_fin, Vector.getElem_ofFn, sampled,
      if_true]
    rfl
  · have unsampled : ∀ y : Fin 64, h < y → c.est.sampled y = false := by
      intro y hy
      rw [Bool.eq_false_iff, Ne, c.est.sampled_iff, above y hy]
      decide
    have sampled := (c.est.sampled_iff h).mpr counted
    have highest : c.est.highest = some h := by
      rcases Option.eq_none_or_eq_some c.est.highest with none | ⟨g, hg⟩
      · exact absurd (Estimator.highest_eq_none none h) (by rw [sampled]; decide)
      · obtain ⟨top, beyond⟩ := Estimator.highest_spec hg
        rcases lt_trichotomy g h with low | rfl | high
        · exact absurd (beyond h low) (by rw [sampled]; decide)
        · exact hg
        · exact absurd (unsampled g high) (by rw [top]; decide)
    simp only [ClosureState.learn, Profile.changed, Estimator.learnedZones, Fin.getElem_fin, Vector.getElem_ofFn,
      unsampled z hz, highest, hz, if_true, Bool.false_eq_true, if_false]
    rfl

/-- An adaptation, zone by zone (R55). -/
theorem ClosureState.adapt_adaptedFrom (c : ClosureState) : c.adapt.AdaptedFrom c := by
  by_cases same : (Vector.ofFn fun z : Fin 64 => c.profile.zones[z].adapt c.est.trace[z]) = c.profile.zones
  · have kept : c.adapt = c := by simp only [ClosureState.adapt, if_pos same]
    rw [kept]
    refine ⟨fun z => ?_, rfl, rfl, rfl, fun ⟨z, ne⟩ => absurd rfl ne, fun _ => ⟨rfl, rfl⟩⟩
    rw [← Vector.getElem_ofFn (f := fun z : Fin 64 => c.profile.zones[z].adapt c.est.trace[z]) z.isLt]
    simp only [same]
    rfl
  · have adapted : c.adapt = { c with profile := { c.profile with
        zones := Vector.ofFn fun z : Fin 64 => c.profile.zones[z].adapt c.est.trace[z]
        dirty := true
        capture := false } } := by simp only [ClosureState.adapt, if_neg same, Profile.changed]
    rw [adapted]
    refine ⟨fun z => Vector.getElem_ofFn _, rfl, rfl, rfl, fun _ => ⟨rfl, rfl⟩, fun all => absurd ?_ same⟩
    exact Vector.ext fun i hi => all ⟨i, hi⟩

/-- What the profile memory does at a settle end changes the profile and the verdict unit alone. -/
theorem ClosureState.profileAtEnd_form (c : ClosureState) (m : Move) (r : EndReason) (roughness : Byte) (t : Int) :
    ∃ p v, c.profileAtEnd m r roughness t = { c with profile := p, verdict := v } := by
  unfold ClosureState.profileAtEnd
  split
  · exact ⟨_, _, rfl⟩
  · split
    · unfold ClosureState.adapt
      dsimp only
      split
      · exact ⟨_, _, rfl⟩
      · exact ⟨_, _, rfl⟩
    · exact ⟨_, _, rfl⟩

/-! The closure at the end of settling (R103, operations 2 and 3). -/

/-- A closure whose ended move is counted, while its statistics are enabled (R103, operation 2; R140). -/
def ClosureState.counted (c : ClosureState) (k : ClosureId) (m : Move) (r : EndReason) (now : Nat) : ClosureState :=
  { c with stats := if c.desc.statsOn then c.stats.settleEnd (c.settledOutcome k m r now false) (c.ctx.runMs now)
                    else c.stats }

/-- A closure after operations 2 and 3 of R103: its ended move counted, and taken into its profile. -/
def State.closureAtEnd (s : State) (c : ClosureState) (k : ClosureId) (m : Move) (r : EndReason) : ClosureState :=
  (c.counted k m r s.now).profileAtEnd m r s.roughness s.front.temperature

section
variable (s : State) (c : ClosureState) (k : ClosureId) (m : Move) (r : EndReason)

theorem State.closureAtEnd_kept :
    (s.closureAtEnd c k m r).desc = c.desc ∧ (s.closureAtEnd c k m r).counter = c.counter ∧
    (s.closureAtEnd c k m r).sense = c.sense ∧ (s.closureAtEnd c k m r).est = c.est ∧
    (s.closureAtEnd c k m r).stats = (if c.desc.statsOn then
      c.stats.afterEnd r (c.settledOutcome k m r s.now false).peak.load (c.ctx.runMs s.now) else c.stats) := by
  obtain ⟨p, v, form⟩ := (c.counted k m r s.now).profileAtEnd_form m r s.roughness s.front.temperature
  rw [State.closureAtEnd, form]
  refine ⟨rfl, rfl, rfl, rfl, ?_⟩
  simp only [ClosureState.counted, Stats.settleEnd_eq]
  rfl

variable {r}

theorem State.closureAtEnd_learned (done : r = .learnDone) : (s.closureAtEnd c k m r).LearnedFrom c := by
  rw [State.closureAtEnd, ClosureState.profileAtEnd, if_pos done]
  exact (c.counted k m r s.now).learn_learnedFrom

theorem State.closureAtEnd_adapted (other : r ≠ .learnDone) (adapts : s.AdaptsAt c m r) :
    (s.closureAtEnd c k m r).AdaptedFrom c := by
  have gates := (s.adaptsAt_iff (c.counted k m r s.now) m r).mpr adapts
  rw [State.closureAtEnd, ClosureState.profileAtEnd, if_neg other, if_pos gates]
  exact (c.counted k m r s.now).adapt_adaptedFrom

theorem State.closureAtEnd_left (other : r ≠ .learnDone) (adapts : ¬ s.AdaptsAt c m r) :
    (s.closureAtEnd c k m r).profile = c.profile ∧ (s.closureAtEnd c k m r).verdict = c.verdict := by
  have gates := mt (s.adaptsAt_iff (c.counted k m r s.now) m r).mp adapts
  rw [State.closureAtEnd, ClosureState.profileAtEnd, if_neg other, if_neg gates]
  exact ⟨rfl, rfl⟩

end

/-! The checks of a follow-on (R103, operation 5). -/

theorem Kind.not_allowedAt_iff (kind : Kind) (c : ClosureState) : (!kind.allowedAt c.readiness) = true ↔
    (kind = .oneTouch ∨ kind = .global) ∧ ¬ (c.counter.validity = .valid ∧ c.profile.status = .learned) ∨
      kind = .learn ∧ c.counter.validity = .lost := by
  rw [c.readiness_eq]
  cases kind <;> cases c.counter.validity <;> cases c.profile.status <;> decide

/-- The first of a list of checks that fails, check by check. -/
theorem map_find?_cons {α : Type} (x : α × Bool) (l : List (α × Bool)) :
    ((x :: l).find? fun y => y.2).map (·.1) = if x.2 then some x.1 else (l.find? fun y => y.2).map (·.1) := by
  cases hx : x.2 <;> simp [hx]

/-- The re-check of a follow-on is the list of its checks (R103). -/
theorem State.followOnRefusal_eq (s : State) (k : ClosureId) (x : ClosureState) (f : Move) :
    (s.withClosure k x).followOnRefusal k f = s.followOnCause k x f := by
  have locked : (s.withClosure k x).lockedOut k f = decide (f.origin = .seatSwitch ∧ hasMember s.words[0] k.val) := by
    simp only [State.lockedOut, Bool.decide_and, Bool.decide_eq_true]
    rfl
  have ready := Bool.decide_congr (f.kind.not_allowedAt_iff x)
  have escapes : x.escapeBars f =
      decide (x.verdict.escape ∧ f.direction = .closing ∧ (f.kind = .oneTouch ∨ f.kind = .global)) := by
    simp only [ClosureState.escapeBars, Bool.decide_and, Bool.decide_or, Bool.decide_eq_true, Bool.and_assoc]
  have supply : (s.withClosure k x).supplyBars f =
      decide (f.direction = .closing ∧ s.front.reading < s.settings.vMin) := by
    simp only [State.supplyBars, Bool.decide_and]
    rfl
  rw [Bool.decide_eq_true] at ready
  simp only [State.followOnRefusal, State.withClosure_self, locked, ready, escapes, supply, State.followOnCause,
    map_find?_cons, List.find?_nil, Option.map_none]


/-! The outcome (R105). -/

theorem ClosureState.settledOutcome_eq {c : ClosureState} {startPos : Int} {granted : Nat} {peak : Peak}
    {verdict : Option Peak} (pos : c.ctx.startPos = some startPos) (time : c.ctx.startTime = some granted)
    (hp : c.est.peak.getD { load := 0, pos := startPos } = peak)
    (hv : c.verdict.record.map (fun r => { load := r.load, pos := r.pos }) = verdict)
    (k : ClosureId) (m : Move) (r : EndReason) (now : Nat) (started : Bool) : c.settledOutcome k m r now started =
      { closure := k, move := m, reason := r, endedBy := c.ctx.endedBy, startPos := startPos
        endPos := c.counter.position, peak := peak, stepCount := c.ctx.stepCount
        travelTime := min 65535 ((now - granted) / 1000), minSupply := c.est.minSupply, verdict := verdict
        longRunOn := c.ctx.longRunOn, followOnStarted := started } := by
  simp only [ClosureState.settledOutcome, Context.runMs, pos, time, Option.getD_some, hp, hv]
  rfl

end Sys2Proof.Machine
end

section
/-! PROOFS. An arrival in the slot queue and the grant test that follows it (R88, R92, R110, R111). -/
namespace Sys2Proof.Machine

theorem queuedContext_eq (now holdUnits : Nat) (m : Move) : queuedContext now holdUnits m = .arrived m now holdUnits := by
  simp only [queuedContext, Context.arrived]
  cases m.kind <;> rfl

/-- A move has reached its target at its grant exactly when the closure's position has (R92, R93): a NORMALISE move, which
starts from 0 at a LOST position, has no target. -/
theorem Move.reached_grantPosition_iff (m : Move) (c : ClosureState) : m.reached (c.grantPosition m) = true ↔
    m.kind ≠ .learn ∧ m.kind ≠ .normalise ∧ ∃ p ∈ m.target,
      (m.direction = .closing ∧ c.counter.position ≤ p) ∨ (m.direction = .opening ∧ p ≤ c.counter.position) := by
  by_cases normalise : m.kind = .normalise
  · simp [Move.reached, Kind.toStop, normalise]
  · have position : c.grantPosition m = c.counter.position := if_neg fun h => normalise h.1
    rw [position]
    cases hk : m.kind <;> cases ht : m.target <;> cases hd : m.direction <;>
      simp_all [Move.reached, Kind.toStop]

section
variable (s : State) (k : ClosureId) (c : ClosureState) (f : Move)

/-- The closure that joins the slot queue with a move (R88). -/
def State.arrived : ClosureState := { c with ctx := .arrived f s.now s.seats[f.seat].record.holdUnits }

/-- The number of the next arrival (R110). -/
def Arbiter.nextNumber (a : Arbiter) : Nat := if a.queue = [] then 1 else a.lastArrival + 1

/-- A closure waits with a move, the slot queue and the last arrival number as given. -/
def State.waiting (queue : List QueueEntry) (number : Nat) : State :=
  { s.withClosure k (s.arrived c f) with arbiter := { s.arbiter with queue := queue, lastArrival := number } }

theorem State.waiting_self (queue : List QueueEntry) (number : Nat) :
    (s.waiting k c f queue number).closures[k] = s.arrived c f := State.withClosure_self s k _

theorem State.enqueue_eq : (s.withClosure k c).enqueue k f = s.waiting k c f
    ((s.withClosure k (s.arrived c f)).insertEntry { closure := k, arrival := s.arbiter.nextNumber } s.arbiter.queue)
    s.arbiter.nextNumber := by
  have number : (if s.arbiter.queue.isEmpty then 1 else s.arbiter.lastArrival + 1) = s.arbiter.nextNumber := by
    simp only [List.isEmpty_iff, Arbiter.nextNumber]
  simp only [State.enqueue, State.modCtx, State.modClosure_withClosure, queuedContext_eq]
  rw [← number]
  rfl

/-- With no slot free an arrival waits. -/
theorem State.enqueue_full (full : s.arbiter.effective ≤ s.arbiter.heldCount) :
    let t := ((s.withClosure k c).enqueue k f).grantTest
    t.closures = s.closures.set k (s.arrived c f) ∧
    t.arbiter = { s.arbiter with
      queue := t.insertEntry { closure := k, arrival := s.arbiter.nextNumber } s.arbiter.queue
      lastArrival := s.arbiter.nextNumber } ∧
    t.seats = s.seats ∧ t.store = s.store := by
  intro t
  have waits : t = (s.withClosure k c).enqueue k f := State.grantTest_full full
  have place := State.insertEntry_congr (s := s.withClosure k (s.arrived c f)) (t := t)
    (fun _ => by rw [waits, State.enqueue_eq]; rfl) { closure := k, arrival := s.arbiter.nextNumber } s.arbiter.queue
  rw [place, waits, State.enqueue_eq]
  exact ⟨rfl, rfl, rfl, rfl⟩

/-- With a slot free and nothing else waiting an arrival is granted at once. -/
theorem State.enqueue_free (empty : s.arbiter.queue = []) (free : s.SlotFree) :
    let t := ((s.withClosure k c).enqueue k f).grantTest
    let granted := (s.arrived c f).grantedAt f s.now s.front.reading
    let reached := f.reached (c.grantPosition f)
    t.closures = s.closures.set k
      (if reached then granted.settledAt s.now .targetReached none else granted.drivenAt s.now f.direction) ∧
    t.arbiter = { s.arbiter with held := s.arbiter.held.set k !reached, lastArrival := 1 } ∧
    t.seats = s.seats ∧ t.store = s.store := by
  intro t granted reached
  have number : s.arbiter.nextNumber = 1 := if_pos empty
  have arrived : (s.withClosure k c).enqueue k f = s.waiting k c f [{ closure := k, arrival := 1 }] 1 := by
    rw [State.enqueue_eq, number, empty]
    rfl
  have grants : t = (s.waiting k c f [{ closure := k, arrival := 1 }] 1).grant k :=
    (congrArg State.grantTest arrived).trans
      (State.grantTest_free (s := s.waiting k c f _ 1) (e := { closure := k, arrival := 1 }) (rest := []) rfl free)
  have self := State.waiting_self s k c f [{ closure := k, arrival := 1 }] 1
  have hm : (s.waiting k c f [{ closure := k, arrival := 1 }] 1).closures[k].ctx.move = some f := by rw [self]; rfl
  have position : (s.waiting k c f [{ closure := k, arrival := 1 }] 1).closures[k].grantPosition f = c.grantPosition f := by
    rw [self]
    rfl
  rw [grants]
  cases hr : reached with
  | false =>
    rw [State.grant_ahead hm (by rw [position]; exact hr), State.granted, self]
    simp [State.waiting, Arbiter.without, empty, granted]
  | true =>
    rw [State.grant_reached hm (by rw [position]; exact hr), self]
    simp [State.waiting, Arbiter.without, empty, granted]

/-- Closure `k` has arrived as `x` with the move `f`, and the grant test has followed (R88, R92, R111): it waits with no
slot free, and with a slot free it runs, or SETTLES at once when its target is reached. No other closure has changed. -/
abbrev State.ArrivesTo (s t : State) (k : ClosureId) (x : ClosureState) (f : Move) : Prop :=
  let granted := x.grantedAt f s.now s.front.reading
  let number := s.arbiter.nextNumber
  (s.arbiter.effective ≤ s.arbiter.heldCount → t.closures[k] = x ∧
    t.arbiter = { s.arbiter with
      queue := t.insertEntry { closure := k, arrival := number } s.arbiter.queue, lastArrival := number }) ∧
  (s.SlotFree → f.reached (x.grantPosition f) = false → t.closures[k] = granted.drivenAt s.now f.direction ∧
    t.arbiter = { s.arbiter with held := s.arbiter.held.set k true, lastArrival := 1 }) ∧
  (s.SlotFree → f.reached (x.grantPosition f) = true → t.closures[k] = granted.settledAt s.now .targetReached none ∧
    t.arbiter = { s.arbiter with held := s.arbiter.held.set k false, lastArrival := 1 }) ∧
  ∀ j : ClosureId, j ≠ k → t.closures[j] = s.closures[j]

/-- What an arrival with the grant test that follows it comes to, with no slot free or with a slot free and nothing else
waiting. -/
theorem State.enqueue_grantTest_spec
    (room : s.arbiter.effective ≤ s.arbiter.heldCount ∨ (s.arbiter.queue = [] ∧ s.SlotFree)) :
    let t := ((s.withClosure k c).enqueue k f).grantTest
    s.ArrivesTo t k (s.arrived c f) f ∧ t.seats = s.seats ∧ s.SameElsewhere t := by
  intro t
  have outside : s.SameOutside t :=
    (s.sameOutside_modClosure k fun _ => c).trans ((State.sameOutside_enqueue _ k f).trans (State.sameOutside_grantTest _))
  have elsewhere : t.seats = s.seats → t.store = s.store → s.SameElsewhere t := fun seats store =>
    ⟨outside.settings, outside.words, outside.window, store, outside.front, fun n => by rw [seats]⟩
  have others : ∀ x : ClosureState, t.closures = s.closures.set k x → t.closures[k] = x ∧
      ∀ j : ClosureId, j ≠ k → t.closures[j] = s.closures[j] := by
    intro x hx
    simp only [hx]
    exact ⟨s.withClosure_self k x, fun j => s.withClosure_other x⟩
  rcases room with full | ⟨empty, free⟩
  · obtain ⟨closures, arbiter, seats, store⟩ := s.enqueue_full k c f full
    obtain ⟨self, other⟩ := others _ closures
    have taken : ¬ s.SlotFree := fun free => Nat.not_lt.mpr full free.1
    exact ⟨⟨fun _ => ⟨self, arbiter⟩, fun free => absurd free taken, fun free => absurd free taken, other⟩, seats,
      elsewhere seats store⟩
  · obtain ⟨closures, arbiter, seats, store⟩ := s.enqueue_free k c f empty free
    obtain ⟨self, other⟩ := others _ closures
    refine ⟨⟨fun full => absurd free.1 (Nat.not_lt.mpr full), fun _ ahead => ?_, fun _ reached => ?_, other⟩, seats,
      elsewhere seats store⟩
    · have ahead : f.reached (c.grantPosition f) = false := ahead
      simpa only [ahead, Bool.false_eq_true, if_false, Bool.not_false] using And.intro self arbiter
    · have reached : f.reached (c.grantPosition f) = true := reached
      simpa only [reached, if_true, Bool.not_true] using And.intro self arbiter

end

end Sys2Proof.Machine
end

section
/-! PROOFS. The end of settling by its two timers (R102, R103, R105). -/
namespace Sys2Proof.Machine

/-! Notices (R130). -/

section
variable (s : State) (k : ClosureId) (body : NoticeBody) {n : SeatId} (room : s.seats[n].queue.length < 16)
include room

theorem State.postOwner_queue (owner : SeatId) : (s.postOwner k owner body).seats[n].queue = s.seats[n].queue ++
    if s.Hears k owner n then [{ body := body, time := s.now }] else [] := by
  obtain ⟨hears, deaf⟩ := State.told_of_seats (t := s.postOwner k owner body) rfl (s.hears_iff k owner) n
  split
  · exact (hears ‹_› room).1
  · rw [List.append_nil]
    exact (deaf ‹_›).1

theorem State.postSeat_queue (seat : SeatId) : (s.postSeat seat body).seats[n].queue = s.seats[n].queue ++
    if n = seat then [{ body := body, time := s.now }] else [] := by
  obtain ⟨hears, deaf⟩ := State.told_of_seats (t := s.postSeat seat body) (hears := fun n => n = seat) rfl
    (fun _ => decide_eq_true_iff) n
  split
  · exact (hears ‹_› room).1
  · rw [List.append_nil]
    exact (deaf ‹_›).1

end

theorem State.sameElsewhere_postTo (s : State) (chosen : SeatId → Bool) (body : NoticeBody) :
    s.SameElsewhere (s.postTo chosen body) := ⟨rfl, rfl, rfl, rfl, rfl, State.record_of_seats rfl⟩

theorem State.sameElsewhere_trans {s t u : State} (h : s.SameElsewhere t) (g : t.SameElsewhere u) : s.SameElsewhere u := by
  obtain ⟨h1, h2, h3, h4, h5, h6⟩ := h
  obtain ⟨g1, g2, g3, g4, g5, g6⟩ := g
  exact ⟨g1.trans h1, g2.trans h2, g3.trans h3, g4.trans h4, g5.trans h5, fun n => (g6 n).trans (h6 n)⟩

theorem State.postOwner_withClosure (s : State) (k : ClosureId) (c : ClosureState) (owner : SeatId) (body : NoticeBody) :
    (s.withClosure k c).postOwner k owner body = (s.postOwner k owner body).withClosure k c := rfl

/-! The end of settling (R103). -/

/-- A closure after operations 2 to 4 of R103: counted, its profile taken, its outcome kept. -/
def State.closureTold (s : State) (k : ClosureId) (c : ClosureState) (m : Move) (r : EndReason) (started : Bool) :
    ClosureState :=
  { s.closureAtEnd c k m r with lastOutcome := some (c.settledOutcome k m r s.now started) }

/-- The state after operations 2 to 4 of R103. -/
def State.settledTold (s : State) (k : ClosureId) (c : ClosureState) (m : Move) (r : EndReason) (started : Bool) : State :=
  (s.postOwner k m.seat (.moveEnded (c.settledOutcome k m r s.now started))).withClosure k (s.closureTold k c m r started)

/-- Operations 4 to 6 of R103, by the follow-on and what its checks come to. -/
def State.concludeSettling (s : State) (k : ClosureId) (c : ClosureState) (m : Move) (r : EndReason)
    (follow : Option (Move × Option DropCause)) : State :=
  let told := s.settledTold k c m r (decide (follow.map (·.2) = some none))
  match follow with
  | none => told.modClosure k ClosureState.toIdle
  | some (f, none) => (told.enqueue k f).grantTest
  | some (f, some why) => (told.postSeat f.seat (.followOnDropped k why f)).modClosure k ClosureState.toIdle

theorem State.settleEnd_eq (s : State) (k : ClosureId) {m : Move} {r : EndReason}
    (hm : s.closures[k].ctx.move = some m) (hr : s.closures[k].ctx.endReason = some r) :
    s.settleEnd k = s.concludeSettling k s.closures[k] m r (s.closures[k].ctx.followOn.map fun f =>
      (f, s.followOnCause k (s.closureAtEnd s.closures[k] k m r) f)) := by
  have learned : ((s.modClosure k fun x => x.counted k m r s.now).modClosure k fun x =>
      x.profileAtEnd m r s.roughness s.front.temperature) = s.withClosure k (s.closureAtEnd s.closures[k] k m r) := by
    rw [State.modClosure_eq s, State.modClosure_withClosure]
    rfl
  have told := fun o : OutcomeRecord => State.modClosure_withClosure (s.postOwner k m.seat (.moveEnded o)) k
    (s.closureAtEnd s.closures[k] k m r) fun x => { x with lastOutcome := some o }
  unfold ClosureState.counted at learned
  unfold State.settleEnd
  dsimp only
  rw [hm, hr]
  dsimp only
  rw [learned]
  simp only [State.followOnRefusal_eq, State.postOwner_withClosure, told]
  rfl

theorem State.settledTold_elsewhere (s : State) (k : ClosureId) (c : ClosureState) (m : Move) (r : EndReason)
    (started : Bool) : s.SameElsewhere (s.settledTold k c m r started) := s.sameElsewhere_postTo _ _

/-! The notices (R103, R105). -/

section
variable {s : State} {k : ClosureId} {c : ClosureState} {m : Move} {r : EndReason} {o : OutcomeRecord} {n : SeatId}

theorem State.settledTold_queue {started : Bool} (ho : c.settledOutcome k m r s.now started = o)
    (room : s.seats[n].queue.length < 15) : (s.settledTold k c m r started).seats[n].queue =
      s.seats[n].queue ++ if s.Hears k m.seat n then [{ body := .moveEnded o, time := s.now }] else [] := by
  subst ho
  exact s.postOwner_queue k _ (Nat.lt_succ_of_lt room) m.seat

/-- The seats after a follow-on has been dropped: MOVE_ENDED, then FOLLOW_ON_DROPPED at the follow-on's own. -/
theorem State.settledTold_dropped_queue (ho : c.settledOutcome k m r s.now false = o) (f : Move) (why : DropCause)
    (room : s.seats[n].queue.length < 15) :
    ((s.settledTold k c m r false).postSeat f.seat (.followOnDropped k why f)).seats[n].queue = s.seats[n].queue ++
      (if s.Hears k m.seat n then [{ body := .moveEnded o, time := s.now }] else []) ++
      if n = f.seat then [{ body := .followOnDropped k why f, time := s.now }] else [] := by
  have queue := State.settledTold_queue ho room
  have room' : (s.settledTold k c m r false).seats[n].queue.length < 16 := by
    rw [queue, List.length_append]
    split <;> simp only [List.length_nil, List.length_singleton] <;> omega
  rw [State.postSeat_queue _ _ room', queue]
  rfl

end

/-! The follow-on (R103, operations 5 and 6). -/

/-- Settling has ended with closure `k` IDLE as `x`: no slot has moved, and nothing else has changed but notices. -/
abbrev State.EndsIdle (s t : State) (k : ClosureId) (x : ClosureState) : Prop :=
  t.closures[k] = x ∧ t.arbiter = s.arbiter ∧ (∀ j : ClosureId, j ≠ k → t.closures[j] = s.closures[j]) ∧
  s.SameElsewhere t

theorem State.endsIdle_of {s w : State} {k : ClosureId} {x : ClosureState} (closures : w.closures = s.closures.set k x)
    (arbiter : w.arbiter = s.arbiter) (elsewhere : s.SameElsewhere w) :
    s.EndsIdle (w.modClosure k ClosureState.toIdle) k x.toIdle := by
  have self : w.closures[k] = x := by
    simp only [closures]
    exact s.withClosure_self k x
  refine ⟨by rw [State.modClosure_self, self], arbiter, fun j hj => ?_, elsewhere⟩
  rw [State.modClosure_other _ _ hj]
  simp only [closures]
  exact s.withClosure_other x hj

section
variable {s : State} {k : ClosureId} {c : ClosureState} {m f : Move} {r : EndReason}
  (hm : c.ctx.move = some m) (hr : c.ctx.endReason = some r)
include hm hr

theorem State.settleEnd_withClosure : (s.withClosure k c).settleEnd k =
    s.concludeSettling k c m r (c.ctx.followOn.map fun f => (f, s.followOnCause k (s.closureAtEnd c k m r) f)) := by
  have self := s.withClosure_self k c
  have told : ∀ started, (s.withClosure k c).settledTold k c m r started = s.settledTold k c m r started := fun started =>
    (s.postOwner k m.seat (.moveEnded (c.settledOutcome k m r s.now started))).withClosure_withClosure k c _
  rw [State.settleEnd_eq (m := m) (r := r) _ k (by rw [self]; exact hm) (by rw [self]; exact hr), self]
  simp only [State.concludeSettling, told]
  rfl

/-- The end of settling without a follow-on. -/
theorem State.settleEnd_alone (alone : c.ctx.followOn = none) :
    s.EndsIdle ((s.withClosure k c).settleEnd k) k (s.closureTold k c m r false).toIdle ∧
    ∀ (o : OutcomeRecord) (n : SeatId), c.settledOutcome k m r s.now false = o → s.seats[n].queue.length < 15 →
      ((s.withClosure k c).settleEnd k).seats[n].queue =
        s.seats[n].queue ++ if s.Hears k m.seat n then [{ body := .moveEnded o, time := s.now }] else [] := by
  have ended : (s.withClosure k c).settleEnd k = (s.settledTold k c m r false).modClosure k ClosureState.toIdle := by
    rw [State.settleEnd_withClosure hm hr, alone]
    rfl
  rw [ended]
  exact ⟨State.endsIdle_of rfl rfl (s.settledTold_elsewhere k c m r false), fun o n ho => State.settledTold_queue ho⟩

/-- The end of settling with a follow-on that a check drops. -/
theorem State.settleEnd_dropped {why : DropCause} (hf : c.ctx.followOn = some f)
    (fails : s.followOnCause k (s.closureAtEnd c k m r) f = some why) :
    s.EndsIdle ((s.withClosure k c).settleEnd k) k (s.closureTold k c m r false).toIdle ∧
    ∀ (o : OutcomeRecord) (n : SeatId), c.settledOutcome k m r s.now false = o → s.seats[n].queue.length < 15 →
      ((s.withClosure k c).settleEnd k).seats[n].queue = s.seats[n].queue ++
        (if s.Hears k m.seat n then [{ body := .moveEnded o, time := s.now }] else []) ++
        if n = f.seat then [{ body := .followOnDropped k why f, time := s.now }] else [] := by
  have ended : (s.withClosure k c).settleEnd k = ((s.settledTold k c m r false).postSeat f.seat
      (.followOnDropped k why f)).modClosure k ClosureState.toIdle := by
    rw [State.settleEnd_withClosure hm hr, hf, Option.map_some, fails]
    rfl
  rw [ended]
  have elsewhere : s.SameElsewhere ((s.settledTold k c m r false).postSeat f.seat (.followOnDropped k why f)) :=
    State.sameElsewhere_trans (s.settledTold_elsewhere k c m r false) (State.sameElsewhere_postTo _ _ _)
  exact ⟨State.endsIdle_of rfl rfl elsewhere, fun o n ho => State.settledTold_dropped_queue ho f why⟩

/-- A closure whose follow-on `f` has started at the end of settling, before a grant. -/
def State.closureStarted (s : State) (k : ClosureId) (c : ClosureState) (m : Move) (r : EndReason) (f : Move) :
    ClosureState :=
  s.arrived (s.closureTold k c m r true) f

/-- The end of settling with a follow-on that passes its checks, with no slot free or with a slot free and nothing else
waiting. -/
theorem State.settleEnd_follows (hf : c.ctx.followOn = some f)
    (passes : s.followOnCause k (s.closureAtEnd c k m r) f = none)
    (room : s.arbiter.effective ≤ s.arbiter.heldCount ∨ (s.arbiter.queue = [] ∧ s.SlotFree)) :
    s.ArrivesTo ((s.withClosure k c).settleEnd k) k (s.closureStarted k c m r f) f ∧
    s.SameElsewhere ((s.withClosure k c).settleEnd k) ∧
    ∀ (o : OutcomeRecord) (n : SeatId), c.settledOutcome k m r s.now true = o → s.seats[n].queue.length < 15 →
      ((s.withClosure k c).settleEnd k).seats[n].queue =
        s.seats[n].queue ++ if s.Hears k m.seat n then [{ body := .moveEnded o, time := s.now }] else [] := by
  have ended : (s.withClosure k c).settleEnd k = ((s.settledTold k c m r true).enqueue k f).grantTest := by
    rw [State.settleEnd_withClosure hm hr, hf, Option.map_some, passes]
    rfl
  have told := s.settledTold_elsewhere k c m r true
  have arrived : (s.postOwner k m.seat (.moveEnded (c.settledOutcome k m r s.now true))).arrived
      (s.closureTold k c m r true) f = s.closureStarted k c m r f := by
    obtain ⟨-, -, -, -, -, record⟩ := told
    exact congrArg (fun x : SeatRecord => { s.closureTold k c m r true with ctx := .arrived f s.now x.holdUnits })
      (record f.seat)
  obtain ⟨arrives, seats, still⟩ := State.enqueue_grantTest_spec
    (s.postOwner k m.seat (.moveEnded (c.settledOutcome k m r s.now true))) k (s.closureTold k c m r true) f room
  rw [arrived] at arrives
  rw [ended]
  exact ⟨arrives, State.sameElsewhere_trans told still, fun o n ho space =>
    (congrArg (fun v => v[n].queue) seats).trans (State.settledTold_queue ho space)⟩

end

/-! The timers of settling (R102). -/

/-- A closure with its long run-on mark as given. -/
def ClosureState.longRun (c : ClosureState) (long : Bool) : ClosureState :=
  { c with ctx := { c.ctx with longRunOn := long } }

section
variable {s : State} {dt due : Nat} {k : ClosureId} (h : s.Attentive) (settling : s.closures[k].ctx.state = .settling)
  (hd : due ≤ s.now + dt)
include h settling hd

theorem exec_quietTimerExpiry (timer : s.closures[k].ctx.quietTimer = some due) : exec (.quietTimerExpiry dt k) s =
    .next (((s.later dt).withClosure k (s.closures[k].longRun s.closures[k].ctx.longRunOn)).settleEnd k) := by
  have unchanged : (s.later dt).withClosure k (s.closures[k].longRun s.closures[k].ctx.longRunOn) = s.later dt :=
    (s.later dt).withClosure_present k
  rw [unchanged]
  refine congrArg Host.Outcome.next (State.onEvent_eq h ?_ (State.sameOutside_settleEnd (s.later dt) k).link)
  simp only [State.later_closures, State.later_now, timer, isDue_of_le hd, settling, and_self, if_true]

theorem exec_limitTimerExpiry (timer : s.closures[k].ctx.limitTimer = some due) : exec (.limitTimerExpiry dt k) s =
    .next (((s.later dt).withClosure k (s.closures[k].longRun true)).settleEnd k) := by
  refine congrArg Host.Outcome.next (State.onEvent_eq h ?_ (State.sameOutside_settleEnd _ k).link)
  simp only [State.later_closures, State.later_now, timer, isDue_of_le hd, settling, and_self, if_true]
  rfl

end

/-- What the end of settling leaves of a closure besides its context, its counter and its last outcome: the statistics
(R140, R141) and the profile with the verdict unit (R51, R54, R55). -/
abbrev ClosureState.TakenFrom (x c : ClosureState) (s : State) (m : Move) (r : EndReason) (peak ms : Nat) : Prop :=
  x.stats = (if c.desc.statsOn then c.stats.afterEnd r peak ms else c.stats) ∧
  (r = .learnDone → x.LearnedFrom c) ∧
  (r ≠ .learnDone → s.AdaptsAt c m r → x.AdaptedFrom c) ∧
  (r ≠ .learnDone → ¬ s.AdaptsAt c m r → x.profile = c.profile ∧ x.verdict = c.verdict) ∧
  x.desc = c.desc ∧ x.est = c.est ∧ x.sense = c.sense

theorem State.closureAtEnd_taken (s : State) {c : ClosureState} {startPos : Int} {granted : Nat} {peak : Peak}
    (pos : c.ctx.startPos = some startPos) (time : c.ctx.startTime = some granted)
    (hp : c.est.peak.getD { load := 0, pos := startPos } = peak) (k : ClosureId) (m : Move) (r : EndReason) :
    (s.closureAtEnd c k m r).TakenFrom c s m r peak.load ((s.now - granted) / 1000) := by
  obtain ⟨desc, -, sense, est, stats⟩ := s.closureAtEnd_kept c k m r
  have run : c.ctx.runMs s.now = (s.now - granted) / 1000 := by
    rw [Context.runMs, time]
    rfl
  rw [ClosureState.settledOutcome_eq pos time hp rfl, run] at stats
  exact ⟨stats, s.closureAtEnd_learned c k m, s.closureAtEnd_adapted c k m, s.closureAtEnd_left c k m, desc, est, sense⟩

theorem State.closureTold_counter (s : State) (k : ClosureId) (c : ClosureState) (m : Move) (r : EndReason)
    (started : Bool) : (s.closureTold k c m r started).counter = c.counter := by
  obtain ⟨-, counter, -⟩ := s.closureAtEnd_kept c k m r
  exact counter

/-- Settles O52: an expiry that is due ends settling. The closure after operations 2 to 4 of R103 is IDLE without a
follow-on or with one that a check drops, and has arrived with one that passes its checks. -/
theorem settlingEnds : Obligations.SettlingEnds := by
  intro dt due granted startPos k m reason s h c now settling hm hr pos time hd room ms peak ends
  have hp : c.est.peak.getD { load := 0, pos := startPos } = peak := by
    simp only [peak]
    cases c.est.peak <;> rfl
  have hv : ∀ x : Option VerdictRecord, x.map (fun r => ({ load := r.load, pos := r.pos } : Peak)) =
      (match x with | some r => some { load := r.load, pos := r.pos } | none => none) := by
    rintro (_ | r) <;> rfl
  have key : ∀ i long,
      exec i s = .next (((s.later dt).withClosure k (c.longRun long)).settleEnd k) → ends i long := by
    intro i long run
    have outcome := ClosureState.settledOutcome_eq (c := c.longRun long) pos time hp (hv _) k m reason now
    have taken := (s.later dt).closureAtEnd_taken (c := c.longRun long) pos time hp k m reason
    have counter := (s.later dt).closureTold_counter k (c.longRun long) m reason
    have idle := fun started => congrArg (fun x : Counter => { x with phaseFaults := 0 }) (counter started)
    obtain ⟨stats, learned, adapted, left, desc, est, sense⟩ := taken
    simp only [ends]
    cases hf : c.ctx.followOn with
    | none =>
      obtain ⟨⟨self, arbiter, other, still⟩, queue⟩ :=
        State.settleEnd_alone (s := s.later dt) (c := c.longRun long) hm hr hf
      refine ⟨_, ((s.later dt).closureTold k (c.longRun long) m reason false).toIdle, run, congrArg some (outcome false),
        stats, learned, adapted, left, desc, est, sense, fun n space => ?_, nofun,
        fun _ => ⟨self, rfl, idle false, arbiter⟩, other, still⟩
      rw [List.append_nil]
      exact queue _ n (outcome false) space
    | some f =>
      cases hw : s.followOnCause k ((s.later dt).closureAtEnd (c.longRun long) k m reason) f with
      | some why =>
        obtain ⟨⟨self, arbiter, other, still⟩, queue⟩ :=
          State.settleEnd_dropped (s := s.later dt) (c := c.longRun long) hm hr hf hw
        have cause : s.followOnCause k ((s.later dt).closureTold k (c.longRun long) m reason false).toIdle f =
          some why := hw
        refine ⟨_, ((s.later dt).closureTold k (c.longRun long) m reason false).toIdle, run, ?_,
          stats, learned, adapted, left, desc, est, sense, ?_, ?_,
          fun _ => ⟨self, rfl, idle false, arbiter⟩, other, still⟩
        · simp only [cause]
          exact congrArg some (outcome false)
        · simp only [cause]
          exact fun n space => queue _ n (outcome false) space
        · rintro g hg pass
          obtain rfl := Option.some.inj hg
          exact absurd (cause.symm.trans pass) nofun
      | none =>
        obtain ⟨⟨waits, runs, reaches, other⟩, still, queue⟩ :=
          State.settleEnd_follows (s := s.later dt) (c := c.longRun long) hm hr hf hw (room (by rw [hf]; rfl))
        have cause : s.followOnCause k ((s.later dt).closureStarted k (c.longRun long) m reason f) f = none := hw
        refine ⟨_, (s.later dt).closureStarted k (c.longRun long) m reason f, run, ?_,
          stats, learned, adapted, left, desc, est, sense, ?_, ?_, fun dropped => absurd cause (dropped f rfl), other,
          still⟩
        · simp only [cause]
          exact congrArg some (outcome true)
        · simp only [cause, List.append_nil]
          exact fun n space => queue _ n (outcome true) space
        · rintro g hg -
          obtain rfl := Option.some.inj hg
          have atTarget := f.reached_grantPosition_iff ((s.later dt).closureTold k (c.longRun long) m reason true)
          rw [counter true] at atTarget
          refine ⟨rfl, counter true, waits, fun free ahead => runs free ?_, fun free reached => reaches free ?_⟩
          · exact Bool.eq_false_iff.mpr (mt atTarget.mp ahead)
          · exact atTarget.mpr reached
  exact ⟨fun timer => key _ _ (exec_quietTimerExpiry h settling hd timer),
    fun timer => key _ _ (exec_limitTimerExpiry h settling hd timer)⟩

end Sys2Proof.Machine
end

section
/-! PROOFS. The applied threshold (R62 to R65). -/
namespace Sys2Proof.Machine

/-! The pinch region and the base (R6, R62). -/

section
variable (c : ClosureState) (pos : Int)

theorem ClosureState.inPinchRegion_iff : c.inPinchRegion pos = true ↔
    c.counter.validity = .lost ∨ ((c.desc.endBand : Int) < pos ∧ pos ≤ c.desc.pinchLimit) := by
  unfold ClosureState.inPinchRegion
  cases c.counter.validity <;> simp

/-- The base of a closing comparison (R62): the path's, and on the profile path the region's. -/
theorem ClosureState.thresholdBase_closing (path : Path) : c.thresholdBase .closing path pos =
    match path with
    | .fallback => c.desc.thFallback
    | .profile =>
      if c.counter.validity = .lost ∨ ((c.desc.endBand : Int) < pos ∧ pos ≤ c.desc.pinchLimit) then c.desc.thPinch
      else c.desc.thFree := by
  cases path with
  | fallback => rfl
  | profile => exact if_congr (c.inPinchRegion_iff pos) rfl rfl

end

/-! The composition (R65). -/

section
variable (s : State) (k : ClosureId) (path : Path) (pos : Int)

/-- Base and allowances of a comparison together, clamped to 2,047 LU, before the pinch ceiling (R62 to R65). -/
def State.thresholdSum (d : Direction) : Nat :=
  min 2047 (s.closures[k].thresholdBase d path pos + temperatureAllowance s.front.temperature +
    s.roughnessAllowance s.closures[k].desc)

theorem State.threshold_opening : s.threshold k .opening path pos = s.thresholdSum k path pos .opening := rfl

variable {s k pos}

theorem State.threshold_free (free : ¬ s.closures[k].inPinchRegion pos = true) :
    s.threshold k .closing path pos = s.thresholdSum k path pos .closing := if_neg free

theorem State.threshold_pinch (pinch : s.closures[k].inPinchRegion pos = true) : s.threshold k .closing path pos =
    if s.closures[k].verdict.escape then s.closures[k].desc.thCeiling
    else min s.closures[k].desc.thCeiling (s.thresholdSum k path pos .closing) := if_pos pinch

/-- No closing comparison in the pinch region passes the ceiling (R65). -/
theorem State.threshold_le_ceiling (pinch : s.closures[k].inPinchRegion pos = true) :
    s.threshold k .closing path pos ≤ s.closures[k].desc.thCeiling := by
  rw [State.threshold_pinch path pinch]
  split
  · exact le_rfl
  · exact min_le_left _ _

end

/-- Settles O18: each direction and region has the clamped sum, in the pinch region under the ceiling. -/
theorem thresholdComposition : Obligations.ThresholdComposition := by
  intro s k path pos c t temp rough inPinch base
  have region : c.inPinchRegion pos = true ↔ inPinch := c.inPinchRegion_iff pos
  have sum : s.thresholdSum k path pos .closing = min 2047 (base + temp + rough) :=
    congrArg (fun b => min 2047 (b + temp + rough)) (c.thresholdBase_closing pos path)
  refine ⟨State.threshold_opening s k path pos, fun pinch escape => ?_, fun pinch confined => ?_, fun free => ?_,
    fun pinch => State.threshold_le_ceiling path (region.mpr pinch)⟩
  · exact (State.threshold_pinch path (region.mpr pinch)).trans (if_pos escape)
  · rw [State.threshold_pinch path (region.mpr pinch), sum]
    exact if_neg (Bool.eq_false_iff.mp confined)
  · rw [State.threshold_free path (region.not.mpr free), sum]

end Sys2Proof.Machine
end

section
/-! PROOFS. Reversals: what a verdict on a closing move leaves (R67, R72), the verdicts of a stall (R68) and of a
confirmed load (R66), and the end of the brake phase (R76). -/
namespace Sys2Proof.Machine

/-! The reversal (R72). -/

section
variable {x : ClosureState} {m : Move}

theorem State.startReversal_reversedAt (u : State) (k : ClosureId) (r : VerdictRecord)
    (running : x.ctx.state = .running) (hm : x.ctx.move = some m) (closing : m.direction = .closing) :
    ((u.withClosure k x).startReversal k m r).closures = u.closures.set k (x.reversedAt r u.now) :=
  (State.startReversal_closures u k m r).trans (congrArg (u.closures.set k)
    (ClosureState.beginReversal_fillRecord r u.now x.verdict.lastThreshold running hm closing))

/-- A reversal turns its own closure, tells the owner and the subscribers, and leaves the rest (R72, R130). -/
theorem State.startReversal_spec (s : State) (dt : Nat) (k : ClosureId) (r : VerdictRecord)
    (running : x.ctx.state = .running) (hm : x.ctx.move = some m) (closing : m.direction = .closing) :
    let t := ((s.later dt).withClosure k x).startReversal k m r
    t.closures = s.closures.set k (x.reversedAt r (s.now + dt)) ∧ t.arbiter = s.arbiter ∧
      s.Told t (s.Hears k m.seat) (.pinch k r) (s.now + dt) ∧ s.SameElsewhere t := by
  intro t
  have seats : t.seats = ((s.later dt).postTo (fun n => decide (n = m.seat) || s.subscribes k n) (.pinch k r)).seats :=
    rfl
  exact ⟨State.startReversal_reversedAt (s.later dt) k r running hm closing, rfl,
    State.told_of_seats (s := s.later dt) seats (s.hears_iff k m.seat), rfl, rfl, rfl, rfl, rfl,
    State.record_of_seats (s := s.later dt) seats⟩

end

/-! The verdict of a stall (R67, R68). -/

/-- A closing stall that R68 makes a verdict is no closed-end stall. -/
theorem ClosureState.atClosedEnd_eq_false {c : ClosureState} {kind : Kind}
    (h : (c.desc.endBand : Int) < c.counter.position ∨ (c.counter.validity = .lost ∧ kind ≠ .normalise)) :
    c.atClosedEnd kind = false := by
  unfold ClosureState.atClosedEnd ClosureState.inEndBand
  rcases h with above | ⟨lost, kind⟩
  · simp [not_le.mpr above]
  · simp [lost, kind]

theorem ClosureState.stallLoad_eq (c : ClosureState) :
    c.stallLoad = if c.est.rawList = [] then 0 else c.est.published :=
  if_congr List.isEmpty_iff rfl rfl

section
variable {u : State} {k : ClosureId} {c : ClosureState} {m : Move}

/-- The record that a stall of a closing move fills, where R6 gives its position a region (R67). -/
theorem State.classifyStall_verdict (run : c.ctx.state = .running) (hm : c.ctx.move = some m)
    (dir : m.direction = .closing) (driven : c.ctx.permit = .drive .closing)
    (blocked : (c.desc.endBand : Int) < c.counter.position ∨ (c.counter.validity = .lost ∧ m.kind ≠ .normalise)) :
    (u.withClosure k c).classifyStall k = (u.withClosure k c).startReversal k m
      { cause := .stall, pos := c.counter.position, load := if c.est.rawList = [] then 0 else c.est.published
        threshold := (u.withClosure k c).threshold k .closing (c.pathToward .closing) c.counter.position
        region :=
          if c.counter.validity = .lost ∨ c.counter.position ≤ c.desc.pinchLimit then .pinch else .free } := by
  have trusted : (u.withClosure k c).closures[k].counter.validity = .lost ∨
      ((u.withClosure k c).closures[k].desc.endBand : Int) < c.counter.position := by
    rw [State.withClosure_self]
    exact blocked.symm.imp_left And.left
  simp only [State.classifyStall, State.withClosure_self, run, hm, dir, ClosureState.atClosedEnd_eq_false blocked,
    Bool.false_eq_true, if_false, State.stallVerdict, State.recordAt_trusted _ _ _ _ _ _ trusted,
    ClosureState.stallLoad_eq, ClosureState.path_eq driven]

end

/-- Settles O49: the stall is classified as a verdict by R68, and the verdict is the reversal of R72. -/
theorem stallVerdictReverses : Obligations.StallVerdictReverses := by
  intro dt due k m s h c p timer hd run hm dir driven blocked r
  have same := State.threshold_withClosure (s := s) (k := k) (x := c.stallStopped) dt .closing (c.pathToward .closing) p
    rfl rfl rfl
  have verdict : ((s.later dt).withClosure k c.stallStopped).classifyStall k =
      ((s.later dt).withClosure k c.stallStopped).startReversal k m r := by
    rw [State.classifyStall_verdict (c := c.stallStopped) run hm dir driven blocked]
    exact congrArg (fun n => State.startReversal _ k m { r with threshold := n }) same
  exact ⟨_, exec_stallExpiry h timer hd verdict rfl,
    State.startReversal_spec s dt k r (x := c.stallStopped) run hm dir⟩

/-! The verdict of a confirmed load (R66). -/

/-- Settles O50: the comparison by its three outcomes; at N_conf a closing move's verdict is the reversal of R72. -/
theorem confirmCount : Obligations.ConfirmCount := by
  intro s k d path pos load c threshold compares
  have compared : c.ComparedAt pos := (c.compares_iff pos).mp compares
  have present : s.withClosure k c = s := s.withClosure_present k
  have same : (s.withClosure k c).threshold k d path pos = threshold := by rw [present]
  refine ⟨fun below => ?_, fun above few => ?_, fun above enough running closing => ?_⟩
  · have judged := State.judgeStep_below s k compared same below
    rwa [present] at judged
  · have judged := State.judgeStep_counted s k compared same above few
    rwa [present] at judged
  · obtain ⟨m, hm, dir⟩ := Option.map_eq_some_iff.mp closing
    have trusted : c.counter.validity = .lost ∨ (c.desc.endBand : Int) < pos := by
      rcases compared with ⟨-, opening | trusted⟩ | ⟨reversing, -⟩
      · exact nomatch closing.symm.trans opening
      · exact trusted
      · exact nomatch running.symm.trans reversing
    have judged := (State.judgeStep_verdict s k compared same above enough).trans
      (State.loadVerdict_closing s k (y := c.judged threshold 0) pos load threshold running hm dir trusted)
    rw [present] at judged
    rw [judged, State.startReversal_reversedAt s k _ (x := c.judged threshold 0) running hm dir]
    simp only [Fin.getElem_fin, Vector.getElem_set_self]
    exact ⟨rfl, rfl⟩

/-! The end of the brake phase (R76). -/

section
variable {s t : State} {dt due : Nat} {k : ClosureId}

/-- A brake timer that has come in the brake phase of a reversal ends that phase (R76). -/
theorem exec_brakeTimerExpiry (h : s.Attentive) (timer : s.closures[k].verdict.brakeTimer = some due)
    (hd : due ≤ s.now + dt) (reversing : s.closures[k].ctx.state = .reversing)
    (phase : s.closures[k].verdict.phase = some .brake) (ht : (s.later dt).endBrake k = t) (hl : t.link = s.link) :
    exec (.brakeTimerExpiry dt k) s = .next t := by
  refine congrArg Host.Outcome.next (State.onEvent_eq h ?_ hl)
  simp only [State.later_closures, State.later_now, timer, isDue_of_le hd, reversing, phase, and_self, if_true]
  exact ht

/-- Below the target the reverse phase begins, with permit OPEN. -/
theorem State.endBrake_short (short : ¬ s.closures[k].reversalReached = true) : s.endBrake k =
    s.withClosure k (ClosureState.drivenAt
      { s.closures[k] with verdict := { s.closures[k].verdict with phase := some .reverse, brakeTimer := none } }
      s.now .opening) := by
  simp only [State.endBrake, short, Bool.false_eq_true, if_false, State.modVerdict_eq, State.modClosure_withClosure]
  rfl

theorem State.endBrake_reached (reached : s.closures[k].reversalReached = true) :
    s.endBrake k = s.endMove k s.closures[k].reversalReason none := if_pos reached

end

theorem ClosureState.reversalReason_eq {c : ClosureState} {r : VerdictRecord} (hr : c.verdict.record = some r) :
    c.reversalReason = if r.cause = .stall then .stallReversed else .pinchReversed := by
  simp only [ClosureState.reversalReason, hr, Option.map_some, Option.some.injEq]

/-- Settles O51: the two branches of R76, by whether the position has reached the target. -/
theorem brakeExpiry : Obligations.BrakeExpiry := by
  intro dt due k p r s h c timer hd reversing phase target record
  have reached : c.reversalReached = true ↔ p ≤ c.counter.position := by
    rw [ClosureState.reversalReached_iff, target]
    simp only [Option.mem_some_iff, exists_eq_left']
  refine ⟨fun below => ?_, fun above empty => ?_⟩
  · exact exec_brakeTimerExpiry h timer hd reversing phase
      (State.endBrake_short (s := s.later dt) (reached.not.mpr (not_le.mpr below))) rfl
  · refine exec_brakeTimerExpiry h timer hd reversing phase ?_ rfl
    rw [← ClosureState.reversalReason_eq record]
    exact (State.endBrake_reached (s := s.later dt) (reached.mpr above)).trans (State.endMove_empty k _ none empty)

end Sys2Proof.Machine
end

section
/-! PROOFS. The laws of motion (R84, R85, R101, R107, R110) as one law of a state, `State.Lawful`, and the updates that
keep it: a closure's station, a settling, a grant, a removal, an arrival. -/
namespace Sys2Proof.Machine

/-- What the laws of motion speak of in a closure. -/
structure Station where
  state : CtxState
  move : Option Move
  followOn : Option Move
  permit : Permit
  phase : Option ReversalPhase
  validity : Validity

def ClosureState.station (c : ClosureState) : Station :=
  { state := c.ctx.state
    move := c.ctx.move
    followOn := c.ctx.followOn
    permit := c.ctx.permit
    phase := c.verdict.phase
    validity := c.counter.validity }

/-- The permit that a station decides (R85). -/
def Station.lawfulPermit (x : Station) : Permit :=
  match x.state with
  | .running =>
    match x.move with
    | some m => .drive m.direction
    | none => .hold
  | .reversing => if x.phase = some .reverse then .drive .opening else .hold
  | .idle | .queued | .settling => .hold

theorem ClosureState.station_lawfulPermit (c : ClosureState) : c.station.lawfulPermit = c.lawfulPermit := rfl

/-- The closures that wait for a slot: those in the slot queue, and those that a GLOBAL command has taken out of it ahead
of their removal at its later turns (log entry 14). -/
def State.waiters (s : State) (ahead : List ClosureId) : List ClosureId := s.arbiter.queue.map (·.closure) ++ ahead

section
variable (motion trust : Prop)

/-- The laws at one closure: its permit (R85); where the laws of motion hold, its owner, its follow-on, its slot and its
place among the closures that wait (R84, R107, R110); where the law of trust holds too, its position (R101). -/
structure Station.Law (waits holds : Prop) (x : Station) : Prop where
  permit : x.permit = x.lawfulPermit
  owner : motion → (x.move.isSome = true ↔ x.state ≠ .idle)
  follow : motion → x.followOn.isSome = true → x.state = .settling ∨ x.state = .reversing
  slot : motion → (holds ↔ x.state = .running ∨ x.state = .reversing)
  place : motion → (waits ↔ x.state = .queued)
  trusted : motion → trust → x.validity = .lost → ∀ m ∈ x.move, m.kind.needsPosition = true →
    x.state = .settling ∨ x.state = .idle

/-- The laws of motion at a state, with the closures `ahead` taken out of the slot queue. The permit law stands alone; the
others are said for the case that they hold, so that one development serves each of them. -/
structure State.Lawful (ahead : List ClosureId) (s : State) : Prop where
  station : ∀ k : ClosureId,
    s.closures[k].station.Law motion trust (k ∈ s.waiters ahead) (s.arbiter.held[k] = true)
  once : motion → (s.waiters ahead).Nodup
  count : motion → s.CountLaw

end

/-! What the law says of a state. -/

theorem State.lawful_permits {s : State} (h : s.PermitLaw) : s.Lawful False False [] :=
  ⟨fun k => ⟨h k, nofun, nofun, nofun, nofun, nofun⟩, nofun, nofun⟩

theorem State.Lawful.permits {motion trust : Prop} {ahead : List ClosureId} {s : State}
    (h : s.Lawful motion trust ahead) : s.PermitLaw := fun k => (h.station k).permit

theorem State.lawful_motion {trust : Prop} {s : State} (h : s.MotionLaw) (ht : trust → s.TrustLaw) :
    s.Lawful True trust [] := by
  obtain ⟨permits, owners, ⟨slots, once⟩, count⟩ := h
  refine ⟨fun k => ⟨permits k, fun _ => (owners k).1, fun _ => (owners k).2, fun _ => (slots k).1, fun _ => ?_,
    fun _ trusts lost m hm needs => ?_⟩, fun _ => ?_, fun _ => count⟩
  · rw [State.waiters, List.append_nil]
    exact (slots k).2
  · refine ht trusts k lost m hm ?_
    revert needs
    cases m.kind <;> simp [Kind.needsPosition]
  · simpa only [State.waiters, List.append_nil] using once

theorem State.Lawful.motionLaw {trust : Prop} {s : State} (h : s.Lawful True trust []) : s.MotionLaw := by
  have same : s.waiters [] = s.arbiter.queue.map (·.closure) := List.append_nil _
  refine ⟨h.permits, fun k => ⟨(h.station k).owner trivial, (h.station k).follow trivial⟩,
    ⟨fun k => ⟨(h.station k).slot trivial, ?_⟩, ?_⟩, h.count trivial⟩
  · exact same ▸ (h.station k).place trivial
  · exact same ▸ h.once trivial

theorem State.Lawful.trustLaw {s : State} (h : s.Lawful True True []) : s.TrustLaw := by
  intro k lost m hm kind
  refine (h.station k).trusted trivial trivial lost m hm ?_
  rcases kind with kind | kind | kind <;> rw [kind] <;> rfl

/-! Slots. -/

theorem Arbiter.heldCount_congr {a b : Arbiter} (h : b.held = a.held) : b.heldCount = a.heldCount := by
  simp only [Arbiter.heldCount, h]

/-- A slot given back leaves no more of them held. -/
theorem Arbiter.heldCount_release {a b : Arbiter} {k : ClosureId} (h : b.held = a.held.set k false) :
    b.heldCount ≤ a.heldCount := by
  simp only [Arbiter.heldCount, ← List.countP_eq_length_filter]
  refine List.countP_mono_left fun j _ hj => ?_
  by_cases same : (k : Nat) = j
  · simp [h, same] at hj
  · simpa [h, same] using hj

theorem Arbiter.heldCount_eq_zero {a : Arbiter} (h : ∀ k : ClosureId, a.held[k] = false) : a.heldCount = 0 := by
  rw [Arbiter.heldCount, List.length_eq_zero_iff, List.filter_eq_nil_iff]
  exact fun k _ => by rw [h k]; decide

section
variable {motion trust : Prop} {ahead : List ClosureId} {s t : State}

/-! Updates. -/

/-- What the laws of motion know of a state. -/
def State.bearings (s : State) : Vector Station 8 × Vector Bool 8 × List QueueEntry × Nat × Bool × Nat :=
  (s.closures.map ClosureState.station, s.arbiter.held, s.arbiter.queue, s.arbiter.effective, s.arbiter.derating,
    s.settings.slots)

theorem State.Lawful.congr (h : s.Lawful motion trust ahead) (same : t.bearings = s.bearings) :
    t.Lawful motion trust ahead := by
  simp only [State.bearings, Prod.mk.injEq] at same
  obtain ⟨stations, held, queue, effective, derating, slots⟩ := same
  have station : ∀ k : ClosureId, t.closures[k].station = s.closures[k].station := fun k => by
    simpa using congrArg (fun v => v[k]) stations
  have waiters : t.waiters ahead = s.waiters ahead := by simp only [State.waiters, queue]
  obtain ⟨laws, once, count⟩ := h
  refine ⟨fun k => ?_, ?_, ?_⟩
  · simpa only [station, waiters, held] using laws k
  · simpa only [waiters] using once
  · simpa only [State.CountLaw, Arbiter.heldCount_congr held, effective, derating, slots] using count

/-- One closure changes, with its slot and its place among those that wait. -/
theorem State.Lawful.update {after : List ClosureId} (h : s.Lawful motion trust ahead) {k : ClosureId}
    {c : ClosureState} {slot : Bool} (closures : t.closures = s.closures.set k c)
    (held : t.arbiter.held = s.arbiter.held.set k slot)
    (waits : motion → ∀ j : ClosureId, j ≠ k → (j ∈ t.waiters after ↔ j ∈ s.waiters ahead))
    (self : c.station.Law motion trust (k ∈ t.waiters after) (slot = true))
    (once : motion → (t.waiters after).Nodup) (count : motion → t.CountLaw) : t.Lawful motion trust after := by
  refine ⟨fun j => ?_, once, count⟩
  by_cases hj : j = k
  · subst hj
    have present : t.closures[j] = c := by simp [closures]
    have slotted : t.arbiter.held[j] = slot := by simp [held]
    rwa [present, slotted]
  · have apart : (k : Nat) ≠ j := fun e => hj (Fin.ext e.symm)
    have present : t.closures[j] = s.closures[j] := by simp [closures, apart]
    have slotted : t.arbiter.held[j] = s.arbiter.held[j] := by simp [held, apart]
    obtain ⟨permit, owner, follow, slot, place, trusted⟩ := h.station j
    rw [present, slotted]
    exact ⟨permit, owner, follow, slot, fun m => (waits m j hj).trans (place m), trusted⟩

/-- One closure changes, its slot and its place as they were. -/
theorem State.Lawful.modClosure (h : s.Lawful motion trust ahead) (k : ClosureId) (f : ClosureState → ClosureState)
    (hf : ∀ waits holds : Prop, s.closures[k].station.Law motion trust waits holds →
      (f s.closures[k]).station.Law motion trust waits holds) : (s.modClosure k f).Lawful motion trust ahead := by
  refine h.update (k := k) (c := f s.closures[k]) (slot := s.arbiter.held[k]) rfl ?_ (fun _ _ _ => Iff.rfl)
    (hf _ _ (h.station k)) h.once h.count
  simp

/-- One closure changes, its station as it was. -/
theorem State.Lawful.still (h : s.Lawful motion trust ahead) (k : ClosureId) (f : ClosureState → ClosureState)
    (same : ∀ c : ClosureState, (f c).station = c.station := by exact fun _ => rfl) :
    (s.modClosure k f).Lawful motion trust ahead := h.modClosure k f fun _ _ law => same s.closures[k] ▸ law

theorem State.Lawful.modCounter (h : s.Lawful motion trust ahead) (k : ClosureId) (f : Counter → Counter)
    (same : ∀ x, (f x).validity = x.validity := by exact fun _ => rfl) :
    (s.modCounter k f).Lawful motion trust ahead :=
  h.still k _ fun c => by simp only [ClosureState.station, same]

theorem State.Lawful.modVerdict (h : s.Lawful motion trust ahead) (k : ClosureId) (f : Verdict → Verdict)
    (same : ∀ v, (f v).phase = v.phase := by exact fun _ => rfl) : (s.modVerdict k f).Lawful motion trust ahead :=
  h.still k _ fun c => by simp only [ClosureState.station, same]

/-- A context keeps its state, its move, its follow-on and its permit. -/
theorem State.Lawful.modCtx (h : s.Lawful motion trust ahead) (k : ClosureId) (f : Context → Context)
    (same : ∀ x, (f x).state = x.state ∧ (f x).move = x.move ∧ (f x).followOn = x.followOn ∧ (f x).permit = x.permit := by
      exact fun _ => ⟨rfl, rfl, rfl, rfl⟩) : (s.modCtx k f).Lawful motion trust ahead :=
  h.still k _ fun c => by simp only [ClosureState.station, same]

theorem State.Lawful.mapClosures (h : s.Lawful motion trust ahead) (f : ClosureId → ClosureState → ClosureState)
    (hf : ∀ (k : ClosureId) (waits holds : Prop), s.closures[k].station.Law motion trust waits holds →
      (f k s.closures[k]).station.Law motion trust waits holds) : (s.mapClosures f).Lawful motion trust ahead := by
  refine ⟨fun k => ?_, h.once, h.count⟩
  have image : (s.mapClosures f).closures[k] = f k s.closures[k] := by simp
  rw [image]
  exact hf k _ _ (h.station k)

theorem State.Lawful.mapStill (h : s.Lawful motion trust ahead) (f : ClosureId → ClosureState → ClosureState)
    (same : ∀ k (c : ClosureState), (f k c).station = c.station := by exact fun _ _ => rfl) :
    (s.mapClosures f).Lawful motion trust ahead := h.mapClosures f fun k _ _ law => same k s.closures[k] ▸ law

theorem State.Lawful.modSeat (h : s.Lawful motion trust ahead) (n : SeatId) (f : SeatState → SeatState) :
    (s.modSeat n f).Lawful motion trust ahead := h.congr rfl

theorem State.Lawful.modLink (h : s.Lawful motion trust ahead) (f : Link → Link) :
    (s.modLink f).Lawful motion trust ahead := h.congr rfl

theorem State.Lawful.postTo (h : s.Lawful motion trust ahead) (p : SeatId → Bool) (b : NoticeBody) :
    (s.postTo p b).Lawful motion trust ahead := h.congr rfl

/-- The effective slot count and the derating flag change, within the slot count (R106). -/
theorem State.Lawful.setEffective (h : s.Lawful motion trust ahead) {n : Nat} {derating : Bool}
    (within : n ≤ max 1 s.settings.slots) (derated : derating = true → n ≤ 1) :
    (s.modArbiter fun a => { a with derating := derating, effective := n }).Lawful motion trust ahead :=
  ⟨h.station, h.once, fun m => ⟨(h.count m).1, within, derated⟩⟩

theorem State.Lawful.foldl {α : Type} (h : s.Lawful motion trust ahead) (f : State → α → State)
    (hf : ∀ t a, t.Lawful motion trust ahead → (f t a).Lawful motion trust ahead) (l : List α) :
    (l.foldl f s).Lawful motion trust ahead := by
  induction l generalizing s with
  | nil => exact h
  | cons a rest ih => exact ih (hf s a h)

theorem State.Lawful.ite {p : Prop} [Decidable p] (hs : s.Lawful motion trust ahead) (ht : t.Lawful motion trust ahead) :
    (if p then s else t).Lawful motion trust ahead := by
  split
  · exact hs
  · exact ht

theorem State.Lawful.accept (h : s.Lawful motion trust ahead) (items : List Byte) :
    (s.accept items).state.Lawful motion trust ahead := h

theorem State.Lawful.placed {a : Answer} (h : a.state.Lawful motion trust ahead) (n : SeatId) (code : Byte) :
    (a.placed n code).Lawful motion trust ahead := h.congr rfl

/-! Stations after a settling, a grant, a removal and an arrival. -/

/-- A move that has been granted and has not ended its settling waits for no slot. -/
theorem State.Lawful.not_waiter (h : s.Lawful motion trust ahead) {k : ClosureId} (m : motion)
    (granted : s.closures[k].ctx.state.Granted) : k ∉ s.waiters ahead :=
  fun waits => granted.2 (((h.station k).place m).mp waits)

theorem State.Lawful.owned (h : s.Lawful motion trust ahead) {k : ClosureId} (m : motion)
    (busy : s.closures[k].ctx.state ≠ .idle) : s.closures[k].ctx.move.isSome = true := ((h.station k).owner m).mpr busy

/-- A context that settles has no permit, no slot and no place in the slot queue, and keeps its follow-on (R102). -/
theorem Station.law_settling {waits holds : Prop} {x : Station} (state : x.state = .settling) (permit : x.permit = .hold)
    (move : motion → x.move.isSome = true) (place : motion → ¬ waits) (slot : ¬ holds) :
    x.Law motion trust waits holds where
  permit := by rw [permit, Station.lawfulPermit, state]
  owner m := by simp [state, move m]
  follow _ _ := .inl state
  slot _ := by simp [state, slot]
  place m := by simp [state, place m]
  trusted _ _ _ _ _ _ := .inl state

/-- Entry to SETTLING of a granted move, after a change of its closure that leaves its context (R102, R107). -/
theorem State.Lawful.settle (h : s.Lawful motion trust ahead) (k : ClosureId) (r : EndReason) (w : Option SeatId)
    (f : ClosureState → ClosureState) (granted : motion → s.closures[k].ctx.state.Granted)
    (same : (f s.closures[k]).ctx = s.closures[k].ctx) : ((s.modClosure k f).settle k r w).Lawful motion trust ahead := by
  refine h.update (k := k) (c := (f s.closures[k]).settle s.now r w) (slot := false) ?_ rfl (fun _ _ _ => Iff.rfl)
    (Station.law_settling rfl rfl (fun m => ?_) (fun m => h.not_waiter m (granted m)) nofun) h.once fun m => ?_
  · simp [State.settle, State.setSlot]
  · simpa only [ClosureState.station, ClosureState.settle, ClosureState.withdraw, same] using h.owned m (granted m).1
  · obtain ⟨slots, effective⟩ := h.count m
    exact ⟨(Arbiter.heldCount_release rfl).trans slots, effective⟩

/-! Grants (R92, R111). -/

/-- A RUNNING context has a move, a slot and the permit of its direction, and no follow-on (R85, R92). -/
theorem Station.law_running {waits holds : Prop} {x : Station} {m : Move} (state : x.state = .running)
    (move : x.move = some m) (permit : x.permit = .drive m.direction) (follow : motion → x.followOn.isSome = false)
    (place : motion → ¬ waits) (slot : holds)
    (trusted : motion → trust → x.validity = .lost → ¬ m.kind.needsPosition = true) : x.Law motion trust waits holds where
  permit := by rw [permit, Station.lawfulPermit, state, move]
  owner _ := by simp [state, move]
  follow p held := by simp [follow p] at held
  slot _ := by simp [state, slot]
  place p := by simp [state, place p]
  trusted p q lost x hx needs := by
    obtain rfl := Option.some.inj (move.symm.trans hx)
    exact absurd needs (trusted p q lost)

/-- A closure that leaves the slot queue waits no more, and every other closure waits as before. -/
theorem State.Lawful.waiters_without (h : s.Lawful motion trust ahead) (m : motion) {k : ClosureId}
    (queue : t.arbiter.queue = (s.arbiter.without k).queue) (waits : k ∈ s.arbiter.queue.map (·.closure)) :
    t.waiters ahead = (s.waiters ahead).filter fun j => decide (j ≠ k) := by
  have notAhead : k ∉ ahead := fun hk => (List.nodup_append.mp (h.once m)).2.2 k waits k hk rfl
  have kept : (ahead.filter fun j => decide (j ≠ k)) = ahead :=
    List.filter_eq_self.mpr fun j hj => decide_eq_true fun same => notAhead (same ▸ hj)
  rw [State.waiters, State.waiters, List.filter_append, kept, queue, Arbiter.without, List.filter_map]
  rfl

/-- A waiting closure takes a slot, or takes and releases it, and waits no more. -/
theorem State.Lawful.takeSlot (h : s.Lawful motion trust ahead) {k : ClosureId} {c : ClosureState} {slot : Bool}
    (waits : k ∈ s.arbiter.queue.map (·.closure)) (free : s.arbiter.heldCount < s.arbiter.effective)
    (closures : t.closures = s.closures.set k c)
    (arbiter : t.arbiter = { s.arbiter.without k with held := s.arbiter.held.set k slot })
    (settings : t.settings = s.settings)
    (self : ∀ place : Prop, (motion → ¬ place) → c.station.Law motion trust place (slot = true)) :
    t.Lawful motion trust ahead := by
  have waiters := fun m => h.waiters_without m (by rw [arbiter]) waits
  refine h.update closures (congrArg Arbiter.held arbiter) (fun m j hj => ?_) (self _ fun m => ?_) (fun m => ?_)
    fun m => ?_
  · simp [waiters m, hj]
  · simp [waiters m]
  · rw [waiters m]
    exact (h.once m).filter _
  · obtain ⟨slots, within, derated⟩ := h.count m
    have effective : t.arbiter.effective = s.arbiter.effective := by rw [arbiter]; rfl
    have derating : t.arbiter.derating = s.arbiter.derating := by rw [arbiter]; rfl
    have held : t.arbiter.held = s.arbiter.held.set k slot := congrArg Arbiter.held arbiter
    refine ⟨?_, by rwa [effective, settings], by rwa [effective, derating]⟩
    cases slot with
    | false => exact settings ▸ (Arbiter.heldCount_release held).trans slots
    | true =>
      have queued := ((h.station k).place m).mp (List.mem_append_left _ waits)
      have slotless : s.arbiter.held[k] = false := by
        rw [Bool.eq_false_iff]
        intro holds
        rcases ((h.station k).slot m).mp holds with state | state <;> exact nomatch queued.symm.trans state
      rw [Arbiter.heldCount_take slotless held, settings]
      exact free.trans_le within

/-- A closure of the slot queue granted while a slot is free (R92). -/
theorem State.Lawful.grant (h : s.Lawful motion trust ahead) {k : ClosureId}
    (waits : k ∈ s.arbiter.queue.map (·.closure)) (free : s.arbiter.heldCount < s.arbiter.effective) :
    (s.grant k).Lawful motion trust ahead := by
  obtain ⟨permit, -, follow, -, place, trusted⟩ := h.station k
  have queued : motion → s.closures[k].ctx.state = .queued := fun m => (place m).mp (List.mem_append_left _ waits)
  cases hm : s.closures[k].ctx.move with
  | none =>
    have ownerless : ¬ motion := fun p => nomatch hm ▸ h.owned p (k := k) (by rw [queued p]; decide)
    have taken : s.grant k = (s.leaveQueue k).setSlot k true := by simp only [State.grant, hm]
    refine h.takeSlot (k := k) (c := s.closures[k]) (slot := true) waits free ?_ (by rw [taken]; rfl) (by rw [taken]; rfl)
      fun _ _ => ⟨permit, ?_, ?_, ?_, ?_, ?_⟩
    · simp [taken, State.setSlot, State.leaveQueue]
    all_goals exact fun m => absurd m ownerless
  | some m =>
    cases reached : m.reached (s.closures[k].grantPosition m) with
    | true =>
      rw [State.grant_reached hm reached]
      refine h.takeSlot waits free rfl rfl rfl fun _ gone => Station.law_settling rfl rfl (fun _ => ?_) gone nofun
      exact congrArg Option.isSome hm
    | false =>
      rw [State.grant_ahead hm reached]
      refine h.takeSlot waits free rfl rfl rfl fun _ gone =>
        Station.law_running rfl hm rfl (fun p => ?_) gone rfl fun p q lost needs => ?_
      · rw [Bool.eq_false_iff]
        intro held
        rcases follow p held with state | state <;> exact nomatch (queued p).symm.trans state
      · rcases trusted p q lost m hm needs with state | state <;> exact nomatch (queued p).symm.trans state

theorem State.Lawful.grantLoop (fuel : Nat) (h : s.Lawful motion trust ahead) :
    (s.grantLoop fuel).Lawful motion trust ahead := by
  induction fuel generalizing s with
  | zero => exact h
  | succ n ih =>
    rcases queue : s.arbiter.queue with _ | ⟨head, rest⟩
    · simpa only [State.grantLoop, queue] using h
    · rw [State.grantLoop_cons n queue]
      split
      · split
        · refine h.congr ?_
          unfold State.askUnpark
          split <;> rfl
        · split
          · exact ih (h.grant (by simp [queue]) ‹_›)
          · exact h
      · exact h

theorem State.Lawful.grantTest (h : s.Lawful motion trust ahead) : s.grantTest.Lawful motion trust ahead := h.grantLoop _

/-- A granted move ends, after a change of its closure that leaves its context (R102, R107, R111). -/
theorem State.Lawful.endMove_after (h : s.Lawful motion trust ahead) (k : ClosureId) (r : EndReason) (w : Option SeatId)
    (f : ClosureState → ClosureState) (granted : motion → s.closures[k].ctx.state.Granted)
    (same : (f s.closures[k]).ctx = s.closures[k].ctx) :
    ((s.modClosure k f).endMove k r w).Lawful motion trust ahead := (h.settle k r w f granted same).grantTest

theorem State.Lawful.endMove (h : s.Lawful motion trust ahead) (k : ClosureId) (r : EndReason) (w : Option SeatId)
    (granted : motion → s.closures[k].ctx.state.Granted) : (s.endMove k r w).Lawful motion trust ahead := by
  have ended := h.endMove_after k r w id granted rfl
  rwa [State.modClosure_fixed rfl] at ended

/-- The granted moves of several closures end, one after another (log entry 14). -/
theorem State.Lawful.endMoves (h : s.Lawful motion trust ahead) (l : List ClosureId) (r : EndReason) (w : Option SeatId)
    (granted : ∀ k ∈ l, s.closures[k].ctx.state.Granted) :
    (l.foldl (fun t k => t.endMove k r w) s).Lawful motion trust ahead := by
  induction l generalizing s with
  | nil => exact h
  | cons k rest ih =>
    refine ih (h.endMove k r w fun _ => granted k (by simp)) fun j hj => ?_
    exact State.endMove_granted k r w (granted j (by simp [hj]))

/-! Removals and arrivals (R88, R104). -/

/-- An IDLE context has no move, no permit, no slot and no place in the slot queue (R84, R85). -/
theorem Station.law_idle {waits holds : Prop} {x : Station} (state : x.state = .idle) (move : x.move = none)
    (follow : x.followOn = none) (permit : x.permit = .hold) (place : motion → ¬ waits) (slot : motion → ¬ holds) :
    x.Law motion trust waits holds where
  permit := by rw [permit, Station.lawfulPermit, state]
  owner _ := by simp [state, move]
  follow _ held := by simp [follow] at held
  slot p := by simp [state, slot p]
  place p := by simp [state, place p]
  trusted _ _ _ _ _ _ := .inr state

theorem State.Lawful.slotless (h : s.Lawful motion trust ahead) {k : ClosureId} (m : motion)
    (resting : s.closures[k].ctx.state ≠ .running ∧ s.closures[k].ctx.state ≠ .reversing) :
    ¬ s.arbiter.held[k] = true := fun holds => (((h.station k).slot m).mp holds).elim resting.1 resting.2

/-- A QUEUED move is removed, after a change of its closure that leaves its context; a closure that was out of the queue
ahead of its removal is so no more (R104). -/
theorem State.Lawful.remove_after (h : s.Lawful motion trust ahead) (k : ClosureId) (r : EndReason) (w : Option SeatId)
    (f : ClosureState → ClosureState) {m : Move} (hm : s.closures[k].ctx.move = some m)
    (queued : motion → s.closures[k].ctx.state = .queued) (same : (f s.closures[k]).ctx = s.closures[k].ctx) :
    ((s.modClosure k f).remove k r w).Lawful motion trust (ahead.filter fun j => decide (j ≠ k)) := by
  have moves : (s.modClosure k f).closures[k].ctx.move = some m := by rw [State.modClosure_self, same, hm]
  obtain ⟨closures, arbiter, -, settings, -⟩ := State.remove_removed r w moves
  have waiters : ((s.modClosure k f).remove k r w).waiters (ahead.filter fun j => decide (j ≠ k)) =
      (s.waiters ahead).filter fun j => decide (j ≠ k) := by
    rw [State.waiters, State.waiters, List.filter_append, arbiter, Arbiter.without, List.filter_map]
    rfl
  refine h.update (k := k) (c := (f s.closures[k]).removedAt k m r w s.front.reading) (slot := s.arbiter.held[k])
    ?_ ?_ (fun _ j hj => ?_) (Station.law_idle rfl rfl rfl rfl (fun _ => ?_) fun p => ?_) (fun p => ?_) fun p => ?_
  · simp [closures]
  · simp [arbiter, Arbiter.without]
  · rw [waiters]
    simp [hj]
  · rw [waiters]
    simp
  · exact h.slotless p (by rw [queued p]; decide)
  · rw [waiters]
    exact (h.once p).filter _
  · have count := h.count p
    rw [State.CountLaw, arbiter, settings]
    exact count

/-- Where the laws of motion do not hold, the permits are all there is to keep. -/
theorem State.Lawful.motionless {after : List ClosureId} (h : s.Lawful motion trust ahead) (without : ¬ motion) :
    s.Lawful motion trust after :=
  ⟨fun k => ⟨(h.station k).permit, fun m => absurd m without, fun m => absurd m without, fun m => absurd m without,
    fun m => absurd m without, fun m => absurd m without⟩, fun m => absurd m without, h.count⟩

theorem State.Lawful.remove_ahead (h : s.Lawful motion trust ahead) (k : ClosureId) (r : EndReason) (w : Option SeatId)
    (queued : motion → s.closures[k].ctx.state = .queued) :
    (s.remove k r w).Lawful motion trust (ahead.filter fun j => decide (j ≠ k)) := by
  cases hm : s.closures[k].ctx.move with
  | none =>
    have kept : s.remove k r w = s := by simp only [State.remove, hm]
    rw [kept]
    refine h.motionless fun m => ?_
    exact nomatch hm ▸ h.owned m (k := k) (by rw [queued m]; decide)
  | some m =>
    have removed := h.remove_after k r w id hm queued rfl
    rwa [State.modClosure_fixed rfl] at removed

theorem State.Lawful.remove (h : s.Lawful motion trust []) (k : ClosureId) (r : EndReason) (w : Option SeatId)
    (queued : motion → s.closures[k].ctx.state = .queued) : (s.remove k r w).Lawful motion trust [] :=
  h.remove_ahead k r w queued

theorem State.map_insertEntry (s : State) (e : QueueEntry) (q : List QueueEntry) :
    ((s.insertEntry e q).map (·.closure)).Perm (e.closure :: q.map (·.closure)) := by
  induction q with
  | nil => exact .refl _
  | cons x rest ih =>
    unfold State.insertEntry
    split
    · exact .refl _
    · exact (ih.cons x.closure).trans (.swap _ _ _)

/-- A QUEUED context has a move, no follow-on, no permit and a place in the slot queue (R84, R85, R88). -/
theorem Station.law_queued {waits holds : Prop} {x : Station} {m : Move} (state : x.state = .queued)
    (move : x.move = some m) (follow : x.followOn = none) (permit : x.permit = .hold) (place : waits)
    (slot : motion → ¬ holds) (trusted : motion → trust → x.validity = .lost → ¬ m.kind.needsPosition = true) :
    x.Law motion trust waits holds where
  permit := by rw [permit, Station.lawfulPermit, state]
  owner _ := by simp [state, move]
  follow _ held := by simp [follow] at held
  slot p := by simp [state, slot p]
  place _ := by simp [state, place]
  trusted p q lost x hx needs := by
    obtain rfl := Option.some.inj (move.symm.trans hx)
    exact absurd needs (trusted p q lost)

/-- A closure that rests, IDLE or at the end of its settling, arrives in the slot queue with a move that its position
allows (R88). -/
theorem State.Lawful.enqueue (h : s.Lawful motion trust ahead) (k : ClosureId) (m : Move)
    (resting : motion → s.closures[k].ctx.state = .idle ∨ s.closures[k].ctx.state = .settling)
    (trusted : motion → trust → s.closures[k].counter.validity = .lost → ¬ m.kind.needsPosition = true) :
    (s.enqueue k m).Lawful motion trust ahead := by
  have waiters : ((s.enqueue k m).waiters ahead).Perm (k :: s.waiters ahead) :=
    (State.map_insertEntry _ _ _).append_right ahead
  have away : motion → k ∉ s.waiters ahead := fun p waits => by
    have queued := ((h.station k).place p).mp waits
    rcases resting p with state | state <;> exact nomatch queued.symm.trans state
  refine h.update (k := k) (slot := s.arbiter.held[k]) rfl ?_ (fun _ j hj => ?_)
    (Station.law_queued rfl rfl rfl rfl ?_ (fun p => ?_) trusted) (fun p => ?_) h.count
  · simp [State.enqueue, State.arrive, State.modArbiter]
  · simp [waiters.mem_iff, hj]
  · simp [waiters.mem_iff]
  · exact h.slotless p (by rcases resting p with state | state <;> rw [state] <;> decide)
  · exact waiters.nodup_iff.mpr (List.nodup_cons.mpr ⟨away p, h.once p⟩)

end

end Sys2Proof.Machine
end

section
/-! PROOFS. `State.Lawful` for follow-ons, replaced moves, loss of position, verdicts, and for the events of the travel
counters and the timers. -/
namespace Sys2Proof.Machine

section
variable {motion trust : Prop} {ahead : List ClosureId} {s t : State}

/-! Follow-ons (R91, R95, R98). -/

/-- A follow-on is taken or dropped; only a context that settles or reverses takes one (R84). -/
theorem State.Lawful.setFollowOn (h : s.Lawful motion trust ahead) (k : ClosureId) (g : Option Move)
    (takes : motion → g.isSome = true →
      s.closures[k].ctx.state = .settling ∨ s.closures[k].ctx.state = .reversing) :
    (s.modCtx k fun x => { x with followOn := g }).Lawful motion trust ahead :=
  h.modClosure k _ fun _ _ ⟨permit, owner, _, slot, place, trusted⟩ => ⟨permit, owner, takes, slot, place, trusted⟩

theorem State.Lawful.dropFollowOn (h : s.Lawful motion trust ahead) (k : ClosureId) (c : DropCause) :
    (s.dropFollowOn k c).Lawful motion trust ahead := by
  unfold State.dropFollowOn
  split
  · exact h
  · exact (h.setFollowOn k none nofun).postTo _ _

theorem State.dropFollowOn_state (s : State) (k : ClosureId) (c : DropCause) :
    (s.dropFollowOn k c).closures[k].ctx.state = s.closures[k].ctx.state := by
  unfold State.dropFollowOn
  split
  · rfl
  · rename_i m _
    exact congrArg (·.ctx.state) (s.modCtx_self k fun x => { x with followOn := none })

theorem State.Lawful.storeFollowOn (h : s.Lawful motion trust ahead) (k : ClosureId) (m : Move)
    (takes : motion → s.closures[k].ctx.state = .settling ∨ s.closures[k].ctx.state = .reversing) :
    (s.storeFollowOn k m).Lawful motion trust ahead :=
  (h.dropFollowOn k .superseded).setFollowOn k (some m) fun p _ => by rw [State.dropFollowOn_state]; exact takes p

/-- A closure that is not in the slot queue settles at its move's end, whatever the slot's release grants (R102, R111). -/
theorem State.endMove_self {s : State} {k : ClosureId} (r : EndReason) (w : Option SeatId)
    (away : ∀ e ∈ s.arbiter.queue, e.closure ≠ k) :
    (s.endMove k r w).closures[k] = s.closures[k].settledAt s.now r w := by
  have settled : (s.settle k r w).closures[k] = s.closures[k].settledAt s.now r w := s.modClosure_self k _
  rw [← settled]
  exact State.grantLoop_other _ _ k away

theorem State.Lawful.away (h : s.Lawful motion trust ahead) {k : ClosureId} (p : motion)
    (granted : s.closures[k].ctx.state.Granted) : ∀ e ∈ s.arbiter.queue, e.closure ≠ k := fun _ he same =>
  h.not_waiter p granted (List.mem_append_left _ (List.mem_map.mpr ⟨_, he, same⟩))

/-! Moves replaced in place (R89, R90, R110). -/

/-- The slot queue takes another order, or closures leave it ahead of their removal. -/
theorem State.Lawful.reorder {after : List ClosureId} (h : s.Lawful motion trust ahead) (closures : t.closures = s.closures)
    (held : t.arbiter.held = s.arbiter.held) (waiters : motion → (t.waiters after).Perm (s.waiters ahead))
    (count : motion → t.CountLaw) : t.Lawful motion trust after := by
  refine ⟨fun k => ?_, fun p => (waiters p).nodup_iff.mpr (h.once p), count⟩
  obtain ⟨permit, owner, follow, slot, place, trusted⟩ := h.station k
  simp only [closures, held]
  exact ⟨permit, owner, follow, slot, fun p => (waiters p).mem_iff.trans (place p), trusted⟩

theorem State.Lawful.replaceInQueue (h : s.Lawful motion trust ahead) (k : ClosureId) :
    (s.replaceInQueue k).Lawful motion trust ahead := by
  unfold State.replaceInQueue
  split
  · rename_i e found
    obtain rfl : e.closure = k := of_decide_eq_true (List.find?_some found :)
    have waits : e.closure ∈ s.arbiter.queue.map (·.closure) :=
      List.mem_map.mpr ⟨e, List.mem_of_find?_eq_some found, rfl⟩
    refine h.reorder rfl rfl (fun p => ?_) fun p => h.count p
    have left := h.waiters_without (t := s.leaveQueue e.closure) p rfl waits
    refine ((State.map_insertEntry _ e _).append_right ahead).trans ?_
    have erased : (s.waiters ahead).erase e.closure = (s.waiters ahead).filter fun j => decide (j ≠ e.closure) := by
      rw [(h.once p).erase_eq_filter]
      exact List.filter_congr fun j _ => by by_cases same : j = e.closure <;> simp [same]
    rw [List.cons_append, ← State.waiters, left, ← erased]
    exact (List.perm_cons_erase (List.mem_append_left _ waits)).symm
  · exact h

theorem Station.lawfulPermit_queued {x : Station} (state : x.state = .queued) : x.lawfulPermit = .hold := by
  rw [Station.lawfulPermit, state]

theorem Station.lawfulPermit_running {x : Station} {m : Move} (state : x.state = .running) (move : x.move = some m) :
    x.lawfulPermit = .drive m.direction := by
  rw [Station.lawfulPermit, state, move]

/-- A QUEUED move, or a RUNNING one of the same direction, is replaced in place by a move that the position allows. -/
theorem State.Lawful.replace (h : s.Lawful motion trust ahead) (k : ClosureId) (now holdUnits : Nat) {m old : Move}
    (hm : s.closures[k].ctx.move = some old)
    (meets : s.closures[k].ctx.state = .queued ∨ s.closures[k].ctx.state = .running ∧ m.direction = old.direction)
    (trusted : s.closures[k].counter.validity = .lost → ¬ m.kind.needsPosition = true) :
    (s.modCtx k (Context.replace now holdUnits m)).Lawful motion trust ahead := by
  refine h.modClosure k _ fun _ _ ⟨permit, owner, follow, slot, place, _⟩ =>
    ⟨?_, fun p => ?_, follow, slot, place, fun _ _ lost x hx needs => ?_⟩
  · rcases meets with queued | ⟨running, same⟩
    · exact permit.trans ((Station.lawfulPermit_queued queued).trans (Station.lawfulPermit_queued queued).symm)
    · exact permit.trans ((Station.lawfulPermit_running running hm).trans
        (same ▸ (Station.lawfulPermit_running running rfl).symm))
  · have owner : s.closures[k].ctx.move.isSome = true ↔ s.closures[k].ctx.state ≠ .idle := owner p
    rwa [hm] at owner
  · obtain rfl := Option.some.inj (hx : some m = some x)
    exact absurd needs (trusted lost)

/-! Loss of position (R15, R101). -/

theorem Station.Law.lose {waits holds : Prop} {x : Station} (law : x.Law motion trust waits holds)
    (keeps : motion → trust → ∀ m ∈ x.move, m.kind.needsPosition = true → x.state = .settling ∨ x.state = .idle) :
    { x with validity := .lost }.Law motion trust waits holds :=
  ⟨law.permit, law.owner, law.follow, law.slot, law.place, fun p q _ => keeps p q⟩

theorem State.Lawful.losePosition (h : s.Lawful motion trust []) (k : ClosureId) :
    (s.losePosition k).Lawful motion trust [] := by
  have present := s.withClosure_present k
  by_cases kept : s.closures[k].KeepsMove
  · have loses := State.losePosition_kept s k _ kept
    rw [present] at loses
    rw [loses]
    refine h.modClosure k ClosureState.lose fun _ _ law => law.lose fun p q m hm needs => ?_
    rcases kept with lost | held | idle | settling
    · exact law.trusted p q lost m hm needs
    · exact absurd (held m hm) (m.kind.needsPosition_iff.mp needs)
    · exact .inr idle
    · exact .inl settling
  · simp only [not_or, not_forall] at kept
    obtain ⟨valid, ⟨m, hm, needs⟩, busy, unsettled⟩ := kept
    have valid : s.closures[k].counter.validity = .valid := by
      cases hv : s.closures[k].counter.validity with
      | valid => rfl
      | lost => exact absurd hv valid
    by_cases queued : s.closures[k].ctx.state = .queued
    · have removes := State.losePosition_removes s k _ valid hm (not_or.mpr needs) queued
      rw [present] at removes
      rw [removes]
      exact h.remove_after k .positionLost none ClosureState.lose hm (fun _ => queued) rfl
    · have moves : s.closures[k].ctx.state = .running ∨ s.closures[k].ctx.state = .reversing := by
        cases hx : s.closures[k].ctx.state <;> simp_all
      have ends := State.losePosition_ends s k _ valid hm (not_or.mpr needs) moves
      rw [present] at ends
      rw [ends]
      exact h.endMove_after k .positionLost none ClosureState.lose (fun _ => ⟨busy, queued⟩) rfl

/-! Verdicts and reversals (R67, R72, R75, R76). -/

/-- A REVERSING context has a move and a slot, and no permit or, in the reverse phase, the permit OPEN (R85). -/
theorem Station.Law.reverses {waits holds : Prop} {x y : Station} (law : x.Law motion trust waits holds)
    (before : x.state = .running ∨ x.state = .reversing) (state : y.state = .reversing) (move : y.move = x.move)
    (permit : y.permit = if y.phase = some .reverse then .drive .opening else .hold)
    (validity : y.validity = x.validity) : y.Law motion trust waits holds where
  permit := by rw [permit, Station.lawfulPermit, state]
  owner p := by
    have owner := law.owner p
    rw [move, state]
    rcases before with before | before <;> rw [before] at owner <;> simpa using owner
  follow _ _ := .inr state
  slot p := by simp [law.slot p, before, state]
  place p := by
    have place := law.place p
    rw [state]
    rcases before with before | before <;> rw [before] at place <;> simpa using place
  trusted p q lost m hm needs := by
    rcases law.trusted p q (validity ▸ lost) m (move ▸ hm) needs with at_ | at_ <;>
      rcases before with before | before <;> exact nomatch before.symm.trans at_

theorem State.Lawful.recordAt (h : s.Lawful motion trust ahead) (k : ClosureId) (c : VerdictCause) (p : Int) (l t : Nat) :
    (s.recordAt k c p l t).1.Lawful motion trust ahead := by
  unfold State.recordAt
  split
  · exact h
  · exact h.congr rfl

theorem State.Lawful.startReversal (h : s.Lawful motion trust ahead) (k : ClosureId) (m : Move) (r : VerdictRecord)
    (running : s.closures[k].ctx.state = .running) : (s.startReversal k m r).Lawful motion trust ahead := by
  have told : (((s.modClosure k (ClosureState.fillRecord r)).postOwner k m.seat (.pinch k r))).closures[k] =
      ClosureState.fillRecord r s.closures[k] := State.modClosure_self s k _
  refine ((h.still k (ClosureState.fillRecord r)).postTo _ _).modClosure k _ fun _ _ law => ?_
  rw [← State.postOwner, told] at law ⊢
  exact law.reverses (.inl running) rfl rfl rfl rfl

theorem State.Lawful.loadVerdict (h : s.Lawful motion trust ahead) (k : ClosureId) (p : Int) (l t : Nat) :
    (s.loadVerdict k p l t).Lawful motion trust ahead := by
  have recorded := h.recordAt k .load p l t
  unfold State.loadVerdict
  dsimp only
  split
  · exact h.endMove _ _ _ fun _ => CtxState.granted_of_reversing ‹_›
  · rename_i running _
    split
    · exact recorded.startReversal _ _ _ (by simpa only [State.recordAt_closures] using running)
    · refine recorded.endMove_after _ _ _ _ (fun _ => ?_) rfl
      simpa only [State.recordAt_closures] using CtxState.granted_of_running running
  · exact h

theorem State.Lawful.judgeStep (h : s.Lawful motion trust ahead) (k : ClosureId) (d : Direction) (path : Path) (p : Int)
    (l : Nat) : (s.judgeStep k d path p l).Lawful motion trust ahead := by
  unfold State.judgeStep
  dsimp only
  split
  · have applied := h.modVerdict k fun v => { v with lastThreshold := s.threshold k d path p }
    split
    · split
      · exact (applied.modVerdict k _).loadVerdict _ _ _ _
      · exact applied.modVerdict k _
    · exact applied.modVerdict k _
  · exact h.modVerdict k _

theorem State.Lawful.stepCompleted (h : s.Lawful motion trust ahead) (k : ClosureId) (d : Direction) (period : Nat) :
    (s.stepCompleted k d period).Lawful motion trust ahead := by
  have reopened := h.still k fun x => { x with sense := x.sense.open_ }
  unfold State.stepCompleted
  dsimp only
  split
  · split
    · exact (reopened.still k _).still k _
    · exact ((reopened.still k _).still k _).judgeStep _ _ _ _ _
  · exact reopened

/-! Stalls (R68 to R70). -/

theorem State.Lawful.classifyStall (h : s.Lawful motion trust ahead) (k : ClosureId) :
    (s.classifyStall k).Lawful motion trust ahead := by
  unfold State.classifyStall
  dsimp only
  split
  · rename_i m running hm
    have granted := fun _ : motion => CtxState.granted_of_running running
    split
    · split
      · exact h.endMove_after _ _ _ _ granted (ClosureState.closedEnd_ctx _ _)
      · exact (h.recordAt _ _ _ _ _).startReversal _ _ _ (by simpa only [State.recordAt_closures] using running)
    · exact h.endMove _ _ _ granted
  · split
    · exact h.endMove _ _ _ fun _ => CtxState.granted_of_reversing ‹_›
    · exact h
  · exact h

/-! Travel events. -/

theorem ClosureState.restartStall_station (now : Nat) (c : ClosureState) : (c.restartStall now).station = c.station := by
  unfold ClosureState.restartStall
  split <;> rfl

theorem ClosureState.restartQuiet_station (now : Nat) (c : ClosureState) : (c.restartQuiet now).station = c.station := by
  unfold ClosureState.restartQuiet
  split <;> rfl

theorem State.Lawful.refuseEdge (h : s.Lawful motion trust []) (k : ClosureId) : (s.refuseEdge k).Lawful motion trust [] :=
  (h.losePosition k).still k _ fun c => by rw [ClosureState.restartQuiet_station, ClosureState.restartStall_station]

theorem ClosureState.countPulse_station (d : Direction) (c : ClosureState) : (c.countPulse d).station = c.station := by
  unfold ClosureState.countPulse
  dsimp only
  split <;> rfl

/-- A context with a permit is RUNNING or REVERSING (R85). -/
theorem State.Lawful.driven (h : s.Lawful motion trust ahead) {k : ClosureId} (driven : s.closures[k].ctx.permit ≠ .hold) :
    s.closures[k].ctx.state = .running ∨ s.closures[k].ctx.state = .reversing := by
  rw [h.permits k] at driven
  unfold ClosureState.lawfulPermit at driven
  split at driven
  · exact .inl ‹_›
  · exact .inr ‹_›
  all_goals exact absurd rfl driven

theorem CtxState.granted_of_moves {x : CtxState} (h : x = .running ∨ x = .reversing) : x.Granted :=
  h.elim CtxState.granted_of_running CtxState.granted_of_reversing

theorem State.Lawful.directionFault (h : s.Lawful motion trust ahead) (k : ClosureId)
    (moves : s.closures[k].ctx.state = .running ∨ s.closures[k].ctx.state = .reversing) :
    (s.directionFault k).Lawful motion trust ahead := by
  have ended := h.endMove_after k .directionFault none
    (fun c => { c with counter := { c.counter with validity := .lost, dirFaultRun := 0 } })
    (fun _ => CtxState.granted_of_moves moves) rfl
  unfold State.directionFault
  rcases moves with state | state <;> rw [state] <;> exact ended

theorem State.Lawful.superviseDirection (h : s.Lawful motion trust ahead) (k : ClosureId) (d : Direction) :
    (s.superviseDirection k d).Lawful motion trust ahead := by
  have supervised := fun run => h.still k (fun x => { x.restartStall s.now with
    counter := { (x.restartStall s.now).counter with dirFaultRun := run } })
    (fun c => c.restartStall_station s.now)
  unfold State.superviseDirection
  dsimp only
  split
  · rename_i faulty
    refine (supervised _).directionFault _ ?_
    have state : (s.closures[k].restartStall s.now).ctx.state = s.closures[k].ctx.state :=
      congrArg Station.state (s.closures[k].restartStall_station s.now)
    rw [State.modClosure_self]
    exact state ▸ h.driven faulty.1
  · exact supervised _

theorem State.Lawful.stepLogic (h : s.Lawful motion trust ahead) (k : ClosureId) (d : Direction) :
    (s.stepLogic k d).Lawful motion trust ahead := by
  have taken := h.modCounter k fun x => { x with stepRecord := some { time := s.now, dir := d } }
  unfold State.stepLogic
  dsimp only
  split
  · split
    · exact (taken.modCounter k _).stepCompleted _ _ _
    · exact taken.still k _
  · exact taken.still k _

theorem State.Lawful.askUnpark (h : s.Lawful motion trust ahead) : s.askUnpark.Lawful motion trust ahead := by
  refine h.congr ?_
  unfold State.askUnpark
  split <;> rfl

theorem State.Lawful.movedUndriven (h : s.Lawful motion trust ahead) (k : ClosureId) :
    (s.movedUndriven k).Lawful motion trust ahead := by
  unfold State.movedUndriven
  dsimp only
  split
  · exact (h.postTo _ _).askUnpark
  · exact h.postTo _ _

theorem State.Lawful.undrivenPulse (h : s.Lawful motion trust ahead) (k : ClosureId) :
    (s.undrivenPulse k).Lawful motion trust ahead := by
  have counted := h.modCounter k fun x =>
    { x with burst := min Config.runLength (x.burst + 1), undrivenTimer := some (s.now + Config.undrivenQuiet) }
  unfold State.undrivenPulse
  dsimp only
  split
  · split
    · exact counted.congr rfl
    · exact counted.movedUndriven _
  · exact counted

theorem State.Lawful.reportPulse (h : s.Lawful motion trust ahead) (k : ClosureId) :
    (s.reportPulse k).Lawful motion trust ahead := by
  unfold State.reportPulse
  dsimp only
  split
  · exact h.still _ _ (ClosureState.restartQuiet_station _)
  · split
    · exact h.endMove _ _ _ fun _ => CtxState.granted_of_running ‹_›
    · exact h
  · split
    · exact h.endMove _ _ _ fun _ => CtxState.granted_of_reversing ‹_›
    · exact h
  · exact h

theorem State.Lawful.takePulse (h : s.Lawful motion trust ahead) (k : ClosureId) (d : Direction) (rising : Bool) :
    (s.takePulse k d rising).Lawful motion trust ahead := by
  have counted := (h.still k _ (ClosureState.countPulse_station d)).superviseDirection k d
  have stepped := (counted.stepLogic k d).ite (p := rising) counted
  exact ((stepped.undrivenPulse k).ite stepped).reportPulse k

theorem State.Lawful.hallEdge (h : s.Lawful motion trust []) (k : ClosureId) (ph : Phase) :
    (s.hallEdge k ph).Lawful motion trust [] := by
  have sampled := h.modCounter k (fun x => x.toggle ph) fun x => by cases ph <;> rfl
  exact (sampled.refuseEdge k).ite (sampled.takePulse k _ _)

/-! Phase faults (R9). -/

/-- The phase faults of a move that has been granted (R9). -/
theorem State.Lawful.moveFault (h : s.Lawful motion trust ahead) (k : ClosureId)
    (granted : s.closures[k].ctx.state.Granted) : (s.moveFault k).Lawful motion trust ahead := by
  have counted := h.modCounter k fun x => { x with phaseFaults := min Config.faultLimit (x.phaseFaults + 1) }
  have same : (s.modCounter k fun x => { x with phaseFaults := min Config.faultLimit (x.phaseFaults + 1) }).closures[k].ctx =
      s.closures[k].ctx := by rw [State.modCounter_self]
  have ended := fun r => counted.endMove_after k r none ClosureState.lose (fun _ => same ▸ granted) rfl
  unfold State.moveFault
  dsimp only
  split
  · split
    · exact ended .positionLost
    · exact ended .positionLost
    · exact absurd ‹_› granted.1
    · exact absurd ‹_› granted.2
    · rename_i settling
      refine counted.modClosure k ClosureState.lose fun _ _ law => law.lose fun _ _ _ _ _ => .inl ?_
      exact (congrArg Context.state same).trans settling
  · exact counted

theorem State.Lawful.phaseFault (h : s.Lawful motion trust []) (k : ClosureId) :
    (s.phaseFault k).Lawful motion trust [] := by
  have emptied := h.still k ClosureState.emptyStep
  have same : (s.modClosure k ClosureState.emptyStep).closures[k].ctx = s.closures[k].ctx := by
    rw [State.modClosure_self]
    rfl
  unfold State.phaseFault
  dsimp only
  split
  case h_1 state | h_2 state | h_3 state => exact emptied.moveFault k (by rw [same, state]; decide)
  case h_4 | h_5 => exact emptied.losePosition _

/-! Timers (R76, R103). -/

theorem State.Lawful.endBrake (h : s.Lawful motion trust ahead) (k : ClosureId)
    (reversing : s.closures[k].ctx.state = .reversing) : (s.endBrake k).Lawful motion trust ahead := by
  by_cases reached : s.closures[k].reversalReached = true
  · rw [State.endBrake_reached reached]
    exact h.endMove _ _ _ fun _ => CtxState.granted_of_reversing reversing
  · rw [State.endBrake_short reached]
    exact h.modClosure k (fun _ => _) fun _ _ law => law.reverses (.inr reversing) reversing rfl rfl rfl

end

end Sys2Proof.Machine
end

section
/-! PROOFS. `State.Lawful` at the end of settling, and for the requests and the halts of the motion commands. -/
namespace Sys2Proof.Machine

section
variable {motion trust : Prop} {ahead : List ClosureId} {s t : State}

/-! The end of settling (R103). -/

/-- What a SETTLING context is bound to does not speak of its reversal phase. -/
theorem Station.Law.settled {waits holds : Prop} {x : Station} (law : x.Law motion trust waits holds)
    (settling : x.state = .settling) (phase : Option ReversalPhase) :
    { x with phase := phase }.Law motion trust waits holds :=
  ⟨by rw [law.permit, Station.lawfulPermit, Station.lawfulPermit, settling], law.owner, law.follow, law.slot, law.place,
    law.trusted⟩

theorem State.closureTold_station (s : State) (k : ClosureId) (c : ClosureState) (m : Move) (r : EndReason)
    (started : Bool) : (s.closureTold k c m r started).station =
      { c.station with phase := (s.closureTold k c m r started).verdict.phase } := by
  obtain ⟨p, v, form⟩ := (c.counted k m r s.now).profileAtEnd_form m r s.roughness s.front.temperature
  rw [State.closureTold, State.closureAtEnd, form]
  rfl

theorem State.Lawful.settledTold (h : s.Lawful motion trust ahead) {k : ClosureId}
    (settling : s.closures[k].ctx.state = .settling) (m : Move) (r : EndReason) (started : Bool) :
    (s.settledTold k s.closures[k] m r started).Lawful motion trust ahead := by
  refine (h.postTo _ _).modClosure k (fun _ => s.closureTold k s.closures[k] m r started) fun _ _ law => ?_
  rw [State.closureTold_station]
  exact law.settled settling _

/-- A SETTLING context becomes IDLE. -/
theorem State.Lawful.toIdle (h : s.Lawful motion trust ahead) {k : ClosureId}
    (settling : s.closures[k].ctx.state = .settling) :
    (s.modClosure k ClosureState.toIdle).Lawful motion trust ahead := by
  refine h.modClosure k _ fun _ _ law => Station.law_idle rfl rfl rfl rfl (fun p waits => ?_) fun p holds => ?_
  · exact nomatch settling.symm.trans ((law.place p).mp waits)
  · rcases (law.slot p).mp holds with state | state <;> exact nomatch settling.symm.trans state

/-- A move that check 6 allows at a LOST position needs none (R86, R100). -/
theorem Kind.needless_of_allowed {kind : Kind} {c : ClosureState} (allowed : ¬ (!kind.allowedAt c.readiness) = true)
    (lost : c.counter.validity = .lost) : ¬ kind.needsPosition = true := by
  rw [kind.not_allowedAt_iff, lost] at allowed
  cases kind <;> simp_all [Kind.needsPosition]

theorem State.followOnRefusal_allowed {k : ClosureId} {f : Move} (passes : s.followOnRefusal k f = none) :
    ¬ (!f.kind.allowedAt s.closures[k].readiness) = true := by
  intro fails
  simp only [State.followOnRefusal, fails, if_true] at passes
  split at passes <;> contradiction

theorem State.settledTold_self (s : State) (k : ClosureId) (c : ClosureState) (m : Move) (r : EndReason) (started : Bool) :
    (s.settledTold k c m r started).closures[k] = s.closureTold k c m r started := State.withClosure_self _ _ _

/-- Operations 4 to 6 of R103, with a follow-on that starts only where its position allows it. -/
theorem State.Lawful.concludeSettling (h : s.Lawful motion trust ahead) {k : ClosureId}
    (settling : s.closures[k].ctx.state = .settling) (m : Move) (r : EndReason) (follow : Option (Move × Option DropCause))
    (starts : ∀ f, follow = some (f, none) → s.closures[k].counter.validity = .lost → ¬ f.kind.needsPosition = true) :
    (s.concludeSettling k s.closures[k] m r follow).Lawful motion trust ahead := by
  have told := fun started => h.settledTold settling m r started
  have same := fun started => s.closureTold_station k s.closures[k] m r started
  have settles : ∀ started, (s.settledTold k s.closures[k] m r started).closures[k].ctx.state = .settling :=
    fun started => by
      rw [State.settledTold_self]
      exact (congrArg Station.state (same started)).trans settling
  unfold State.concludeSettling
  dsimp only
  split
  · exact (told _).toIdle (settles _)
  · rename_i f
    refine ((told _).enqueue k f (fun _ => .inr (settles _)) fun _ _ lost => starts f rfl ?_).grantTest
    rw [State.settledTold_self] at lost
    exact (congrArg Station.validity (same true)).symm.trans lost
  · exact ((told _).postTo _ _).toIdle (settles _)

theorem State.Lawful.settleEnd (h : s.Lawful motion trust ahead) (k : ClosureId)
    (settling : s.closures[k].ctx.state = .settling) : (s.settleEnd k).Lawful motion trust ahead := by
  cases hm : s.closures[k].ctx.move with
  | none => simpa only [State.settleEnd, hm] using h
  | some m =>
    cases hr : s.closures[k].ctx.endReason with
    | none => simpa only [State.settleEnd, hm, hr] using h
    | some r =>
      rw [State.settleEnd_eq s k hm hr]
      refine h.concludeSettling settling m r _ fun f passes lost => ?_
      obtain ⟨g, -, same⟩ := Option.map_eq_some_iff.mp passes
      obtain ⟨rfl, passed⟩ := Prod.mk.inj same
      rw [← State.followOnRefusal_eq] at passed
      have allowed := State.followOnRefusal_allowed passed
      rw [State.withClosure_self] at allowed
      obtain ⟨-, counter, -⟩ := s.closureAtEnd_kept s.closures[k] k m r
      exact Kind.needless_of_allowed allowed (counter ▸ lost)

/-! Requests (R86 to R91). -/

theorem State.moveRefusal_allowed {k : ClosureId} {m : Move} (passes : s.moveRefusal k m = none) :
    ¬ (!m.kind.allowedAt s.closures[k].readiness) = true := by
  intro fails
  simp only [State.moveRefusal, fails, if_true] at passes
  repeat' split at passes
  all_goals contradiction

/-- What a way of taking a request says of the context that it meets (R88 to R91). -/
def Context.Fits (x : Context) (m : Move) : Meeting → Prop
  | .refused _ => True
  | .enqueue => x.state = .idle ∨ x.move = none
  | .replaceQueued => x.state = .queued ∧ ∃ old, x.move = some old
  | .supersedeQueued => x.state = .queued ∧ ∃ old, x.move = some old
  | .replaceRunning => x.state = .running ∧ ∃ old, x.move = some old ∧ m.direction = old.direction
  | .supersedeRunning => x.state = .running
  | .store => x.state = .settling ∨ x.state = .reversing

theorem Context.meet_fits (x : Context) (m : Move) : x.Fits m (x.meet m) := by
  unfold Context.meet
  split
  case h_1 old queued hm =>
    split
    · exact ⟨queued, old, hm⟩
    · split
      · exact ⟨queued, old, hm⟩
      · trivial
  case h_2 old running hm =>
    split
    · exact running
    · rename_i same
      split
      · trivial
      · split
        · exact running
        · exact ⟨running, old, hm, not_not.mp same⟩
  case h_3 =>
    split
    · trivial
    · exact .inr ‹_›
  case h_4 => exact .inl ‹_›
  case h_5 => exact .inl ‹_›
  case h_6 => exact .inr ‹_›
  case h_7 => exact .inr ‹_›

/-- A closure that is not ahead of its removal is so after its turn as before it. -/
theorem State.Lawful.unmoved (h : s.Lawful motion trust ahead) {k : ClosureId} (stays : motion → k ∉ ahead) :
    s.Lawful motion trust (ahead.filter fun j => decide (j ≠ k)) := by
  by_cases m : motion
  · rwa [List.filter_eq_self.mpr fun j hj => decide_eq_true (ne_of_mem_of_not_mem hj (stays m))]
  · exact h.motionless m

theorem State.replaceInQueue_closures (s : State) (k : ClosureId) : (s.replaceInQueue k).closures = s.closures := by
  unfold State.replaceInQueue
  split <;> rfl

theorem State.replaceInQueue_now (s : State) (k : ClosureId) : (s.replaceInQueue k).now = s.now := by
  unfold State.replaceInQueue
  split <;> rfl

theorem State.Lawful.replaceQueued (h : s.Lawful motion trust ahead) (k : ClosureId) {m old : Move}
    (queued : s.closures[k].ctx.state = .queued) (hm : s.closures[k].ctx.move = some old)
    (needless : s.closures[k].counter.validity = .lost → ¬ m.kind.needsPosition = true)
    (overdue : motion → k ∈ ahead →
      (s.closures[k].ctx.replace s.now s.seats[m.seat].record.holdUnits m).isOverdue s.now = true) :
    (s.replaceQueued k m).Lawful motion trust (ahead.filter fun j => decide (j ≠ k)) := by
  have placed := (h.replace k s.now s.seats[m.seat].record.holdUnits hm (.inl queued) needless).replaceInQueue k
  have ctx : ((s.modCtx k (Context.replace s.now s.seats[m.seat].record.holdUnits m)).replaceInQueue k).closures[k].ctx =
      s.closures[k].ctx.replace s.now s.seats[m.seat].record.holdUnits m := by
    simp only [State.replaceInQueue_closures]
    rw [State.modCtx_self]
  unfold State.replaceQueued
  dsimp only
  split
  · exact placed.remove_ahead k _ _ fun _ => by rw [ctx]; exact queued
  · rename_i stays
    rw [ctx, State.replaceInQueue_now] at stays
    exact placed.unmoved fun p hk => stays (overdue p hk)

/-- What a taken request leaves, if it is taken, is lawful. -/
def Submitted.Lawful (motion trust : Prop) (ahead : List ClosureId) : Submitted → Prop
  | .refused _ => True
  | .taken t _ _ => t.Lawful motion trust ahead

theorem State.Lawful.replaceRunning (h : s.Lawful motion trust ahead) (k : ClosureId) {m old : Move}
    (running : s.closures[k].ctx.state = .running) (hm : s.closures[k].ctx.move = some old)
    (same : m.direction = old.direction)
    (needless : s.closures[k].counter.validity = .lost → ¬ m.kind.needsPosition = true) :
    (s.replaceRunning k m).Lawful motion trust ahead := by
  have replaced := h.replace k s.now s.seats[m.seat].record.holdUnits hm (.inr ⟨running, same⟩) needless
  exact (replaced.endMove k .targetReached none fun _ => by
    rw [State.modCtx_self]
    exact CtxState.granted_of_running running).ite replaced

theorem State.Lawful.supersedeRunning (h : s.Lawful motion trust ahead) (k : ClosureId) (m : Move) (w : Option SeatId)
    (running : s.closures[k].ctx.state = .running) :
    ((s.endMove k .superseded w).storeFollowOn k m).Lawful motion trust ahead := by
  have granted := CtxState.granted_of_running running
  refine (h.endMove k .superseded w fun _ => granted).storeFollowOn k m fun p => .inl ?_
  rw [State.endMove_self _ _ (h.away p granted)]
  rfl

/-- A request that passes its checks is taken lawfully, at a closure that its removal takes out of those ahead. -/
theorem State.Lawful.takeMove (h : s.Lawful motion trust ahead) (k : ClosureId) (m : Move)
    (needless : s.closures[k].counter.validity = .lost → ¬ m.kind.needsPosition = true)
    (removes : motion → k ∈ ahead → s.closures[k].ctx.meet m = .supersedeQueued ∨
      s.closures[k].ctx.meet m = .replaceQueued ∧
        (s.closures[k].ctx.replace s.now s.seats[m.seat].record.holdUnits m).isOverdue s.now = true) :
    (s.takeMove k m).Lawful motion trust (ahead.filter fun j => decide (j ≠ k)) := by
  have meets := s.closures[k].ctx.meet_fits m
  unfold State.takeMove
  split <;> rename_i met <;> rw [met] at meets removes
  case h_1 => trivial
  case h_2 =>
    refine ((h.unmoved (k := k) fun p hk => ?_).enqueue k m (fun p => .inl ?_) fun _ _ => needless).grantTest
    · rcases removes p hk with met | ⟨met, -⟩ <;> contradiction
    · rcases meets with idle | ownerless
      · exact idle
      · by_contra busy
        exact nomatch ownerless ▸ h.owned p busy
  case h_3 =>
    obtain ⟨queued, old, hm⟩ := meets
    refine h.replaceQueued k queued hm needless fun p hk => ?_
    rcases removes p hk with met | ⟨-, overdue⟩
    · contradiction
    · exact overdue
  case h_4 =>
    obtain ⟨queued, old, hm⟩ := meets
    have removed := h.remove_ahead k .superseded (some m.seat) fun _ => queued
    obtain ⟨closures, -⟩ := State.remove_removed (u := s) .superseded (some m.seat) hm
    have self : (s.remove k .superseded (some m.seat)).closures[k] =
        s.closures[k].removedAt k old .superseded (some m.seat) s.front.reading := by
      simp only [closures]
      exact s.withClosure_self k _
    refine (removed.enqueue k m (fun _ => .inl ?_) fun _ _ lost => needless ?_).grantTest
    · rw [self]
      rfl
    · rw [self] at lost
      exact lost
  case h_5 =>
    obtain ⟨running, old, hm, same⟩ := meets
    refine (h.unmoved (k := k) fun p hk => ?_).replaceRunning k running hm same needless
    rcases removes p hk with met | ⟨met, -⟩ <;> contradiction
  case h_6 =>
    refine (h.unmoved (k := k) fun p hk => ?_).supersedeRunning k m _ meets
    rcases removes p hk with met | ⟨met, -⟩ <;> contradiction
  case h_7 =>
    refine (h.unmoved (k := k) fun p hk => ?_).storeFollowOn k m fun _ => meets
    rcases removes p hk with met | ⟨met, -⟩ <;> contradiction

/-- A request is refused or taken lawfully (R86). -/
theorem State.Lawful.submit (h : s.Lawful motion trust ahead) (k : ClosureId) (asked : Move)
    (removes : motion → k ∈ ahead → s.removesQueued k (s.closures[k].desc.clampTarget asked) = true) :
    (s.submit k asked).Lawful motion trust (ahead.filter fun j => decide (j ≠ k)) := by
  unfold State.submit
  dsimp only
  split
  · trivial
  · rename_i passes
    refine h.takeMove k _ (Kind.needless_of_allowed (State.moveRefusal_allowed passes)) fun p hk => ?_
    have removes := removes p hk
    rw [State.removesQueued, passes, Option.isNone_none, Bool.true_and] at removes
    split at removes
    · exact .inl ‹_›
    · exact .inr ⟨‹_›, removes⟩
    all_goals contradiction

end

end Sys2Proof.Machine
end

section
/-! PROOFS. `State.Lawful` for a GLOBAL command (R96; log entry 14): what a turn at one closure leaves alone, and the
closures that are out of the slot queue ahead of their turns. -/
namespace Sys2Proof.Machine

/-! What a turn at one closure leaves alone. -/

/-- The closures in the slot queue. -/
def State.queued (s : State) : List ClosureId := s.arbiter.queue.map (·.closure)

/-- A turn at closure `k` leaves every other closure that does not wait in the slot queue, the seats' records, and all that
is outside the closures, the seats, the slot arbiter and the store. -/
structure State.Turned (k : ClosureId) (s t : State) : Prop where
  outside : s.SameOutside t
  record : ∀ n : SeatId, t.seats[n].record = s.seats[n].record
  aside : ∀ j : ClosureId, j ≠ k → j ∉ s.queued → t.closures[j] = s.closures[j] ∧ j ∉ t.queued

section
variable {k : ClosureId} {s t u : State}

theorem State.Turned.trans (h : s.Turned k t) (g : t.Turned k u) : s.Turned k u where
  outside := h.outside.trans g.outside
  record n := (g.record n).trans (h.record n)
  aside j hj hq := by
    obtain ⟨same, away⟩ := h.aside j hj hq
    obtain ⟨same', away'⟩ := g.aside j hj away
    exact ⟨same'.trans same, away'⟩

theorem State.Turned.ite {p : Prop} [Decidable p] (h : s.Turned k t) (g : s.Turned k u) :
    s.Turned k (if p then t else u) := by
  split
  · exact h
  · exact g

theorem State.Turned.refl (s : State) : s.Turned k s := ⟨.refl s, fun _ => rfl, fun _ _ hq => ⟨rfl, hq⟩⟩

theorem State.turned_modClosure (s : State) (k : ClosureId) (f : ClosureState → ClosureState) :
    s.Turned k (s.modClosure k f) :=
  ⟨s.sameOutside_modClosure k f, fun _ => rfl, fun _ hj hq => ⟨s.modClosure_other f hj, hq⟩⟩

theorem State.turned_modCtx (s : State) (k : ClosureId) (f : Context → Context) : s.Turned k (s.modCtx k f) :=
  s.turned_modClosure k _

theorem State.turned_postTo (s : State) (k : ClosureId) (p : SeatId → Bool) (b : NoticeBody) :
    s.Turned k (s.postTo p b) :=
  ⟨s.sameOutside_postTo p b, State.record_of_seats rfl, fun _ _ hq => ⟨rfl, hq⟩⟩

/-- The slot arbiter changes, and no closure but `k` joins the slot queue. -/
theorem State.turned_arbiter {k : ClosureId} (s : State) (f : Arbiter → Arbiter)
    (joins : ∀ j ∈ (s.modArbiter f).queued, j = k ∨ j ∈ s.queued) : s.Turned k (s.modArbiter f) :=
  ⟨s.sameOutside_modArbiter f, fun _ => rfl, fun j hj hq => ⟨rfl, fun waits => (joins j waits).elim hj hq⟩⟩

theorem State.grant_queued (s : State) (k : ClosureId) : ∀ j ∈ (s.grant k).queued, j ∈ s.queued := by
  rw [State.queued, State.grant_queue]
  exact fun j hj => (List.filter_sublist.map _).subset hj

theorem State.grantLoop_queued (fuel : Nat) (s : State) : ∀ j ∈ (s.grantLoop fuel).queued, j ∈ s.queued := by
  induction fuel generalizing s with
  | zero => exact fun _ hj => hj
  | succ n ih =>
    rcases queue : s.arbiter.queue with _ | ⟨head, rest⟩
    · simp only [State.grantLoop, queue]
      exact fun _ hj => hj
    · rw [State.grantLoop_cons n queue]
      split
      · split
        · unfold State.askUnpark
          split <;> exact fun _ hj => hj
        · split
          · exact fun j hj => s.grant_queued _ j (ih _ j hj)
          · exact fun _ hj => hj
      · exact fun _ hj => hj

theorem State.turned_grantTest (s : State) (k : ClosureId) : s.Turned k s.grantTest where
  outside := s.sameOutside_grantTest
  record _ := by rw [State.grantTest, State.grantLoop_seats]
  aside j _ hq :=
    ⟨State.grantLoop_other _ _ j fun e he same => hq (List.mem_map.mpr ⟨e, he, same⟩),
      fun waits => hq (State.grantLoop_queued _ _ j waits)⟩

theorem State.turned_leaveQueue (s : State) (k : ClosureId) : s.Turned k (s.leaveQueue k) :=
  s.turned_arbiter _ fun _ hj => .inr ((List.filter_sublist.map _).subset hj)

theorem State.turned_endMove (s : State) (k : ClosureId) (r : EndReason) (w : Option SeatId) :
    s.Turned k (s.endMove k r w) :=
  .trans (t := s.settle k r w)
    ⟨s.sameOutside_settle k r w, fun _ => rfl, fun _ hj hq => ⟨s.modClosure_other _ hj, hq⟩⟩ (State.turned_grantTest _ k)

theorem State.turned_remove (s : State) (k : ClosureId) (r : EndReason) (w : Option SeatId) :
    s.Turned k (s.remove k r w) := by
  unfold State.remove
  dsimp only
  split
  · exact .refl s
  · exact (((s.turned_leaveQueue k).trans (State.turned_modClosure _ k _)).trans (State.turned_postTo _ k _ _)).trans
      (State.turned_modClosure _ k _)

/-- The closure of `k` is the only one that joins the slot queue with an entry of `k` (R110). -/
theorem State.queued_insertEntry {q : List QueueEntry} {e : QueueEntry} (t : State) :
    ∀ j ∈ (t.insertEntry e q).map (·.closure), j = e.closure ∨ j ∈ q.map (·.closure) :=
  fun _ hj => List.mem_cons.mp ((t.map_insertEntry e q).mem_iff.mp hj)

theorem State.turned_arrive (s : State) (k : ClosureId) : s.Turned k (s.arrive k) := by
  unfold State.arrive
  exact s.turned_arbiter _ fun j hj => s.queued_insertEntry j hj

theorem State.turned_enqueue (s : State) (k : ClosureId) (m : Move) : s.Turned k (s.enqueue k m) :=
  (s.turned_modCtx k _).trans (State.turned_arrive _ k)

theorem State.turned_dropFollowOn (s : State) (k : ClosureId) (c : DropCause) : s.Turned k (s.dropFollowOn k c) := by
  unfold State.dropFollowOn
  split
  · exact .refl s
  · exact (s.turned_modClosure k _).trans (State.turned_postTo _ k _ _)

theorem State.turned_storeFollowOn (s : State) (k : ClosureId) (m : Move) : s.Turned k (s.storeFollowOn k m) :=
  (s.turned_dropFollowOn k _).trans (State.turned_modCtx _ k fun x => { x with followOn := some m })

theorem State.turned_replaceInQueue (s : State) (k : ClosureId) : s.Turned k (s.replaceInQueue k) := by
  unfold State.replaceInQueue
  split
  · rename_i e found
    obtain rfl : e.closure = k := of_decide_eq_true (List.find?_some found :)
    exact (s.turned_leaveQueue e.closure).trans (State.turned_arbiter _ _ (State.queued_insertEntry _))
  · exact .refl s

/-- What a taken request leaves, if it is taken, is a turn at its closure. -/
def Submitted.Turned (k : ClosureId) (s : State) : Submitted → Prop
  | .refused _ => True
  | .taken t _ _ => s.Turned k t

theorem State.turned_takeMove (s : State) (k : ClosureId) (m : Move) : (s.takeMove k m).Turned k s := by
  have replaced := s.turned_modCtx k (Context.replace s.now s.seats[m.seat].record.holdUnits m)
  unfold State.takeMove
  split
  · trivial
  · exact (s.turned_enqueue k m).trans (State.turned_grantTest _ k)
  · have placed := replaced.trans (State.turned_replaceInQueue _ k)
    exact (placed.trans (State.turned_remove _ k _ _)).ite placed
  · exact ((s.turned_remove k _ _).trans (State.turned_enqueue _ k m)).trans (State.turned_grantTest _ k)
  · exact (replaced.trans (State.turned_endMove _ k _ _)).ite replaced
  · exact (s.turned_endMove k _ _).trans (State.turned_storeFollowOn _ k m)
  · exact s.turned_storeFollowOn k m

theorem State.turned_submit (s : State) (k : ClosureId) (asked : Move) : (s.submit k asked).Turned k s := by
  unfold State.submit
  dsimp only
  split
  · trivial
  · exact s.turned_takeMove k _

/-- A request's checks depend on its closure, on the seats' records and on what is outside the closures, the seats, the
slot arbiter and the store. -/
theorem State.moveRefusal_congr {j : ClosureId} (outside : s.SameOutside t)
    (record : ∀ n : SeatId, t.seats[n].record = s.seats[n].record) (same : t.closures[j] = s.closures[j]) (m : Move) :
    t.moveRefusal j m = s.moveRefusal j m := by
  obtain ⟨-, -, -, -, -, front, settings, words, window, -, -⟩ := outside
  have locked : t.lockedOut j m = s.lockedOut j m := by simp only [State.lockedOut, State.childLock, words]
  have ignition : t.ignitionOffFor m = s.ignitionOffFor m := by
    unfold State.ignitionOffFor State.ignition
    rw [words, window]
  have supply : t.supplyBars m = s.supplyBars m := by simp only [State.supplyBars, front, settings]
  unfold State.moveRefusal
  rw [same, record, locked, ignition, supply]

/-- So does whether it removes the QUEUED move of its closure. -/
theorem State.removesQueued_congr {j : ClosureId} (outside : s.SameOutside t)
    (record : ∀ n : SeatId, t.seats[n].record = s.seats[n].record) (same : t.closures[j] = s.closures[j]) (m : Move) :
    t.removesQueued j m = s.removesQueued j m := by
  have now : t.now = s.now := outside.now
  simp only [State.removesQueued, State.moveRefusal_congr outside record same, same, now, record]

end

/-! A GLOBAL command (R96). -/

section
variable {motion trust : Prop} {ahead : List ClosureId} {s : State}

/-- Closures leave the slot queue ahead of their removal (log entry 14). -/
theorem State.Lawful.clearQueue (h : s.Lawful motion trust ahead) (ask : Move) (l : List ClosureId) :
    (s.clearQueue ask l).Lawful motion trust
      (s.queued.filter (fun j => decide (j ∈ l.filter fun k => s.removesQueued k ask)) ++ ahead) := by
  rw [State.clearQueue_eq]
  refine h.reorder rfl rfl (fun _ => ?_) h.count
  rw [State.waiters, State.waiters, ← List.append_assoc]
  refine List.Perm.append_right ahead ?_
  have parts := List.filter_append_perm (fun j => decide (j ∈ l.filter fun k => s.removesQueued k ask)) s.queued
  refine .trans ?_ parts
  refine .trans List.perm_append_comm (.append_left _ (.of_eq ?_))
  rw [State.queued, List.filter_map]
  simp only [decide_not]
  rfl

/-- A GLOBAL command before the turns of `rest`: lawful, with closures ahead of their removal only where a later turn
removes them. -/
def GlobalRun.Lawful (motion trust : Prop) (ask : Move) (rest : List ClosureId) (x : GlobalRun) : Prop :=
  ∃ ahead, x.state.Lawful motion trust ahead ∧
    (motion → ∀ j ∈ ahead, j ∈ rest ∧ x.state.removesQueued j ask = true)

theorem State.submit_of_removesQueued {k : ClosureId} {m : Move}
    (fixed : s.closures[k].desc.clampTarget m = m) (removes : s.removesQueued k m = true) :
    ∃ t target way, s.submit k m = .taken t target way := by
  rw [State.removesQueued, Bool.and_eq_true, Option.isNone_iff_eq_none] at removes
  obtain ⟨passes, meets⟩ := removes
  have taken : s.submit k m = s.takeMove k m := by
    unfold State.submit
    rw [fixed]
    dsimp only
    rw [passes]
  rw [taken, State.takeMove]
  split at meets
  case h_1 met | h_2 met =>
    rw [met]
    exact ⟨_, _, _, rfl⟩
  all_goals contradiction

theorem State.removesQueued_clearQueue (s : State) (ask : Move) (l : List ClosureId) (j : ClosureId) (m : Move) :
    (s.clearQueue ask l).removesQueued j m = s.removesQueued j m := by
  rw [State.clearQueue_eq]
  rfl

variable {ask : Move} {asked rest : List ClosureId} {k : ClosureId} {x : GlobalRun}

/-- A turn of a GLOBAL command, its way cleared. -/
theorem State.Lawful.submit_turn (h : s.Lawful motion trust ahead)
    (later : motion → ∀ j ∈ ahead, j ∈ k :: rest ∧ s.removesQueued j ask = true)
    (fixed : s.closures[k].desc.clampTarget ask = ask) {t : State} {target : Option Int} {way : Way}
    (taken : s.submit k ask = .taken t target way) : GlobalRun.Lawful motion trust ask rest { x with state := t } := by
  have lawful := h.submit k ask fun p hk => fixed.symm ▸ (later p k hk).2
  have turned := s.turned_submit k ask
  rw [taken] at lawful turned
  refine ⟨_, lawful, fun p j hj => ?_⟩
  obtain ⟨waits, other⟩ := List.mem_filter.mp hj
  have other := of_decide_eq_true other
  obtain ⟨follows, removes⟩ := later p j waits
  have away : j ∉ s.queued := fun queued => (List.nodup_append.mp (h.once p)).2.2 j queued j waits rfl
  refine ⟨(List.mem_cons.mp follows).resolve_left other, ?_⟩
  rw [State.removesQueued_congr turned.outside turned.record (turned.aside j other away).1]
  exact removes

/-- The way of a slot release cleared: later closures leave the slot queue ahead of their turns (log entry 14). -/
theorem State.Lawful.clear_turn (h : s.Lawful motion trust ahead)
    (later : motion → ∀ j ∈ ahead, j ∈ k :: rest ∧ s.removesQueued j ask = true) (after : ∀ j ∈ asked, k < j → j ∈ rest) :
    ∃ ahead', (s.clearQueue ask (asked.filter (k < ·))).Lawful motion trust ahead' ∧ (motion → ∀ j ∈ ahead',
      j ∈ k :: rest ∧ (s.clearQueue ask (asked.filter (k < ·))).removesQueued j ask = true) := by
  refine ⟨_, h.clearQueue ask _, fun p j hj => ?_⟩
  rw [State.removesQueued_clearQueue]
  rcases List.mem_append.mp hj with cleared | waits
  · obtain ⟨-, cleared⟩ := List.mem_filter.mp cleared
    obtain ⟨follows, removes⟩ := List.mem_filter.mp (of_decide_eq_true cleared)
    obtain ⟨isAsked, higher⟩ := List.mem_filter.mp follows
    exact ⟨List.mem_cons_of_mem k (after j isAsked (of_decide_eq_true higher)), removes⟩
  · exact later p j waits

theorem GlobalRun.Lawful.take (h : x.Lawful motion trust ask (k :: rest)) (target : ask.target = none)
    (after : ∀ j ∈ asked, k < j → j ∈ rest) : (x.take ask asked k).Lawful motion trust ask rest := by
  have fixed : ∀ d : Description, d.clampTarget ask = ask := fun d => by
    unfold Description.clampTarget
    rw [target]
    cases ask
    cases target
    rfl
  obtain ⟨ahead, lawful, later⟩ := h
  have turn : ∀ s : State, (∀ j, s.removesQueued j ask = x.state.removesQueued j ask) → (∃ ahead',
      s.Lawful motion trust ahead' ∧ (motion → ∀ j ∈ ahead', j ∈ k :: rest ∧ s.removesQueued j ask = true)) →
      GlobalRun.Lawful motion trust ask rest (match s.submit k ask with
        | .refused r => { x with first := some (x.first.getD r) }
        | .taken t _ _ => { x with state := t, taken := x.taken + 2 ^ k.val }) := by
    rintro s same ⟨ahead', clear, follows⟩
    split
    · rename_i refused
      refine ⟨ahead, lawful, fun p j hj => ?_⟩
      obtain ⟨turns, removes⟩ := later p j hj
      refine ⟨(List.mem_cons.mp turns).resolve_left ?_, removes⟩
      rintro rfl
      obtain ⟨t, target, way, taken⟩ := State.submit_of_removesQueued (fixed _) ((same j).trans removes)
      exact nomatch refused.symm.trans taken
    · exact clear.submit_turn (x := { x with taken := x.taken + 2 ^ k.val }) follows (fixed _) ‹_›
  unfold GlobalRun.take
  dsimp only
  refine turn _ (fun j => ?_) ?_
  · split
    · rw [State.removesQueued_clearQueue]
    · rfl
  · split
    · exact lawful.clear_turn later after
    · exact ⟨ahead, lawful, later⟩

theorem GlobalRun.Lawful.takes (target : ask.target = none) (sorted : asked.Pairwise (· < ·)) :
    ∀ {done rest : List ClosureId} {x : GlobalRun}, asked = done ++ rest → x.Lawful motion trust ask rest →
      (rest.foldl (GlobalRun.take ask asked) x).Lawful motion trust ask [] := by
  intro done rest
  induction rest generalizing done with
  | nil => exact fun _ h => h
  | cons k rest ih =>
    intro x split h
    refine ih (done := done ++ [k]) (by rw [split, List.append_assoc]; rfl) (h.take target fun j hj higher => ?_)
    rw [split] at hj sorted
    obtain ⟨-, -, below⟩ := List.pairwise_append.mp sorted
    rcases List.mem_append.mp hj with early | late
    · exact absurd (below j early k List.mem_cons_self) (Fin.lt_asymm higher)
    · exact (List.mem_cons.mp late).resolve_left (Fin.ne_of_gt higher)

theorem GlobalRun.Lawful.state (h : x.Lawful motion trust ask []) : x.state.Lawful motion trust [] := by
  obtain ⟨ahead, lawful, later⟩ := h
  by_cases p : motion
  · rwa [List.eq_nil_iff_forall_not_mem.mpr fun j hj => List.not_mem_nil (later p j hj).1] at lawful
  · exact lawful.motionless p

theorem State.Lawful.answerGlobal (h : s.Lawful motion trust []) (n : SeatId) (args : List Byte) :
    (s.answerGlobal n args).state.Lawful motion trust [] := by
  have sorted : ∀ p : ClosureId → Bool, (allClosures.filter p).Pairwise (· < ·) := fun p =>
    List.Pairwise.filter p (by decide)
  unfold State.answerGlobal
  split
  · split
    · split
      · exact h
      · split
        · exact State.Lawful.accept
            (GlobalRun.Lawful.takes rfl (sorted _) (List.nil_append _).symm ⟨[], h, fun _ _ => nofun⟩).state _
        · exact h
    · exact h
  · exact h

end

end Sys2Proof.Machine
end

section
/-! PROOFS. `State.Lawful` for the other commands, the store, the front end, the frames and the events of power; what
every step keeps (R84, R85, R101, R107, R110): O5, O6 and O10. -/
namespace Sys2Proof.Machine

section
variable {motion trust : Prop} {s t : State}

/-! Motion commands. -/

theorem State.Lawful.moveCommand (h : s.Lawful motion trust []) (n : SeatId) (k kind dir origin : Byte)
    (target : Option Int) : (s.moveCommand n k kind dir origin target).state.Lawful motion trust [] := by
  unfold State.moveCommand
  split
  · exact h
  · rename_i j _
    split
    · exact h
    · rename_i m _
      have submitted := h.submit j m fun _ => nofun
      split
      · exact h
      · rename_i taken
        rw [taken] at submitted
        exact submitted

theorem State.Lawful.answerMove (h : s.Lawful motion trust []) (n : SeatId) (args : List Byte) :
    (s.answerMove n args).state.Lawful motion trust [] := by
  unfold State.answerMove
  split
  · exact h.moveCommand _ _ _ _ _ _
  · exact h.moveCommand _ _ _ _ _ _
  · exact h

theorem State.Lawful.answerRenew (h : s.Lawful motion trust []) (n : SeatId) (args : List Byte) :
    (s.answerRenew n args).state.Lawful motion trust [] := by
  unfold State.answerRenew
  split
  · split
    · exact h
    · split
      · exact (h.modCtx _ _).accept _
      · exact h
  · exact h

theorem State.Lawful.halt (h : s.Lawful motion trust []) (k : ClosureId) (r : EndReason) (c : DropCause) (n : SeatId) :
    (s.halt k r c n).Lawful motion trust [] := by
  unfold State.halt
  split
  · exact h.endMove _ _ _ fun _ => CtxState.granted_of_running ‹_›
  · exact (h.endMove _ _ _ fun _ => CtxState.granted_of_reversing ‹_›).dropFollowOn _ _
  · exact h.remove _ _ _ fun _ => ‹_›
  · exact h.dropFollowOn _ _
  · exact h

theorem State.Lawful.answerStop (h : s.Lawful motion trust []) (n : SeatId) (args : List Byte) :
    (s.answerStop n args).state.Lawful motion trust [] := by
  unfold State.answerStop
  split
  · split
    · exact h
    · split
      · exact State.Lawful.accept (h.halt _ _ _ _) _
      · exact h
  · exact h

theorem State.Lawful.answerClear (h : s.Lawful motion trust []) (n : SeatId) (args : List Byte) :
    (s.answerClear n args).state.Lawful motion trust [] := by
  unfold State.answerClear
  split
  · split
    · exact h
    · split
      · exact State.Lawful.accept (State.Lawful.modCounter ((h.halt _ _ _ _).still _ _) _ _) _
      · exact h
  · exact h

/-- QUEUED moves are removed, closure by closure (R97, R99, R100). -/
theorem State.Lawful.removes (h : s.Lawful motion trust []) (chosen : Context → Prop) [DecidablePred chosen]
    (l : List ClosureId)
    (r : EndReason) (w : Option SeatId) (queued : ∀ x, chosen x → x.state = .queued) :
    (l.foldl (fun t k => if chosen t.closures[k].ctx then t.remove k r w else t) s).Lawful motion trust [] := by
  refine h.foldl _ (fun t k g => ?_) l
  split
  · exact g.remove k r w fun _ => queued _ ‹_›
  · exact g

/-- Every follow-on is dropped without a notice (R97). -/
theorem State.Lawful.withoutFollowOns (h : s.Lawful motion trust []) :
    (s.mapClosures fun _ c => c.withoutFollowOn).Lawful motion trust [] :=
  h.mapClosures _ fun _ _ _ ⟨permit, owner, _, slot, place, trusted⟩ => ⟨permit, owner, nofun, slot, place, trusted⟩

theorem State.Lawful.allStop (h : s.Lawful motion trust []) (who : Option SeatId) :
    (s.allStop who).Lawful motion trust [] := by
  have removed := h.removes (fun x => x.state = .queued) allClosures .allStopped who fun _ queued => queued
  unfold State.allStop
  refine State.Lawful.withoutFollowOns (removed.endMoves _ .allStopped who fun k hk => ?_)
  exact Context.granted_of_moving (List.mem_filter.mp hk).2

theorem State.Lawful.answerAllStop (h : s.Lawful motion trust []) (n : SeatId) (args : List Byte) :
    (s.answerAllStop n args).state.Lawful motion trust [] := by
  unfold State.answerAllStop
  split
  · exact State.Lawful.accept (h.allStop _) _
  · exact h

theorem State.Lawful.broadcastAllStop (h : s.Lawful motion trust []) (args : List Byte) :
    (s.broadcastAllStop args).Lawful motion trust [] := by
  unfold State.broadcastAllStop
  split
  · exact h.allStop _
  · exact h

/-! Profile, statistics, settings, seats and words. -/

theorem State.Lawful.answerClearStats (h : s.Lawful motion trust []) (n : SeatId) (args : List Byte) :
    (s.answerClearStats n args).state.Lawful motion trust [] := by
  unfold State.answerClearStats
  split
  · split
    · exact h
    · split
      · exact State.Lawful.accept (h.still _ _) _
      · exact h
  · exact h

theorem State.Lawful.answerWriteProfileZone (h : s.Lawful motion trust []) (n : SeatId) (args : List Byte) :
    (s.answerWriteProfileZone n args).state.Lawful motion trust [] := by
  unfold State.answerWriteProfileZone
  split
  · split
    · exact h
    · split
      · exact h
      · split
        · split
          · exact State.Lawful.accept (h.still _ _) _
          · exact h
        · exact h
  · exact h

theorem State.Lawful.answerMarkLearned (h : s.Lawful motion trust []) (n : SeatId) (args : List Byte) :
    (s.answerMarkLearned n args).state.Lawful motion trust [] := by
  unfold State.answerMarkLearned
  split
  · split
    · exact h
    · split
      · exact State.Lawful.accept (h.still _ _) _
      · exact h
  · exact h

/-- Only a write of a structural field changes the travel (R1, R2). -/
theorem Description.write_travel_of_free {d e : Description} {id v : Nat} (h : d.write id v = some e) (free : 4 < id) :
    e.travel = d.travel := by
  unfold Description.write at h
  split at h
  case h_1 | h_2 | h_3 | h_4 | h_5 => omega
  case h_6 | h_22 =>
    obtain ⟨x, -, rfl⟩ := Option.map_eq_some_iff.mp h
    rfl
  case h_15 =>
    obtain rfl := Option.some.inj h
    split <;> rfl
  case h_23 => exact nomatch h
  all_goals
    obtain rfl := Option.some.inj h
    rfl

/-- A description write leaves a closure's station; a change of travel may lose the position (R3). -/
theorem ClosureState.adjustAfterWrite_station (c : ClosureState) (e : Description) :
    (ClosureState.adjustAfterWrite c.desc { c with desc := e }).station = c.station ∨
    e.travel ≠ c.desc.travel ∧
      (ClosureState.adjustAfterWrite c.desc { c with desc := e }).station = { c.station with validity := .lost } := by
  unfold ClosureState.adjustAfterWrite
  dsimp only
  split
  · exact .inl rfl
  · split
    · rename_i changed
      unfold ClosureState.limitPosition
      split
      · exact .inr ⟨changed, rfl⟩
      · exact .inl rfl
    · split
      · exact .inl rfl
      · exact .inl rfl

theorem State.Lawful.writeDescription (h : s.Lawful motion trust []) (k : ClosureId) {e : Description}
    (idle : e.travel ≠ s.closures[k].desc.travel → s.closures[k].ctx.state = .idle) :
    (s.writeDescription k e).Lawful motion trust [] := by
  have written : (s.modClosure k fun c =>
      ClosureState.adjustAfterWrite s.closures[k].desc { c with desc := e }).Lawful motion trust [] := by
    refine h.modClosure k _ fun _ _ law => ?_
    rcases s.closures[k].adjustAfterWrite_station e with same | ⟨changed, lost⟩
    · rwa [same]
    · rw [lost]
      exact law.lose fun _ _ _ _ _ => .inr (idle changed)
  exact (written.losePosition k).ite written

theorem State.Lawful.writeField (h : s.Lawful motion trust []) (n : SeatId) (k id : Byte) (v : Nat) :
    (s.writeField n k id v).state.Lawful motion trust [] := by
  unfold State.writeField
  split
  · exact h
  · split
    · exact h
    · split
      · exact h
      · split
        · exact h
        · rename_i written
          split
          · exact h
          · rename_i taken
            refine (h.writeDescription _ fun changed => ?_).accept _
            have structural : id.toNat ≤ 4 := not_lt.mp fun free => changed (Description.write_travel_of_free written free)
            simpa [isStructural, structural] using taken

theorem State.anyHoldsOrWaits_eq_false (h : ¬ s.anyHoldsOrWaits = true) (k : ClosureId) :
    s.closures[k].ctx.state = .idle ∨ s.closures[k].ctx.state = .settling := by
  rw [State.anyHoldsOrWaits, List.any_eq_true] at h
  have rests := fun busy => h ⟨k, mem_allClosures k, busy⟩
  cases hx : s.closures[k].ctx.state with
  | idle => exact .inl rfl
  | settling => exact .inr rfl
  | queued | running | reversing => exact absurd (by rw [hx]) rests

/-- The slot count and the effective slot count change together (R106, R113). -/
theorem State.Lawful.resize (h : s.Lawful motion trust []) (settings : Settings) (n : Nat)
    (held : motion → s.arbiter.heldCount ≤ max 1 settings.slots) (within : motion → n ≤ max 1 settings.slots)
    (derated : motion → s.arbiter.derating = true → n ≤ 1) :
    ({ s with settings := settings, arbiter := { s.arbiter with effective := n } } : State).Lawful motion trust [] :=
  ⟨h.station, h.once, fun p => ⟨held p, within p, derated p⟩⟩

theorem State.Lawful.writeSupplySetting (h : s.Lawful motion trust []) (n : SeatId) (x : SupplySetting) (v : Nat) :
    (s.writeSupplySetting n x v).state.Lawful motion trust [] := by
  unfold State.writeSupplySetting
  split
  · exact h
  · split
    · exact h
    · rename_i resting
      refine State.Lawful.accept (h.resize _ _ (fun p => ?_) (fun p => ?_) fun p derated => ?_) _
      all_goals obtain ⟨slots, within, derates⟩ := h.count p
      · by_cases isSlots : x = .slots
        · have rests : ¬ s.anyHoldsOrWaits = true := by simpa [isSlots] using resting
          rw [Arbiter.heldCount_eq_zero fun k => ?_]
          · exact Nat.zero_le _
          · rw [Bool.eq_false_iff]
            refine h.slotless p ?_
            rcases State.anyHoldsOrWaits_eq_false rests k with state | state <;> rw [state] <;> decide
        · cases x
          case slots => exact absurd rfl isSlots
          all_goals exact slots
      · by_cases changes : x = .slots ∧ s.arbiter.derating = false
        · rw [if_pos changes]
          exact le_max_right _ _
        · rw [if_neg changes]
          by_cases derated : s.arbiter.derating = true
          · exact (derates derated).trans (le_max_left _ _)
          · have other : x ≠ .slots := fun isSlots => changes ⟨isSlots, Bool.eq_false_iff.mpr derated⟩
            cases x
            case slots => exact absurd rfl other
            all_goals exact within
      · rw [if_neg fun changes => absurd derated (Bool.eq_false_iff.mp changes.2)]
        exact derates derated

theorem State.Lawful.writeRetention (h : s.Lawful motion trust []) (n : SeatId) (v : Nat) :
    (s.writeRetention n v).state.Lawful motion trust [] := by
  unfold State.writeRetention
  split
  · exact h
  · exact h.congr (t := State.mk ..) rfl

theorem State.Lawful.answerWriteSetting (h : s.Lawful motion trust []) (n : SeatId) (args : List Byte) :
    (s.answerWriteSetting n args).state.Lawful motion trust [] := by
  unfold State.answerWriteSetting
  split
  · split
    · exact h.writeSupplySetting _ _ _
    · exact h.writeRetention _ _
    · exact h.writeField _ _ _ _
  · exact h

theorem State.Lawful.answerWriteSeatRecord (h : s.Lawful motion trust []) (n : SeatId) (args : List Byte) :
    (s.answerWriteSeatRecord n args).state.Lawful motion trust [] := by
  unfold State.answerWriteSeatRecord
  split
  · split
    · exact h
    · split
      · exact State.Lawful.accept (h.modSeat _ _) _
      · exact h
  · exact h

theorem State.Lawful.answerTakeNotice (h : s.Lawful motion trust []) (n : SeatId) (args : List Byte) :
    (s.answerTakeNotice n args).state.Lawful motion trust [] := by
  unfold State.answerTakeNotice
  split
  · split
    · exact h
    · exact State.Lawful.accept (h.modSeat _ _) _
  · exact h

theorem State.Lawful.answerReadSeatStatus (h : s.Lawful motion trust []) (n : SeatId) (args : List Byte) :
    (s.answerReadSeatStatus n args).state.Lawful motion trust [] := by
  unfold State.answerReadSeatStatus
  split
  · exact State.Lawful.accept (h.modSeat _ _) _
  · exact h

theorem State.Lawful.lockOut (h : s.Lawful motion trust []) (added : Byte) : (s.lockOut added).Lawful motion trust [] := by
  have removed := h.removes (fun x => x.isLocal .queued = true) (allClosures.filter fun k => hasMember added k.val) .lockedOut none
    fun _ => Context.state_of_isLocal
  exact removed.endMoves _ .lockedOut none fun k hk =>
    CtxState.granted_of_running (Context.state_of_isLocal (List.mem_filter.mp hk).2)

theorem State.Lawful.wordChanged (h : s.Lawful motion trust []) (w : Fin 6) (old new : Byte) :
    (s.wordChanged w old new).Lawful motion trust [] := by
  unfold State.wordChanged
  split
  · exact h.lockOut _
  · exact State.Lawful.ite (.ite h (h.congr rfl)) (.ite (h.congr rfl) h)
  · exact h.ite (h.congr rfl)
  all_goals exact h

theorem State.Lawful.takeWord (h : s.Lawful motion trust []) (w : Fin 6) (v : Byte) :
    (s.takeWord w v).state.Lawful motion trust [] := by
  have written : ({ s with words := s.words.set w (reduceWord w v) } : State).Lawful motion trust [] := h.congr rfl
  exact State.Lawful.accept (written.ite (written.wordChanged _ _ _)) _

theorem State.Lawful.wordCommand (h : s.Lawful motion trust []) (n : SeatId) (w : Byte) {act : Fin 6 → Answer}
    (ha : ∀ x, (act x).state.Lawful motion trust []) : (s.wordCommand n w act).state.Lawful motion trust [] := by
  unfold State.wordCommand
  split
  · exact h
  · split
    · exact ha _
    · exact h

theorem State.Lawful.answerWriteWord (h : s.Lawful motion trust []) (n : SeatId) (args : List Byte) :
    (s.answerWriteWord n args).state.Lawful motion trust [] := by
  unfold State.answerWriteWord
  split
  · exact h.wordCommand _ _ fun _ => h.takeWord _ _
  · exact h

theorem State.Lawful.answerSetBits (h : s.Lawful motion trust []) (n : SeatId) (args : List Byte) :
    (s.answerSetBits n args).state.Lawful motion trust [] := by
  unfold State.answerSetBits
  split
  · exact h.wordCommand _ _ fun _ => h.takeWord _ _
  · exact h

theorem State.Lawful.answerClearBits (h : s.Lawful motion trust []) (n : SeatId) (args : List Byte) :
    (s.answerClearBits n args).state.Lawful motion trust [] := by
  unfold State.answerClearBits
  split
  · exact h.wordCommand _ _ fun _ => h.takeWord _ _
  · exact h

theorem State.Lawful.answerCompareAndWrite (h : s.Lawful motion trust []) (n : SeatId) (args : List Byte) :
    (s.answerCompareAndWrite n args).state.Lawful motion trust [] := by
  unfold State.answerCompareAndWrite
  split
  · refine h.wordCommand _ _ fun _ => ?_
    split
    · exact h.takeWord _ _
    · exact h
  · exact h

/-! The store. -/

theorem State.Lawful.answerCommit (h : s.Lawful motion trust []) (n : SeatId) (args : List Byte) :
    (s.answerCommit n args).state.Lawful motion trust [] := by
  have marked := h.mapStill fun _ c => { c with profile := { c.profile with capture := true } }
  unfold State.answerCommit
  split
  · split
    · exact h
    · split
      · exact h
      · split
        · exact h
        · split
          · exact h
          · exact State.Lawful.accept (s := s.acceptCommit _ _) (marked.congr rfl) _
  · exact h

theorem State.Lawful.commitEnded (h : s.Lawful motion trust []) : s.commitEnded.Lawful motion trust [] := by
  unfold State.commitEnded
  split
  · split
    · exact h.congr rfl
    · exact State.Lawful.grantTest (h.congr rfl)
  all_goals exact h

theorem State.Lawful.completeCommit (h : s.Lawful motion trust []) (n : SeatId) (park : Bool) (captured : Image) :
    (s.completeCommit n park captured).Lawful motion trust [] := by
  have clean := (h.postTo (fun x => decide (x = n)) (.storeDone (commitOp park))).mapStill
    fun _ c => { c with profile := c.profile.retained }
  exact State.Lawful.commitEnded (clean.congr rfl)

theorem State.Lawful.failCommit (h : s.Lawful motion trust []) (n : SeatId) (park : Bool) :
    (s.failCommit n park).Lawful motion trust [] := by
  have unmarked := (h.postTo (fun x => decide (x = n)) (.storeFailed (commitOp park))).mapStill
    fun _ c => { c with profile := { c.profile with capture := false } }
  exact State.Lawful.commitEnded (unmarked.congr rfl)

theorem State.Lawful.endUnpark (h : s.Lawful motion trust []) (b : NoticeBody) (image : Image) :
    (s.endUnpark b image).Lawful motion trust [] :=
  State.Lawful.grantTest ((h.postTo (fun n => s.seats[n].record.grants .commit) b).congr rfl)

/-! The front end. -/

theorem State.Lawful.testDerating (h : s.Lawful motion trust []) : s.testDerating.Lawful motion trust [] :=
  State.Lawful.ite
    (.ite (State.Lawful.grantTest (h.setEffective (le_max_right _ _) nofun)) h)
    (.ite (h.setEffective (le_max_left _ _) fun _ => le_rfl) h)

/-- The supply monitor's own parts of the slot arbiter change (R115, R116). -/
theorem State.Lawful.modArbiter (h : s.Lawful motion trust []) (f : Arbiter → Arbiter)
    (same : ∀ a, (f a).held = a.held ∧ (f a).queue = a.queue ∧ (f a).effective = a.effective ∧
      (f a).derating = a.derating := by exact fun _ => ⟨rfl, rfl, rfl, rfl⟩) :
    (s.modArbiter f).Lawful motion trust [] := by
  obtain ⟨held, queue, effective, derating⟩ := same s.arbiter
  exact h.congr (by simp only [State.bearings, State.modArbiter, held, queue, effective, derating])

theorem State.Lawful.postSupply (h : s.Lawful motion trust []) (due : DueNotice) (b : NoticeBody) :
    (s.postSupply due b).Lawful motion trust [] := State.Lawful.ite (h.congr rfl) (h.postTo _ _)

theorem State.Lawful.endClosings (h : s.Lawful motion trust []) : s.endClosings.Lawful motion trust [] := by
  have removed := h.removes (fun x => x.closes .queued = true) allClosures .supplyLow none fun _ => Context.state_of_closes
  exact removed.endMoves _ .supplyLow none fun k hk =>
    CtxState.granted_of_running (Context.state_of_closes (List.mem_filter.mp hk).2)

theorem State.Lawful.testSupply (h : s.Lawful motion trust []) : s.testSupply.Lawful motion trust [] := by
  have below := h.modArbiter fun a => { a with supplyState := .below }
  unfold State.testSupply
  split
  · split
    · exact h
    · exact (below.ite ((below.postSupply _ _).modArbiter _)).endClosings
  · exact h.modArbiter _

theorem State.Lawful.testRecovery (h : s.Lawful motion trust []) : s.testRecovery.Lawful motion trust [] :=
  State.Lawful.ite ((h.postSupply _ _).modArbiter _) h

/-! Frames, events and power. -/

theorem State.Lawful.advance (h : s.Lawful motion trust []) (dt : Nat) : (s.advance dt).Lawful motion trust [] := h.congr rfl

theorem State.Lawful.sleepTest (h : s.Lawful motion trust []) : s.sleepTest.Lawful motion trust [] :=
  State.Lawful.ite (h.congr rfl) h

theorem State.Lawful.wake (h : s.Lawful motion trust []) : s.wake.Lawful motion trust [] := by
  unfold State.wake
  split
  · exact h
  · rename_i since _
    exact (h.mapStill fun _ c => c.wake (s.now - since)).congr rfl

theorem State.Lawful.onEvent (h : s.Lawful motion trust []) (dt : Nat) {act : State → State}
    (ha : ∀ t : State, t.Lawful motion trust [] → (act t).Lawful motion trust []) :
    (s.onEvent dt act).Lawful motion trust [] := State.Lawful.ite (ha _ (h.advance dt)).sleepTest (h.advance dt)

theorem State.Lawful.frameError (h : s.Lawful motion trust []) (target : Target) (bytes : List Byte) :
    (s.frameError target bytes).Lawful motion trust [] := by
  unfold State.frameError
  split
  · exact h.modSeat _ _
  · exact h

/-- The effect of a frame, whatever command it spells. -/
theorem State.Lawful.frameEffect (h : s.Lawful motion trust []) (c : Instr) : (s.frameEffect c).Lawful motion trust [] := by
  unfold State.frameEffect
  split
  · exact (h.answerMove _ _).placed _ _
  · exact (h.answerRenew _ _).placed _ _
  · exact (h.answerStop _ _).placed _ _
  · exact (h.answerGlobal _ _).placed _ _
  · exact (h.answerClear _ _).placed _ _
  · exact (h.answerAllStop _ _).placed _ _
  · exact h.broadcastAllStop _
  · exact State.Lawful.placed (by simpa using h) _ _
  · exact State.Lawful.placed (by simpa using h) _ _
  · exact State.Lawful.placed (by simpa using h) _ _
  · exact (h.answerClearStats _ _).placed _ _
  · exact State.Lawful.placed (by simpa using h) _ _
  · exact (h.answerWriteProfileZone _ _).placed _ _
  · exact (h.answerMarkLearned _ _).placed _ _
  · exact State.Lawful.placed (by simpa using h) _ _
  · exact State.Lawful.placed h _ _
  · exact State.Lawful.placed h _ _
  · exact (h.answerWriteSetting _ _).placed _ _
  · exact (h.writeSupplySetting _ _ _).placed _ _
  · exact (h.writeRetention _ _).placed _ _
  · exact State.Lawful.placed (by simpa using h) _ _
  · exact (h.answerWriteSeatRecord _ _).placed _ _
  · exact State.Lawful.placed (by simpa using h) _ _
  · exact (h.answerWriteWord _ _).placed _ _
  · exact (h.answerSetBits _ _).placed _ _
  · exact (h.answerClearBits _ _).placed _ _
  · exact (h.answerCompareAndWrite _ _).placed _ _
  · exact (h.answerTakeNotice _ _).placed _ _
  · exact (h.answerReadSeatStatus _ _).placed _ _
  · exact (h.answerCommit _ _).placed _ _
  · exact h.congr rfl
  · exact State.Lawful.placed (a := s.refuse .unknownCommand) h _ _
  · exact h.frameError _ _
  all_goals exact h

theorem State.Lawful.openReply (h : s.Lawful motion trust []) (n : SeatId) : (s.openReply n).Lawful motion trust [] := by
  unfold State.openReply
  split
  · exact h
  · exact (State.Lawful.ite (h.modSeat _ _) h).modLink _

theorem State.Lawful.sendBytes (h : s.Lawful motion trust []) (sent : Nat) : (s.sendBytes sent).Lawful motion trust [] := by
  unfold State.sendBytes
  split
  · exact h.modLink _
  · exact h

theorem State.Lawful.consumeReply (h : s.Lawful motion trust []) (n : SeatId) (sent : Nat) :
    (s.consumeReply n sent).Lawful motion trust [] := by
  unfold State.consumeReply
  split
  · exact (h.modSeat _ _).ite h
  · exact h

theorem State.Lawful.readEffect (h : s.Lawful motion trust []) (n : SeatId) (sent : Nat) :
    (s.readEffect n sent).Lawful motion trust [] := ((h.openReply n).sendBytes sent).consumeReply n sent

theorem State.Lawful.endOther (h : s.Lawful motion trust []) (heard : Heard) : (s.endOther heard).Lawful motion trust [] := by
  unfold State.endOther
  split
  · exact h
  · split
    · exact (State.Lawful.ite (h.frameError _ _) (h.frameEffect _)).modLink _
    · exact (h.readEffect _ _).modLink _
    all_goals exact h

theorem State.Lawful.onFrame (h : s.Lawful motion trust []) (dt : Nat) (heard : Heard) (fin : FrameEnd) (acks : List Bool)
    {act : State → State} (ha : ∀ t : State, t.Lawful motion trust [] → (act t).Lawful motion trust []) :
    (s.onFrame dt heard fin acks act).Lawful motion trust [] := by
  have later := h.advance dt
  exact later.ite (.ite (later.modLink _) ((ha _ (later.wake.endOther heard)).modLink _).sleepTest)

theorem State.Lawful.onFrameUnderWay (h : s.Lawful motion trust []) (dt : Nat) (heard : Heard) (receiver : Receiver)
    (acks : List Bool) {act : State → State} (ha : ∀ t : State, t.Lawful motion trust [] → (act t).Lawful motion trust []) :
    (s.onFrameUnderWay dt heard receiver acks act).Lawful motion trust [] := by
  have later := h.advance dt
  exact later.ite (.ite (later.modLink _) ((ha _ (later.wake.endOther heard)).modLink _))

theorem State.Lawful.recoverLink (h : s.Lawful motion trust []) : s.recoverLink.Lawful motion trust [] := by
  have cut : s.cutFrame.Lawful motion trust [] := by
    unfold State.cutFrame
    split
    · exact h.frameError _ _
    all_goals exact h
  exact cut.modLink _

theorem State.Lawful.postDue (h : s.Lawful motion trust []) (x : DueNotice) : (s.postDue x).Lawful motion trust [] := by
  cases x with
  | movedUndriven k => exact h.movedUndriven k
  | supplyLowEntered mV => exact h.postTo _ _
  | supplyRecovered mV => exact h.postTo _ _

/-- A start-up load leaves every context IDLE, no slot held and nothing waiting (R161). -/
theorem State.startUp_lawful (s : State) (straps : Fin 4) (counters : ClosureId → Counter) :
    (s.startUp straps counters).Lawful motion trust [] where
  station k := by
    rw [State.startUp_closures, Image.closure_eq]
    exact Station.law_idle rfl rfl rfl rfl (fun _ => nofun) fun _ => by simp [State.startUp]
  once _ := .nil
  count _ := ⟨(State.startUp_heldCount s straps counters).trans_le (Nat.zero_le _), le_max_right _ _, nofun⟩

/-- A command of the catalogue is the effect of its frame (R148). -/
theorem State.Lawful.frameCommand (h : s.Lawful motion trust []) (dt : Nat) (heard : Heard) (fin : FrameEnd)
    (acks : List Bool) (c : Instr) : (s.onFrame dt heard fin acks fun t => t.frameEffect c).Lawful motion trust [] :=
  h.onFrame _ _ _ _ fun _ g => g.frameEffect c

/-- Every command keeps the laws of motion. -/
theorem exec_lawful (h : s.Lawful motion trust []) (c : Instr) : ∃ t, exec c s = .next t ∧ t.Lawful motion trust [] := by
  have frame := fun dt heard fin acks => h.frameCommand dt heard fin acks c
  cases c with
  | move | renew | stop | global | clear | readClosure | readOutcome | readStats | clearStats | readProfile
  | writeProfileZone | markLearned | readSetting | readDeviceSetting | readSlotState | writeSetting | writeDeviceSetting
  | writeTRet | readSeatRecord | writeSeatRecord | readWords | writeWord | setBits | clearBits | compareAndWrite
  | takeNotice | readSeatStatus | commit | linkReset | unknownCommand | broadcastFrameDiscarded =>
    exact ⟨_, rfl, frame _ _ _ _⟩
  | allStop dt target fin args =>
    cases target with
    | seat n => exact ⟨_, rfl, frame _ _ _ _⟩
    | broadcast => exact ⟨_, rfl, frame _ _ _ _⟩
  | frameDiscard dt target ended bytes =>
    cases ended with
    | some fin => exact ⟨_, rfl, frame _ _ _ _⟩
    | none => exact ⟨_, rfl, h.onFrameUnderWay _ _ _ _ fun _ g => g⟩
  | readFrame f sent =>
    obtain ⟨dt, n, ended⟩ := f
    cases ended with
    | some fin => exact ⟨_, rfl, h.onFrame _ _ _ _ fun _ g => g.readEffect _ _⟩
    | none => exact ⟨_, rfl, h.onFrameUnderWay _ _ _ _ fun _ g => (g.openReply _).sendBytes _⟩
  | stuckLinkRecovery dt held =>
    exact ⟨_, rfl, h.onEvent _ fun _ g => (g.modLink _).recoverLink.ite (g.modLink _)⟩
  | frameNotAcknowledged dt address ended =>
    have later := h.advance dt
    have heard := later.wake.endOther .other
    refine ⟨_, rfl, later.ite ?_⟩
    cases address <;> cases ended
    · exact heard.modLink _
    · exact (heard.modLink _).sleepTest
    · exact heard.modLink _
    · exact (heard.modLink _).sleepTest
  | hallEdge dt k ph =>
    have later := h.advance dt
    exact ⟨_, rfl, later.ite (.ite (later.modCounter k (fun x => x.toggle ph) fun x => by cases ph <;> rfl).sleepTest
      (later.wake.hallEdge k ph).sleepTest)⟩
  | phaseFault dt k =>
    have sampled := (h.advance dt).modCounter k fun x => (x.toggle .a).toggle .b
    exact ⟨_, rfl, (h.advance dt).ite (sampled.sleepTest.ite (sampled.phaseFault k).sleepTest)⟩
  | stallExpiry dt k => exact ⟨_, rfl, h.onEvent _ fun _ g => ((g.modCounter k _).classifyStall _).ite g⟩
  | undrivenQuietExpiry dt k => exact ⟨_, rfl, h.onEvent _ fun _ g => (g.modCounter k _).ite g⟩
  | brakeTimerExpiry dt k =>
    refine ⟨_, rfl, h.onEvent _ fun _ g => ?_⟩
    dsimp only
    split
    · rename_i due
      obtain ⟨-, reversing, -⟩ := due
      exact g.endBrake _ reversing
    · exact g
  | quietTimerExpiry dt k =>
    refine ⟨_, rfl, h.onEvent _ fun _ g => ?_⟩
    dsimp only
    split
    · rename_i due
      exact g.settleEnd _ due.2
    · exact g
  | limitTimerExpiry dt k =>
    refine ⟨_, rfl, h.onEvent _ fun _ g => ?_⟩
    dsimp only
    split
    · rename_i due
      refine (g.modCtx k _).settleEnd _ ?_
      rw [State.modCtx_self]
      exact due.2
    · exact g
  | holdDeadlineExpiry dt k =>
    refine ⟨_, rfl, h.onEvent _ fun t g => State.Lawful.ite ?_ g⟩
    split
    · exact g.endMove _ _ _ fun _ => CtxState.granted_of_running ‹_›
    · exact g.remove _ _ _ fun _ => ‹_›
    all_goals exact g
  | queueTimeout dt k =>
    refine ⟨_, rfl, h.onEvent _ fun t g => ?_⟩
    split
    · rename_i due
      refine g.remove _ _ _ fun _ => ?_
      unfold Context.queueDeadline at due
      split at due
      · assumption
      · exact nomatch due
    · exact g
  | currentSample dt k mA => exact ⟨_, rfl, h.onEvent _ fun _ g => g.still k _⟩
  | supplySample dt mV => exact ⟨_, rfl, h.onEvent _ fun _ g => g.congr rfl⟩
  | supplyRefresh dt =>
    refine ⟨_, rfl, h.onEvent _ fun t g => g.ite ?_⟩
    have published : ({ t with front := t.front.publish } : State).Lawful motion trust [] := g.congr rfl
    exact published.testDerating.testSupply.testRecovery
  | temperatureMeasurement dt celsius => exact ⟨_, rfl, h.onEvent _ fun _ g => g.congr rfl⟩
  | retainedWindowExpiry dt => exact ⟨_, rfl, h.onEvent _ fun _ g => State.Lawful.ite (g.congr rfl) g⟩
  | staleExpiry dt n => exact ⟨_, rfl, h.onEvent _ fun _ g => (g.modSeat n _).ite g⟩
  | commitCompletion dt =>
    refine ⟨_, rfl, h.onEvent _ fun t g => ?_⟩
    split
    · exact g.completeCommit _ _ _
    all_goals exact g
  | commitFailure dt =>
    refine ⟨_, rfl, h.onEvent _ fun t g => ?_⟩
    split
    · exact g.failCommit _ _
    all_goals exact g
  | unparkWriteCompletion dt =>
    refine ⟨_, rfl, h.onEvent _ fun t g => ?_⟩
    split
    · exact g.endUnpark _ _
    all_goals exact g
  | unparkWriteFailure dt =>
    refine ⟨_, rfl, h.onEvent _ fun t g => ?_⟩
    split
    · have counted : ({ t with freeCount := t.freeCount + 1 } : State).Lawful motion trust [] := g.congr rfl
      exact counted.endUnpark _ _
    all_goals exact g
  | linkQuietExpiry dt => exact ⟨_, rfl, h.onEvent _ fun _ g => (g.modLink _).ite g⟩
  | resetInput dt straps => exact ⟨_, rfl, (h.advance dt).ite (State.startUp_lawful _ _ _)⟩
  | coldStart dt straps a b => exact ⟨_, rfl, State.startUp_lawful _ _ _⟩
  | startUpLoadEnd dt =>
    refine ⟨_, rfl, h.onEvent _ fun t g => State.Lawful.ite ?_ g⟩
    refine State.Lawful.foldl ?_ State.postDue (fun _ x g' => g'.postDue x) _
    exact g.congr rfl
  | powerLoss dt =>
    have cut : (s.advance dt).cutStore.Lawful motion trust [] := by
      refine h.congr ?_
      unfold State.cutStore
      split <;> rfl
    exact ⟨_, rfl, cut.ite ((State.startUp_lawful _ 0 _).congr rfl)⟩

theorem step_lawful (h : s.Lawful motion trust []) (hstep : step s = .next t) : t.Lawful motion trust [] := by
  unfold step at hstep
  split at hstep
  · cases hstep
    exact h
  · rename_i c rest _
    have running : ({ s with pending := rest } : State).Lawful motion trust [] := h.congr rfl
    obtain ⟨u, hu, lawful⟩ := exec_lawful running c
    cases hu.symm.trans hstep
    exact lawful

end

/-- Settles O5: each operation leaves the permit that a closure's context, move and reversal phase decide. -/
theorem permitLawKept : Obligations.PermitLawKept :=
  fun _ _ law hstep => (step_lawful (State.lawful_permits law) hstep).permits

/-- A closure with a permit holds a slot (R85, R107). -/
theorem State.drivenCount_le_heldCount {s : State} (h : s.MotionLaw) : s.drivenCount ≤ s.arbiter.heldCount := by
  have law := State.lawful_motion (trust := False) h nofun
  simp only [State.drivenCount, Arbiter.heldCount, ← List.countP_eq_length_filter]
  exact List.countP_mono_left fun k _ driven =>
    ((law.station k).slot trivial).mpr (law.driven (of_decide_eq_true driven))

/-- Settles O6: the motion law is `State.Lawful` without the law of trust; a closure that is driven holds a slot. -/
theorem motionLawKept : Obligations.MotionLawKept := by
  intro s t law hstep
  have kept := step_lawful (State.lawful_motion (trust := False) law nofun) hstep
  obtain ⟨held, -⟩ := kept.count trivial
  exact ⟨kept.motionLaw, fun slots =>
    (State.drivenCount_le_heldCount kept.motionLaw).trans (held.trans (max_le slots le_rfl))⟩

/-- Settles O10: the motion law and the law of trust together are what each operation keeps. -/
theorem trustLawKept : Obligations.TrustLawKept :=
  fun _ _ law trusts hstep => (step_lawful (State.lawful_motion law fun _ => trusts) hstep).trustLaw

end Sys2Proof.Machine
end

section
/-! PROOFS. An answer whose command changed more than closures and slots; removals, halts and dropped follow-ons (R94, R95,
R98, R104, R114). -/
namespace Sys2Proof.Machine

/-! Answers. -/

section
variable {s t u : State}

/-- Every seat's pending reply is as it was. -/
abbrev State.SameReplies (s t : State) : Prop := ∀ n : SeatId, t.seats[n].reply = s.seats[n].reply

theorem SeatState.post_reply (n : SeatState) (now : Nat) (x : Notice) : (n.post now x).reply = n.reply := by
  simp only [SeatState.post, SeatState.retest]
  split
  · split <;> rfl
  · split
    · split
      · split <;> rfl
      · rfl
    · rfl

theorem State.reply_of_seats {chosen : SeatId → Bool} {body : NoticeBody} (hs : t.seats = (s.postTo chosen body).seats) :
    s.SameReplies t := by
  intro n
  rw [hs, State.postTo_seats]
  simp only [Fin.getElem_fin, Vector.getElem_ofFn]
  split
  · exact SeatState.post_reply _ _ _
  · rfl

/-- `t` is `u` once a command has been answered: nothing but replies, the link and the clock may differ. -/
structure State.AnsweredAs (u t : State) : Prop where
  closures : t.closures = u.closures
  arbiter : t.arbiter = u.arbiter
  queue : ∀ n : SeatId, t.seats[n].queue = u.seats[n].queue
  loss : ∀ n : SeatId, t.seats[n].lossCount = u.seats[n].lossCount
  line : ∀ n : SeatId, t.seats[n].line = u.seats[n].line
  elsewhere : u.SameElsewhere t

theorem State.AnsweredAs.told (h : u.AnsweredAs t) {chosen : SeatId → Prop} {body : NoticeBody} {time : Nat}
    (told : s.Told u chosen body time) : s.Told t chosen body time := by
  intro n
  rw [h.queue, h.loss, h.line]
  exact told n

theorem State.AnsweredAs.removed (h : u.AnsweredAs t) {k : ClosureId} {m : Move} {r : EndReason} {w : Option SeatId}
    {now : Nat} (removed : s.RemovedMove u k m r w now) : s.RemovedMove t k m r w now := by
  obtain ⟨closures, arbiter, told, elsewhere⟩ := removed
  exact ⟨h.closures.trans closures, h.arbiter.trans arbiter, h.told told, State.sameElsewhere_trans elsewhere h.elsewhere⟩

/-- A seat with a reply in its pending reply slot (R149). -/
def SeatState.replied (n : SeatState) (code : Byte) (r : Result) (items : List Byte) : SeatState :=
  { n with reply := some { result := r, command := code, overwritten := n.reply.isSome, items := items } }

theorem State.placeReply_seat (s : State) (m : SeatId) (code : Byte) (r : Result) (items : List Byte) (n : SeatId) :
    (s.placeReply m code r items).seats[n] = if n = m then s.seats[n].replied code r items else s.seats[n] := by
  split
  · subst n
    exact State.modSeat_self _ _ _
  · exact State.modSeat_other _ _ ‹_›

/-- A command at a part that is awake whose answer leaves the link, the clock and the pending replies alone: the state
with its effect, answered. -/
theorem State.seatCommand_answers {f : SeatFrame} {code : Byte} {args : List Byte} {body : State → Answer} {r : Result}
    {items : List Byte} (h : s.Awake) (answer : body (s.later f.dt) = { state := u, result := r, items := items })
    (outside : (s.later f.dt).SameOutside u) (replies : s.SameReplies u) :
    u.AnsweredAs (s.seatCommand f code args body) ∧
      s.Answers (s.seatCommand f code args body) f code args.length r items := by
  have seats : ∀ n : SeatId, (s.seatCommand f code args body).seats[n] = (u.placeReply f.seat code r items).seats[n] := by
    intro n
    rw [State.seatCommand_awake h, answer]
    rfl
  have answered : ∀ n : SeatId, (s.answered f code args.length r items).seats[n] =
      (s.placeReply f.seat code r items).seats[n] := fun _ => rfl
  have link : u.link = s.link := outside.link
  have now : u.now = s.now + f.dt := outside.now
  refine ⟨⟨?_, ?_, fun n => ?_, fun n => ?_, fun n => ?_, ?_, ?_, ?_, ?_, ?_, fun n => ?_⟩, fun n => ?_, ?_, ?_, ?_⟩
  case refine_3 | refine_4 | refine_5 | refine_11 =>
    rw [seats, State.placeReply_seat]
    split <;> rfl
  case refine_12 =>
    rw [seats, answered, State.placeReply_seat, State.placeReply_seat]
    split
    · simp only [SeatState.replied, replies]
    · exact replies n
  case refine_13 =>
    rw [State.seatCommand_awake h, answer]
    simp only [Answer.placed, State.placeReply, State.frameSeen, State.modSeat, State.modLink, link, now, State.answered,
      State.withReply, State.afterFrame]
    cases f.fin <;> rfl
  case refine_14 =>
    rw [State.seatCommand_awake h, answer]
    exact now
  case refine_15 =>
    rw [State.seatCommand_awake h, answer]
    exact outside.pending
  all_goals
    rw [State.seatCommand_awake h, answer]
    rfl

end

/-! Removals (R104). -/

section
variable {s : State} {k : ClosureId} {m g : Move}

theorem State.remove_replies (r : EndReason) (w : Option SeatId) (hm : s.closures[k].ctx.move = some m) :
    s.SameReplies (s.remove k r w) := by
  refine State.reply_of_seats (chosen := fun n => decide (n = m.seat) || s.subscribes k n)
    (body := .moveEnded (s.closures[k].removedOutcome k m r w s.front.reading)) ?_
  simp only [State.remove, hm]
  rfl

/-! Follow-ons dropped (R91, R95, R98). -/

/-- A closure without its follow-on. -/
theorem State.dropFollowOn_none (c : DropCause) (alone : s.closures[k].ctx.followOn = none) : s.dropFollowOn k c = s := by
  simp only [State.dropFollowOn, alone]

theorem State.dropFollowOn_some (c : DropCause) (follows : s.closures[k].ctx.followOn = some g) :
    s.dropFollowOn k c = (s.withClosure k s.closures[k].withoutFollowOn).postSeat g.seat (.followOnDropped k c g) := by
  simp only [State.dropFollowOn, follows]
  rw [State.modCtx, State.modClosure_eq]
  rfl

/-- A follow-on dropped: the seat that asked for it is told, and nothing else changes. -/
theorem State.dropFollowOn_drops (c : DropCause) (follows : s.closures[k].ctx.followOn = some g) :
    (s.dropFollowOn k c).closures = s.closures.set k s.closures[k].withoutFollowOn ∧
    (s.dropFollowOn k c).arbiter = s.arbiter ∧
    s.Told (s.dropFollowOn k c) (fun n => n = g.seat) (.followOnDropped k c g) s.now ∧
    s.SameElsewhere (s.dropFollowOn k c) ∧ s.SameReplies (s.dropFollowOn k c) := by
  have seats : (s.dropFollowOn k c).seats =
      (s.postTo (fun n => decide (n = g.seat)) (.followOnDropped k c g)).seats := by
    rw [State.dropFollowOn_some c follows]
    rfl
  refine ⟨?_, ?_, State.told_of_seats seats fun _ => decide_eq_true_iff, ⟨?_, ?_, ?_, ?_, ?_, State.record_of_seats seats⟩,
    State.reply_of_seats seats⟩
  all_goals
    rw [State.dropFollowOn_some c follows]
    rfl

end

end Sys2Proof.Machine
end

section
/-! PROOFS. Lapsed moves (R94, R104, R114), RENEW (R94), and STOP and CLEAR (R95, R98): O53, O40 and O41. -/
namespace Sys2Proof.Machine

/-! Lapsed moves. -/

section
variable {s : State} {k : ClosureId} {m : Move} {dt due : Nat}

/-- An event of its own that removes a QUEUED move (R104). -/
theorem State.onEvent_removes {act : State → State} {r : EndReason} (h : s.Attentive) (hm : s.closures[k].ctx.move = some m)
    (acts : act (s.later dt) = (s.later dt).remove k r none) :
    s.RemovedMove (s.onEvent dt act) k m r none (s.now + dt) := by
  have link : ((s.later dt).remove k r none).link = s.link := (State.sameOutside_remove _ k r none).link
  rw [State.onEvent_eq h acts link]
  exact State.remove_removed r none hm

theorem exec_holdDeadlineExpiry_queued (h : s.Attentive) (hm : s.closures[k].ctx.move = some m) (past : due ≤ s.now + dt)
    (deadline : s.closures[k].ctx.holdDeadline = some due) (queued : s.closures[k].ctx.state = .queued) :
    ∃ t, exec (.holdDeadlineExpiry dt k) s = .next t ∧ s.RemovedMove t k m .holdLapsed none (s.now + dt) := by
  refine ⟨_, rfl, State.onEvent_removes h hm ?_⟩
  have due : isDue (s.later dt).closures[k].ctx.holdDeadline (s.later dt).now = true := deadline ▸ isDue_of_le past
  have queued : (s.later dt).closures[k].ctx.state = .queued := queued
  dsimp only
  rw [if_pos due, queued]

theorem exec_holdDeadlineExpiry_running (h : s.Attentive) (past : due ≤ s.now + dt)
    (deadline : s.closures[k].ctx.holdDeadline = some due) (running : s.closures[k].ctx.state = .running)
    (empty : s.arbiter.queue = []) :
    exec (.holdDeadlineExpiry dt k) s = .next ((s.later dt).moveEnded k (s.now + dt) .holdLapsed none) := by
  refine congrArg Host.Outcome.next (State.onEvent_eq h ?_ rfl)
  have due : isDue (s.later dt).closures[k].ctx.holdDeadline (s.later dt).now = true := deadline ▸ isDue_of_le past
  have running : (s.later dt).closures[k].ctx.state = .running := running
  rw [if_pos due, running]
  exact State.endMove_empty k _ none empty

theorem exec_queueTimeout (h : s.Attentive) (hm : s.closures[k].ctx.move = some m) {entry : Nat}
    (entered : s.closures[k].ctx.queueEntry = some entry) (past : entry + 8000000 ≤ s.now + dt)
    (queued : s.closures[k].ctx.state = .queued) (kind : m.kind = .oneTouch ∨ m.kind = .global) :
    ∃ t, exec (.queueTimeout dt k) s = .next t ∧ s.RemovedMove t k m .queueTimeout none (s.now + dt) := by
  refine ⟨_, rfl, State.onEvent_removes h hm (if_pos ?_)⟩
  have timed : ¬ m.kind.grantClass = 0 := by rcases kind with kind | kind <;> rw [kind] <;> decide
  have deadline : (s.later dt).closures[k].ctx.queueDeadline = some (entry + 8000000) := by
    have deadline : s.closures[k].ctx.queueDeadline = some (entry + 8000000) := by
      simp only [Context.queueDeadline, queued, hm, if_neg timed, entered]
      rfl
    exact deadline
  rw [deadline]
  exact isDue_of_le past

/-- Settles O53: each expiry is the removal or the end of the move that it finds. -/
theorem lapsedMovesEnd : Obligations.LapsedMovesEnd :=
  fun _ _ _ _ _ h hm past =>
    ⟨exec_holdDeadlineExpiry_queued h hm past, exec_holdDeadlineExpiry_running h past,
      fun _ entered past queued kind => exec_queueTimeout h hm entered past queued kind⟩

end

/-! RENEW. -/

section
variable {s : State}

theorem Kind.isHeld_iff (x : Kind) : x.isHeld = true ↔ x = .held ∨ x = .normalise := by cases x <;> decide

theorem Context.renewable_iff (x : Context) (n : SeatId) : x.renewable n = true ↔
    (x.state = .queued ∨ x.state = .running) ∧ ∃ m ∈ x.move, (m.kind = .held ∨ m.kind = .normalise) ∧ m.seat = n := by
  unfold Context.renewable
  cases x.move with
  | none => simp
  | some m => simp [Kind.isHeld_iff]

/-- Settles O40: RENEW's own check is the condition of the statement. -/
theorem renewSetsDeadline : Obligations.RenewSetsDeadline := by
  refine fun f s h => ⟨fun k => ⟨fun may => ?_, fun mayNot => ?_⟩, fun b high => ?_⟩
  · refine congrArg Host.Outcome.next (State.seatCommand_answered h ?_)
    have renewable := (s.closures[k].ctx.renewable_iff f.seat).mpr may
    simp only [State.answerRenew, closureOf_byteOf]
    exact if_pos renewable
  · refine congrArg Host.Outcome.next (State.seatCommand_refused h ?_)
    have renewable := mt (s.closures[k].ctx.renewable_iff f.seat).mp mayNot
    simp only [State.answerRenew, closureOf_byteOf]
    exact if_neg renewable
  · refine congrArg Host.Outcome.next (State.seatCommand_refused h ?_)
    simp only [State.answerRenew, closureOf_of_le high]

end

/-! STOP and CLEAR. -/

section
variable {s : State} {k : ClosureId} {m g : Move} (r : EndReason) (c : DropCause) (n : SeatId)

/-- A context that holds no slot and no place in the slot queue, and no follow-on, is left as it is (R95). -/
theorem State.halt_resting (resting : s.closures[k].ctx.state = .idle ∨ s.closures[k].ctx.state = .settling)
    (alone : s.closures[k].ctx.followOn = none) : s.halt k r c n = s := by
  unfold State.halt
  rcases resting with state | state <;> rw [state]
  exact State.dropFollowOn_none c alone

theorem State.halt_queued (queued : s.closures[k].ctx.state = .queued) : s.halt k r c n = s.remove k r (some n) := by
  unfold State.halt
  rw [queued]

/-- A halted closure before its follow-on is dropped, with nothing waiting for the slot of its move (R95). -/
def State.haltedAt (s : State) (k : ClosureId) (r : EndReason) (n : SeatId) : State :=
  if s.closures[k].ctx.state = .settling then s else s.moveEnded k s.now r (some n)

theorem State.moveEnded_closure (s : State) (k : ClosureId) (now : Nat) (r : EndReason) (w : Option SeatId) :
    (s.moveEnded k now r w).closures[k] = s.closures[k].settledAt now r w := s.withClosure_self k _

theorem State.haltedAt_followOn : (s.haltedAt k r n).closures[k].ctx.followOn = s.closures[k].ctx.followOn := by
  unfold State.haltedAt
  split
  · rfl
  · rw [State.moveEnded_closure]
    rfl

theorem State.halt_moving (moving : s.closures[k].ctx.state = .running ∨ s.closures[k].ctx.state = .reversing)
    (alone : s.closures[k].ctx.followOn = none) (empty : s.arbiter.queue = []) :
    s.halt k r c n = s.moveEnded k s.now r (some n) := by
  unfold State.halt
  rw [State.endMove_empty k r _ empty]
  rcases moving with state | state <;> rw [state]
  refine State.dropFollowOn_none c ?_
  rw [State.moveEnded_closure]
  exact alone

/-- A follow-on is dropped at a context that settles, at once or by the halt itself (R95). -/
theorem State.halt_follows
    (state : s.closures[k].ctx.state = .settling ∨ s.closures[k].ctx.state = .reversing ∧ s.arbiter.queue = []) :
    s.halt k r c n = (s.haltedAt k r n).dropFollowOn k c := by
  unfold State.halt State.haltedAt
  rcases state with settling | ⟨reversing, empty⟩
  · rw [settling, if_pos rfl]
  · rw [reversing, if_neg (by decide)]
    dsimp only
    rw [State.endMove_empty k r _ empty]

/-- What a halt that drops a follow-on leaves. -/
theorem State.halt_drops (follows : s.closures[k].ctx.followOn = some g)
    (state : s.closures[k].ctx.state = .settling ∨ s.closures[k].ctx.state = .reversing ∧ s.arbiter.queue = []) :
    (s.halt k r c n).closures = s.closures.set k (s.haltedAt k r n).closures[k].withoutFollowOn ∧
    (s.halt k r c n).arbiter = (s.haltedAt k r n).arbiter ∧
    s.Told (s.halt k r c n) (fun x => x = g.seat) (.followOnDropped k c g) s.now ∧
    s.SameElsewhere (s.halt k r c n) ∧ s.SameReplies (s.halt k r c n) := by
  rw [State.halt_follows r c n state]
  obtain ⟨closures, arbiter, told, elsewhere, replies⟩ :=
    State.dropFollowOn_drops c ((s.haltedAt_followOn (k := k) r n).trans follows)
  have parts : (s.haltedAt k r n).now = s.now ∧ (s.haltedAt k r n).seats = s.seats ∧ s.SameElsewhere (s.haltedAt k r n) ∧
      ∀ x, (s.haltedAt k r n).closures.set k x = s.closures.set k x := by
    unfold State.haltedAt
    split
    · exact ⟨rfl, rfl, ⟨rfl, rfl, rfl, rfl, rfl, fun _ => rfl⟩, fun _ => rfl⟩
    · exact ⟨rfl, rfl, ⟨rfl, rfl, rfl, rfl, rfl, fun _ => rfl⟩, fun _ => Vector.set_set ..⟩
  obtain ⟨now, seats, halted, same⟩ := parts
  refine ⟨closures.trans (same _), arbiter, ?_, State.sameElsewhere_trans halted elsewhere, fun x => ?_⟩
  · rwa [State.Told, seats, now] at told
  · rw [replies, seats]

theorem State.sameOutside_halt (s : State) (k : ClosureId) : s.SameOutside (s.halt k r c n) := by
  unfold State.halt
  split
  · exact s.sameOutside_endMove k _ _
  · exact (s.sameOutside_endMove k _ _).trans (State.sameOutside_dropFollowOn _ k c)
  · exact s.sameOutside_remove k _ _
  · exact s.sameOutside_dropFollowOn k c
  · exact .refl s

end

/-- A command that halts a closure, and then changes that closure by `finish`. -/
abbrev State.HaltsBy (s : State) (f : SeatFrame) (k : ClosureId) (r : EndReason) (c : DropCause)
    (finish : ClosureState → ClosureState) (body : State → Answer) : Prop :=
  body (s.later f.dt) = { state := ((s.later f.dt).halt k r c f.seat).modClosure k finish, result := .accepted, items := [] }

section
variable {s : State} {f : SeatFrame} {k : ClosureId} {r : EndReason} {c : DropCause}
  {finish : ClosureState → ClosureState} {body : State → Answer} (h : s.Awake) (halts : s.HaltsBy f k r c finish body)
  (code : Byte) {m g : Move}
include h halts

theorem State.haltCommand_moving (empty : s.arbiter.queue = []) (alone : s.closures[k].ctx.followOn = none)
    (moving : s.closures[k].ctx.state = .running ∨ s.closures[k].ctx.state = .reversing) :
    let ended := s.moveEnded k (s.now + f.dt) r (some f.seat)
    s.seatCommand f code [byteOf k.val] body =
      (ended.withClosure k (finish ended.closures[k])).answered f code 1 .accepted [] := by
  refine State.seatCommand_answered h (halts.trans ?_)
  rw [State.halt_moving (s := s.later f.dt) r c f.seat moving alone empty]
  rfl

theorem State.haltCommand_resting (alone : s.closures[k].ctx.followOn = none)
    (resting : s.closures[k].ctx.state = .idle ∨ s.closures[k].ctx.state = .settling) :
    s.seatCommand f code [byteOf k.val] body =
      (s.withClosure k (finish s.closures[k])).answered f code 1 .accepted [] := by
  refine State.seatCommand_answered h (halts.trans ?_)
  rw [State.halt_resting (s := s.later f.dt) r c f.seat resting alone]
  rfl

/-- What a halt that tells of its effect leaves, once it is answered. -/
theorem State.haltCommand_tells {x : ClosureState} {arbiter : Arbiter} {chosen : SeatId → Prop} {notice : NoticeBody}
    (closures : ((s.later f.dt).halt k r c f.seat).closures = s.closures.set k x)
    (slots : ((s.later f.dt).halt k r c f.seat).arbiter = arbiter)
    (told : s.Told ((s.later f.dt).halt k r c f.seat) chosen notice (s.now + f.dt))
    (elsewhere : s.SameElsewhere ((s.later f.dt).halt k r c f.seat))
    (replies : s.SameReplies ((s.later f.dt).halt k r c f.seat)) :
    let t := s.seatCommand f code [byteOf k.val] body
    t.closures = s.closures.set k (finish x) ∧ t.arbiter = arbiter ∧ s.Told t chosen notice (s.now + f.dt) ∧
    s.SameElsewhere t ∧ s.Answers t f code 1 .accepted [] := by
  have outside := ((s.later f.dt).sameOutside_halt r c f.seat k).trans (State.sameOutside_modClosure _ k finish)
  obtain ⟨as, answers⟩ := State.seatCommand_answers (code := code) (args := [byteOf k.val]) h halts outside replies
  have self : ((s.later f.dt).halt k r c f.seat).closures[k] = x := by
    simp only [closures]
    exact s.withClosure_self k x
  refine ⟨as.closures.trans ?_, as.arbiter.trans slots, as.told told, State.sameElsewhere_trans elsewhere as.elsewhere,
    answers⟩
  rw [State.modClosure_eq, self, State.withClosure, closures]
  exact Vector.set_set ..

theorem State.haltCommand_queued (queued : s.closures[k].ctx.state = .queued) (hm : s.closures[k].ctx.move = some m) :
    let t := s.seatCommand f code [byteOf k.val] body
    t.closures = s.closures.set k (finish (s.closures[k].removedAt k m r (some f.seat) s.front.reading)) ∧
    t.arbiter = s.arbiter.without k ∧
    s.Told t (s.Hears k m.seat) (.moveEnded (s.closures[k].removal k m r (some f.seat) s.front.reading)) (s.now + f.dt) ∧
    s.SameElsewhere t ∧ s.Answers t f code 1 .accepted [] := by
  have removes := State.halt_queued (s := s.later f.dt) r c f.seat queued
  obtain ⟨closures, arbiter, told, elsewhere⟩ := State.remove_removed (u := s.later f.dt) r (some f.seat) hm
  have replies := State.remove_replies (s := s.later f.dt) r (some f.seat) hm
  rw [← removes] at closures arbiter told elsewhere replies
  exact State.haltCommand_tells h halts code closures arbiter told elsewhere replies

theorem State.haltCommand_follows (follows : s.closures[k].ctx.followOn = some g)
    (state : s.closures[k].ctx.state = .settling ∨ s.closures[k].ctx.state = .reversing ∧ s.arbiter.queue = []) :
    let ended := if s.closures[k].ctx.state = .settling then s else s.moveEnded k (s.now + f.dt) r (some f.seat)
    let t := s.seatCommand f code [byteOf k.val] body
    t.closures = s.closures.set k (finish ended.closures[k].withoutFollowOn) ∧ t.arbiter = ended.arbiter ∧
    s.Told t (fun n => n = g.seat) (.followOnDropped k c g) (s.now + f.dt) ∧ s.SameElsewhere t ∧
    s.Answers t f code 1 .accepted [] := by
  intro ended t
  obtain ⟨closures, arbiter, told, elsewhere, replies⟩ :=
    State.halt_drops (s := s.later f.dt) r c f.seat follows state
  have halted : (s.later f.dt).haltedAt k r f.seat = ended.later f.dt :=
    (apply_ite (fun x : State => x.later f.dt) (s.closures[k].ctx.state = .settling) s
      (s.moveEnded k (s.now + f.dt) r (some f.seat))).symm
  rw [halted] at closures arbiter
  exact State.haltCommand_tells h halts code closures arbiter told elsewhere replies

end

section
variable {s : State} {f : SeatFrame} {k : ClosureId}

theorem State.answerStop_halts (member : hasMember s.seats[f.seat].record.moveMask k.val = true) :
    s.HaltsBy f k .stopped .stopped id fun t => t.answerStop f.seat [byteOf k.val] := by
  unfold State.HaltsBy
  rw [State.modClosure_fixed rfl]
  simp only [State.answerStop, closureOf_byteOf]
  exact if_pos member

/-- CLEAR's own operations on a closure (R98). -/
def ClosureState.cleaned (c : ClosureState) : ClosureState :=
  { c with
    verdict := { c.verdict with reversals := 0, escape := false }
    counter := { c.counter with phaseFaults := 0 } }

theorem State.answerClear_halts (right : s.seats[f.seat].record.grants .service = true) :
    s.HaltsBy f k .cleared .cleared ClosureState.cleaned fun t => t.answerClear f.seat [byteOf k.val] := by
  have right : (s.later f.dt).seats[f.seat].record.grants .service = true := right
  unfold State.HaltsBy
  simp only [State.answerClear, closureOf_byteOf]
  rw [if_pos right, State.modClosure_eq _ k ClosureState.clearEscape, State.modCounter_withClosure,
    State.modClosure_eq]
  rfl

end

/-- Settles O41: a halt by the state of the context, then CLEAR's own operations on the closure that it leaves. -/
theorem stopAndClearHalt : Obligations.StopAndClearHalt := by
  refine ⟨fun f s k h => ⟨fun member => ?_, fun outside => ?_, fun b high => ?_⟩,
    fun f s k h => ⟨fun right => ?_, fun without => ?_, fun b high => ?_⟩⟩
  · have halts := State.answerStop_halts (k := k) member
    refine ⟨fun empty alone moving => ?_, fun alone resting => ?_, fun m queued hm => ⟨_, rfl, ?_⟩,
      fun g follows state => ⟨_, rfl, State.haltCommand_follows h halts 0x12 follows state⟩⟩
    · have stops := State.haltCommand_moving h halts 0x12 empty alone moving
      simp only [id_eq, State.withClosure_present] at stops
      exact congrArg Host.Outcome.next stops
    · have stops := State.haltCommand_resting h halts 0x12 alone resting
      simp only [id_eq, State.withClosure_present] at stops
      exact congrArg Host.Outcome.next stops
    · obtain ⟨closures, arbiter, told, elsewhere, answers⟩ := State.haltCommand_queued h halts 0x12 queued hm
      exact ⟨⟨closures, arbiter, told, elsewhere⟩, answers⟩
  · refine congrArg Host.Outcome.next (State.seatCommand_refused h ?_)
    simp only [State.answerStop, closureOf_byteOf]
    exact if_neg (Bool.eq_false_iff.mp outside)
  · refine congrArg Host.Outcome.next (State.seatCommand_refused h ?_)
    simp only [State.answerStop, closureOf_of_le high]
  · have halts := State.answerClear_halts (k := k) right
    exact ⟨fun empty alone moving => congrArg Host.Outcome.next (State.haltCommand_moving h halts 0x14 empty alone moving),
      fun alone resting => congrArg Host.Outcome.next (State.haltCommand_resting h halts 0x14 alone resting),
      fun m queued hm => ⟨_, rfl, State.haltCommand_queued h halts 0x14 queued hm⟩,
      fun g follows state => ⟨_, rfl, State.haltCommand_follows h halts 0x14 follows state⟩⟩
  · refine congrArg Host.Outcome.next (State.seatCommand_refused h ?_)
    simp only [State.answerClear, closureOf_byteOf]
    exact if_neg (Bool.eq_false_iff.mp without)
  · refine congrArg Host.Outcome.next (State.seatCommand_refused h ?_)
    simp only [State.answerClear, closureOf_of_le high]

end Sys2Proof.Machine
end

section
/-! PROOFS. MOVE as its bytes spell it (R86, R154), the checks of a request, and the refusals of contention (R86, R89 to
R91): O35. -/
namespace Sys2Proof.Machine

/-! The bytes of a MOVE (R154). -/

@[simp] theorem kindOf_code (x : Kind) : kindOf (byteOf x.code) = some x := by cases x <;> rfl

@[simp] theorem directionOf_code (x : Direction) : directionOf (byteOf x.code) = some x := by cases x <;> rfl

@[simp] theorem originOf_code (x : Origin) : originOf (byteOf x.code) = some x := by cases x <;> rfl

theorem kindOf_of_lt {b : Byte} (h : 4 < b.toNat) : kindOf b = none := by
  unfold kindOf
  split
  case h_6 => rfl
  all_goals omega

theorem directionOf_of_lt {b : Byte} (h : 1 < b.toNat) : directionOf b = none := by
  unfold directionOf
  split
  case h_3 => rfl
  all_goals omega

theorem originOf_of_lt {b : Byte} (h : 4 < b.toNat) : originOf b = none := by
  unfold originOf
  split
  case h_6 => rfl
  all_goals omega

/-- A target's two bytes read back as the target (R154). -/
theorem targetOf_bytes {p : Int} (low : -32768 ≤ p) (high : p < 32767) :
    targetOf ((BitVec.ofInt 16 p).extractLsb' 8 8) ((BitVec.ofInt 16 p).extractLsb' 0 8) = some p := by
  have value : (BitVec.ofInt 16 p).toInt = p := by
    rw [BitVec.toInt_ofInt, Int.bmod_eq_of_le (by omega) (by omega)]
  have present : BitVec.ofInt 16 p ≠ absentTarget := by
    intro absent
    have top : absentTarget.toInt = 32767 := by decide
    rw [absent, top] at value
    omega
  rw [targetOf, word16_extract, if_neg present, value]

/-- The answer to a MOVE, by what becomes of its request (R86, R154). -/
def Submitted.answer (t : State) (k : ClosureId) : Submitted → Answer
  | .refused r => t.refuse r
  | .taken u target way => u.accept (byteOf k.val :: targetBytes target ++ [byteOf way.code])

theorem State.moveCommand_of (t : State) (k : ClosureId) (m : Move) :
    t.moveCommand m.seat (byteOf k.val) (byteOf m.kind.code) (byteOf m.direction.code) (byteOf m.origin.code) m.target =
      (t.submit k m).answer t k := by
  unfold State.moveCommand
  simp only [closureOf_byteOf, moveOf, kindOf_code, directionOf_code, originOf_code]
  cases t.submit k m <;> rfl

theorem State.answerMove_of (t : State) (k : ClosureId) {m : Move}
    (range : ∀ p, m.target = some p → -32768 ≤ p ∧ p < 32767) :
    t.answerMove m.seat (moveArgs k m) = (t.submit k m).answer t k := by
  rw [← State.moveCommand_of]
  cases target : m.target with
  | none => simp only [moveArgs, target, List.append_nil, State.answerMove]
  | some p =>
    obtain ⟨low, high⟩ := range p target
    simp only [moveArgs, target, beInt16, bytesOf16, List.cons_append, List.nil_append, State.answerMove]
    rw [targetOf_bytes low high]

/-! The checks (R86). -/

theorem Description.clampTarget_eq (d : Description) (m : Move) :
    d.clampTarget m = { m with target := m.target.map fun p => max 0 (min (d.travel : Int) p) } := by
  have clamp : clampInt 0 (d.travel : Int) = fun p => max 0 (min (d.travel : Int) p) :=
    funext (clampInt_eq (Int.natCast_nonneg _))
  rw [Description.clampTarget, clamp]

/-- A target within the travel is taken as it is (R86). -/
theorem Description.clampTarget_within {d : Description} {m : Move}
    (range : ∀ p, m.target = some p → 0 ≤ p ∧ p ≤ d.travel) : d.clampTarget m = m := by
  rw [Description.clampTarget_eq]
  obtain ⟨seat, kind, direction, origin, target⟩ := m
  cases target with
  | none => rfl
  | some p =>
    obtain ⟨low, high⟩ := range p rfl
    simp only [Option.map_some, min_eq_right high, max_eq_right low]

theorem Kind.allowedAt_readiness (kind : Kind) (x : Readiness) : (!kind.allowedAt x) = true ↔
    ((kind = .oneTouch ∨ kind = .global) ∧ x ≠ .full) ∨ (kind = .learn ∧ x = .blind) := by
  cases kind <;> cases x <;> decide

theorem Kind.toStop_iff (x : Kind) : x.toStop = true ↔ x = .learn ∨ x = .normalise := by cases x <;> decide

theorem SeatRecord.not_permits_iff (r : SeatRecord) (k : ClosureId) (m : Move) : (!r.permits k m) = true ↔
    (¬ hasMember r.moveMask k.val = true) ∨ (m.kind = .global ∧ ¬ hasMember r.rights 0 = true) ∨
      ((m.kind = .learn ∨ m.kind = .normalise ∨ m.origin = .service) ∧ ¬ hasMember r.rights 1 = true) := by
  have stops : (m.kind.toStop || decide (m.origin = .service)) = true ↔
      m.kind = .learn ∨ m.kind = .normalise ∨ m.origin = .service := by
    rw [Bool.or_eq_true, m.kind.toStop_iff, decide_eq_true_iff, or_assoc]
  rw [← stops]
  simp only [SeatRecord.permits, SeatRecord.grants, Right.member]
  cases hasMember r.moveMask k.val <;> cases hasMember r.rights 0 <;> cases hasMember r.rights 1 <;>
    cases (m.kind.toStop || decide (m.origin = .service)) <;> simp

/-- Checks 1 to 9 of R86 as a list, each with its refusal and whether it fails. -/
def State.moveChecks (s : State) (k : ClosureId) (m : Move) : List (Result × Bool) :=
  let c := s.closures[k]
  [(.badClosure, decide (c.desc.cls = .unused)), (.badArgument, m.kind.toStop && decide (m.direction = .opening)),
    (.notPermitted, !s.seats[m.seat].record.permits k m), (.childLocked, s.lockedOut k m),
    (.ignitionOff, s.ignitionOffFor m), (.notReady, !m.kind.allowedAt c.readiness), (.escapeActive, c.escapeBars m),
    (.supplyLow, s.supplyBars m),
    (.badArgument, decide (m.kind = .learn) && decide (c.counter.position < c.desc.learnStart))]

theorem State.moveRefusal_eq (s : State) (k : ClosureId) (m : Move) :
    s.moveRefusal k m = ((s.moveChecks k m).find? fun x => x.2).map (·.1) := by
  simp only [State.moveChecks, map_find?_cons, List.find?_nil, Option.map_none, decide_eq_true_eq]
  rfl

/-! A MOVE at a part that is awake. -/

section
variable {s : State} {f : SeatFrame} {k : ClosureId} {m : Move}

/-- A MOVE is its request at the frame's time, answered (R86). -/
theorem exec_move (seat : m.seat = f.seat) (range : ∀ p, m.target = some p → -32768 ≤ p ∧ p < 32767) :
    exec (.move f (moveArgs k m)) s = .next (s.seatCommand f 0x10 (moveArgs k m) fun t => t.answerMove f.seat (moveArgs k m)) ∧
    (s.later f.dt).answerMove f.seat (moveArgs k m) = ((s.later f.dt).submit k m).answer (s.later f.dt) k :=
  ⟨rfl, seat ▸ (s.later f.dt).answerMove_of k range⟩

/-- A MOVE that is refused changes nothing but the seat's pending reply and the link. -/
theorem exec_move_refused (h : s.Awake) (seat : m.seat = f.seat)
    (range : ∀ p, m.target = some p → -32768 ≤ p ∧ p < 32767) {r : Result}
    (refused : (s.later f.dt).submit k m = .refused r) :
    exec (.move f (moveArgs k m)) s = .next (s.answered f 0x10 (moveArgs k m).length r []) := by
  obtain ⟨run, answer⟩ := exec_move (s := s) (k := k) seat range
  rw [run, State.seatCommand_refused h (answer.trans (by rw [refused]; rfl))]

/-- A request that fails a check is refused, and one that fails none meets the context. -/
theorem State.submit_refused {r : Result} (fails : s.moveRefusal k (s.closures[k].desc.clampTarget m) = some r) :
    s.submit k m = .refused r := by
  unfold State.submit
  dsimp only
  rw [fails]

theorem State.submit_passes (passes : s.moveRefusal k (s.closures[k].desc.clampTarget m) = none) :
    s.submit k m = s.takeMove k (s.closures[k].desc.clampTarget m) := by
  unfold State.submit
  dsimp only
  rw [passes]

theorem State.takeMove_refused {r : Result} (meets : s.closures[k].ctx.meet m = .refused r) :
    s.takeMove k m = .refused r := by
  unfold State.takeMove
  rw [meets]

/-! What a request meets (R89 to R91). -/

theorem Context.meet_busy {x : Context} {old : Move} (hm : x.move = some old) (state : x.state = .queued ∨ x.state = .running)
    (seat : old.seat ≠ m.seat) (same : old.direction = m.direction) : x.meet m = .refused .busy := by
  rcases state with state | state <;>
    simp only [Context.meet, state, hm, same, ne_eq, not_true_eq_false, if_false, Ne.symm seat, not_false_eq_true, if_true]

theorem Context.meet_reversing {x : Context} (state : x.state = .reversing) (closing : m.direction = .closing) :
    x.meet m = .refused .reversing := by
  simp only [Context.meet, state, closing]

end

theorem State.ignitionOffFor_iff (s : State) (m : Move) : s.ignitionOffFor m = true ↔
    (m.origin = .panel ∨ m.origin = .seatSwitch) ∧ s.words[1] = 0 ∧ s.window = none := by
  rw [State.ignitionOffFor, Bool.and_eq_true, Bool.and_eq_true, Bool.or_eq_true, decide_eq_true_iff, decide_eq_true_iff,
    decide_eq_true_iff, Option.isNone_iff_eq_none, and_assoc]
  rfl

theorem ClosureState.escapeBars_iff (c : ClosureState) (m : Move) : c.escapeBars m = true ↔
    c.verdict.escape = true ∧ m.direction = .closing ∧ (m.kind = .oneTouch ∨ m.kind = .global) := by
  simp only [ClosureState.escapeBars, Bool.and_eq_true, Bool.or_eq_true, decide_eq_true_eq, and_assoc]

/-- A MOVE with an argument length of the catalogue is the command of its bytes, whatever they code (R86, R154). -/
theorem State.answerMove_bytes (t : State) (n : SeatId) (b kind direction origin : Byte) {target : List Byte}
    (length : target.length = 0 ∨ target.length = 2) : ∃ p : Option Int,
      t.answerMove n ([b, kind, direction, origin] ++ target) = t.moveCommand n b kind direction origin p := by
  match target, length with
  | [], _ => exact ⟨none, rfl⟩
  | [hi, lo], _ => exact ⟨targetOf hi lo, rfl⟩

/-- A MOVE that is refused whatever its target changes nothing but the seat's pending reply and the link. -/
theorem exec_move_bytes {f : SeatFrame} {s : State} {b kind direction origin : Byte} {target : List Byte} (h : s.Awake)
    (length : target.length = 0 ∨ target.length = 2) {r : Result}
    (refused : ∀ p, (s.later f.dt).moveCommand f.seat b kind direction origin p = (s.later f.dt).refuse r) :
    exec (.move f ([b, kind, direction, origin] ++ target)) s =
      .next (s.answered f 0x10 ([b, kind, direction, origin] ++ target).length r []) := by
  obtain ⟨p, answer⟩ := (s.later f.dt).answerMove_bytes f.seat b kind direction origin length
  exact congrArg Host.Outcome.next (State.seatCommand_refused h (answer.trans (refused p)))

theorem moveOf_eq_none {n : SeatId} {kind direction origin : Byte} {p : Option Int}
    (bad : 4 < kind.toNat ∨ 1 < direction.toNat ∨ 4 < origin.toNat) : moveOf n kind direction origin p = none := by
  unfold moveOf
  rcases bad with bad | bad | bad
  · rw [kindOf_of_lt bad]
  · rw [directionOf_of_lt bad]
    cases kindOf kind <;> rfl
  · rw [originOf_of_lt bad]
    cases kindOf kind <;> cases directionOf direction <;> rfl

/-- An UNUSED closure refuses every request (R86, check 1). -/
theorem State.moveCommand_unused {t : State} {k : ClosureId} (unused : t.closures[k].desc.cls = .unused) (n : SeatId)
    (kind direction origin : Byte) (p : Option Int) :
    t.moveCommand n (byteOf k.val) kind direction origin p = t.refuse .badClosure := by
  have fails : ∀ m, t.submit k m = .refused .badClosure := fun m => State.submit_refused (if_pos unused)
  unfold State.moveCommand
  rw [closureOf_byteOf]
  dsimp only
  split
  · rw [if_pos unused]
  · rw [fails]

theorem State.moveCommand_uncoded {t : State} {k : ClosureId} (used : t.closures[k].desc.cls ≠ .unused) (n : SeatId)
    {kind direction origin : Byte} (bad : 4 < kind.toNat ∨ 1 < direction.toNat ∨ 4 < origin.toNat) (p : Option Int) :
    t.moveCommand n (byteOf k.val) kind direction origin p = t.refuse .badArgument := by
  unfold State.moveCommand
  rw [closureOf_byteOf, moveOf_eq_none bad]
  dsimp only
  rw [if_neg used]

/-- Settles O35: the model's own checks are those of the statement, one by one; what refuses is answered as it is. -/
theorem moveRefusals : Obligations.MoveRefusals := by
  refine ⟨fun s k m => ?_, fun f s k m h seat range => ?_, fun f s b kind direction origin target h length => ?_⟩
  · have stops : (m.kind.toStop && decide (m.direction = .opening)) =
        decide ((m.kind = .learn ∨ m.kind = .normalise) ∧ m.direction = .opening) := by
      rw [Bool.eq_iff_iff, Bool.and_eq_true, m.kind.toStop_iff, decide_eq_true_iff, decide_eq_true_iff]
    have permits := Bool.decide_congr (SeatRecord.not_permits_iff s.seats[m.seat].record k m)
    have locked : s.lockedOut k m = decide (m.origin = .seatSwitch ∧ hasMember s.words[0] k.val = true) := by
      rw [Bool.eq_iff_iff, State.lockedOut, Bool.and_eq_true, decide_eq_true_iff, decide_eq_true_iff]
      rfl
    have ignition := Bool.decide_congr (s.ignitionOffFor_iff m)
    have ready := Bool.decide_congr (m.kind.allowedAt_readiness s.closures[k].readiness)
    have escapes := Bool.decide_congr (s.closures[k].escapeBars_iff m)
    have supply : s.supplyBars m = decide (m.direction = .closing ∧ s.front.reading < s.settings.vMin) :=
      (Bool.decide_and _ _).symm
    have learns : (decide (m.kind = .learn) && decide (s.closures[k].counter.position < s.closures[k].desc.learnStart)) =
        decide (m.kind = .learn ∧ s.closures[k].counter.position < s.closures[k].desc.travel -
          s.closures[k].desc.travel / 64) := (Bool.decide_and _ _).symm
    rw [Bool.decide_eq_true] at permits ignition ready escapes
    rw [State.moveRefusal_eq, State.moveChecks, stops, permits, locked, ignition, ready, escapes, supply, learns]
  · have clamp := s.closures[k].desc.clampTarget_eq m
    refine ⟨fun r fails => exec_move_refused h seat range ?_, fun old passes hm state other same => ?_,
      fun passes state closing => ?_⟩
    · exact State.submit_refused (s := s.later f.dt) (clamp ▸ fails)
    · refine exec_move_refused h seat range ((State.submit_passes (s := s.later f.dt) (clamp ▸ passes)).trans ?_)
      exact State.takeMove_refused (Context.meet_busy hm state other same)
    · refine exec_move_refused h seat range ((State.submit_passes (s := s.later f.dt) (clamp ▸ passes)).trans ?_)
      exact State.takeMove_refused (Context.meet_reversing state closing)
  · refine ⟨fun high => exec_move_bytes h length fun p => ?_, ?_⟩
    · unfold State.moveCommand
      rw [closureOf_of_le high]
    · rintro k rfl
      exact ⟨fun unused => exec_move_bytes h length fun p => State.moveCommand_unused (t := s.later f.dt) unused _ _ _ _ p,
        fun used bad => exec_move_bytes h length fun p => State.moveCommand_uncoded (t := s.later f.dt) used _ bad p⟩

end Sys2Proof.Machine
end

section
/-! PROOFS. MOVE at an IDLE context, and grants to the head of the slot queue (R88, R92, R93, R95, R111, R113): O36 and
O37. -/
namespace Sys2Proof.Machine

section
variable {s : State} {f : SeatFrame} {k : ClosureId} {m : Move}

/-- A MOVE that is taken is answered with the target taken and the way (R87). -/
theorem exec_move_taken (h : s.Awake) (seat : m.seat = f.seat)
    (range : ∀ p, m.target = some p → -32768 ≤ p ∧ p < 32767) {u : State} {target : Option Int} {way : Way}
    (taken : (s.later f.dt).submit k m = .taken (u.later f.dt) target way) :
    exec (.move f (moveArgs k m)) s = .next (u.answered f 0x10 (moveArgs k m).length .accepted
      ([byteOf k.val] ++ targetBytes target ++ [byteOf way.code])) := by
  obtain ⟨run, answer⟩ := exec_move (s := s) (k := k) seat range
  rw [run, State.seatCommand_answered h (answer.trans (by rw [taken]; rfl))]
  rfl

/-- A MOVE that is taken and tells of its effect. -/
theorem exec_move_answers (h : s.Awake) (seat : m.seat = f.seat)
    (range : ∀ p, m.target = some p → -32768 ≤ p ∧ p < 32767) {u : State} {target : Option Int} {way : Way}
    (taken : (s.later f.dt).submit k m = .taken u target way) (replies : s.SameReplies u) :
    ∃ t, exec (.move f (moveArgs k m)) s = .next t ∧ u.AnsweredAs t ∧
      s.Answers t f 0x10 (moveArgs k m).length .accepted ([byteOf k.val] ++ targetBytes target ++ [byteOf way.code]) := by
  obtain ⟨run, answer⟩ := exec_move (s := s) (k := k) seat range
  have turned := (s.later f.dt).turned_submit k m
  rw [taken] at turned
  exact ⟨_, run, State.seatCommand_answers h (answer.trans (by rw [taken]; rfl)) turned.outside replies⟩

/-- A target that the statements of taken moves cover lies within what two bytes code. -/
theorem Move.range_of_within {travel : Nat} (within : ∀ p, m.target = some p → 0 ≤ p ∧ p ≤ travel ∧ p < 32767) :
    ∀ p, m.target = some p → -32768 ≤ p ∧ p < 32767 := fun p hp => by
  obtain ⟨low, -, high⟩ := within p hp
  exact ⟨by omega, high⟩

/-- A request that passes its checks, with a target within the travel, is taken by what it meets (R88 to R91). -/
theorem State.submit_within (within : ∀ p, m.target = some p → 0 ≤ p ∧ p ≤ s.closures[k].desc.travel ∧ p < 32767)
    (passes : s.moveRefusal k m = none) : s.submit k m = s.takeMove k m := by
  have fixed := Description.clampTarget_within (d := s.closures[k].desc) (m := m) fun p hp =>
    ⟨(within p hp).1, (within p hp).2.1⟩
  rw [State.submit_passes (by rw [fixed]; exact passes), fixed]

/-! At an IDLE context (R88, R92). -/

theorem State.takeMove_idle (idle : s.closures[k].ctx.state = .idle) :
    s.takeMove k m = .taken (s.enqueue k m).grantTest m.target .queued := by
  have meets : s.closures[k].ctx.meet m = .enqueue := by simp only [Context.meet, idle]
  rw [State.takeMove, meets]

/-- With no slot free an arrival waits. -/
theorem State.enqueue_waits (full : s.arbiter.effective ≤ s.arbiter.heldCount) : (s.enqueue k m).grantTest =
    s.waiting k s.closures[k] m ((s.withClosure k (s.arrived s.closures[k] m)).insertEntry
      { closure := k, arrival := s.arbiter.nextNumber } s.arbiter.queue) s.arbiter.nextNumber := by
  have joined : s.enqueue k m = (s.withClosure k s.closures[k]).enqueue k m := by rw [State.withClosure_present]
  have waits : (s.enqueue k m).grantTest = s.enqueue k m := State.grantTest_full full
  rw [waits, joined, State.enqueue_eq]

/-- With a slot free and nothing else waiting an arrival is granted at once. -/
theorem State.enqueue_grants (empty : s.arbiter.queue = []) (free : s.SlotFree) :
    let granted := (s.arrived s.closures[k] m).grantedAt m s.now s.front.reading
    let reached := m.reached (s.closures[k].grantPosition m)
    (s.enqueue k m).grantTest =
      { s.withClosure k (if reached then granted.settledAt s.now .targetReached none
          else granted.drivenAt s.now m.direction) with
        arbiter := { s.arbiter with held := s.arbiter.held.set k !reached, lastArrival := 1 } } := by
  intro granted reached
  have joined : s.enqueue k m = s.waiting k s.closures[k] m [{ closure := k, arrival := 1 }] 1 := by
    have number : s.arbiter.nextNumber = 1 := if_pos empty
    have joined : s.enqueue k m = (s.withClosure k s.closures[k]).enqueue k m := by rw [State.withClosure_present]
    rw [joined, State.enqueue_eq, number, empty]
    rfl
  have grants : (s.enqueue k m).grantTest = (s.waiting k s.closures[k] m [{ closure := k, arrival := 1 }] 1).grant k :=
    (congrArg State.grantTest joined).trans
      (State.grantTest_free (s := s.waiting k s.closures[k] m _ 1) (e := { closure := k, arrival := 1 }) (rest := []) rfl
        free)
  have self := State.waiting_self s k s.closures[k] m [{ closure := k, arrival := 1 }] 1
  have hm : (s.waiting k s.closures[k] m [{ closure := k, arrival := 1 }] 1).closures[k].ctx.move = some m := by
    rw [self]
    rfl
  have position : (s.waiting k s.closures[k] m [{ closure := k, arrival := 1 }] 1).closures[k].grantPosition m =
      s.closures[k].grantPosition m := by
    rw [self]
    rfl
  rw [grants]
  cases hr : reached with
  | false =>
    rw [State.grant_ahead hm (by rw [position]; exact hr), State.granted, self]
    simp [State.waiting, State.withClosure, Arbiter.without, empty, granted]
  | true =>
    rw [State.grant_reached hm (by rw [position]; exact hr), self]
    simp [State.waiting, State.withClosure, Arbiter.without, empty, granted]

end

/-- Settles O36: an arrival with no slot free. -/
theorem moveQueues : Obligations.MoveQueues := by
  rintro ⟨dt, seat, fin⟩ s k m h rfl within passes idle full
  have taken := (State.submit_within (s := s.later dt) within passes).trans (State.takeMove_idle idle)
  rw [State.enqueue_waits (s := s.later dt) full] at taken
  have place := fun (t : State) (number : Nat) => State.insertEntry_congr (s := t) (t := t.later dt) (fun _ => rfl)
    { closure := k, arrival := number } s.arbiter.queue
  intro number joined
  refine exec_move_taken (target := m.target) (way := .queued) h rfl (Move.range_of_within within) (taken.trans ?_)
  rw [← place]
  rfl

/-! A slot released goes to the head of the slot queue (R111). -/

section
variable {s : State} {e : QueueEntry} {rest : List QueueEntry} {m : Move} {k : ClosureId}

/-- A slot given back is one fewer held (R107). -/
theorem Arbiter.heldCount_release_one {a b : Arbiter} (holds : a.held[k] = true) (given : b.held = a.held.set k false) :
    b.heldCount + 1 = a.heldCount := by
  have slotless : b.held[k] = false := by simp [given]
  have taken : a.held = b.held.set k true := by
    have kept : a.held.set k a.held[k] = a.held := by simp
    rw [given, Vector.set_set, ← holds]
    exact kept.symm
  exact (Arbiter.heldCount_take slotless taken).symm

/-- A move that ends with every slot held gives its slot to the head of the slot queue, if that runs (R102, R111). -/
theorem State.endMove_grants (r : EndReason) (w : Option SeatId) (queue : s.arbiter.queue = e :: rest)
    (holds : s.arbiter.held[k] = true) (hm : s.closures[e.closure].ctx.move = some m) (runs : m.Runs)
    (slotless : s.arbiter.held[e.closure] = false) (full : s.arbiter.heldCount = s.arbiter.effective)
    (clear : s.arbiter.unparkPending = false) (wait : s.arbiter.unparkWait = .none) (apart : k ≠ e.closure) :
    s.endMove k r w = (s.moveEnded k s.now r w).granted e.closure m s.now := by
  have head : (s.moveEnded k s.now r w).closures[e.closure] = s.closures[e.closure] :=
    s.modClosure_other (fun _ => s.closures[k].settledAt s.now r w) apart.symm
  have other : (s.moveEnded k s.now r w).arbiter.held[e.closure] = false := by
    have different : (k : Nat) ≠ e.closure := fun same => apart (Fin.ext same)
    simpa [State.moveEnded, different] using slotless
  refine State.grantTest_last (s := s.moveEnded k s.now r w) queue (by rw [head]; exact hm) runs other ?_ clear wait
  rw [Arbiter.heldCount_release_one holds rfl]
  exact full

end

theorem State.granted_other (s : State) {j k : ClosureId} {m : Move} {now : Nat} (h : j ≠ k) :
    (s.granted k m now).closures[j] = s.closures[j] := s.withClosure_other _ h

/-- A STOP whose slot goes to the head of the slot queue (R95, R111). -/
theorem exec_stop_grants {f : SeatFrame} {s : State} {k : ClosureId} {e : QueueEntry} {rest : List QueueEntry} {m : Move}
    (h : s.Awake) (queue : s.arbiter.queue = e :: rest) (hm : s.closures[e.closure].ctx.move = some m) (runs : m.Runs)
    (slotless : s.arbiter.held[e.closure] = false) (clear : s.arbiter.unparkPending = false)
    (wait : s.arbiter.unparkWait = .none) (full : s.arbiter.heldCount = s.arbiter.effective)
    (member : hasMember s.seats[f.seat].record.moveMask k.val = true) (alone : s.closures[k].ctx.followOn = none)
    (moving : s.closures[k].ctx.state = .running ∨ s.closures[k].ctx.state = .reversing)
    (holds : s.arbiter.held[k] = true) (apart : k ≠ e.closure) :
    exec (.stop f [byteOf k.val]) s = .next
      (((s.moveEnded k (s.now + f.dt) .stopped (some f.seat)).granted e.closure m (s.now + f.dt)).answered
        f 0x12 1 .accepted []) := by
  have granted := State.endMove_grants (s := s.later f.dt) .stopped (some f.seat) queue holds hm runs slotless full clear
    wait apart
  have ended : ((s.later f.dt).endMove k .stopped (some f.seat)).closures[k].ctx.followOn = none := by
    rw [granted, State.granted_other _ apart]
    exact (congrArg (·.ctx.followOn) (State.moveEnded_closure _ k _ _ _)).trans alone
  refine congrArg Host.Outcome.next (State.seatCommand_answered h ?_)
  have halts : (s.later f.dt).halt k .stopped .stopped f.seat = (s.later f.dt).endMove k .stopped (some f.seat) := by
    unfold State.halt
    have moving : (s.later f.dt).closures[k].ctx.state = .running ∨ (s.later f.dt).closures[k].ctx.state = .reversing := moving
    rcases moving with state | state <;> rw [state]
    exact State.dropFollowOn_none .stopped ended
  simp only [State.answerStop, closureOf_byteOf]
  refine (if_pos member).trans ?_
  rw [halts, granted]
  rfl

theorem FrontEnd.publish_eq (x : FrontEnd) : x.publish =
    { x with
      reading := max 6000 (min 18000 (x.window.sum / 20))
      outOfRange := decide (x.window.sum / 20 < 6000 ∨ 18000 < x.window.sum / 20) } := by
  rw [FrontEnd.publish, clampNat_eq (by decide)]

/-- A refresh that ends derating grants the head of the slot queue, and the supply is above V_min (R111, R113, R115). -/
theorem exec_supplyRefresh_grants {s : State} {dt : Nat} {e : QueueEntry} {rest : List QueueEntry} {m : Move}
    (queue : s.arbiter.queue = e :: rest) (hm : s.closures[e.closure].ctx.move = some m) (runs : m.Runs)
    (slotless : s.arbiter.held[e.closure] = false) (clear : s.arbiter.unparkPending = false)
    (wait : s.arbiter.unparkWait = .none) (h : s.Attentive) (one : s.arbiter.heldCount + 1 = s.settings.slots)
    (derating : s.arbiter.derating = true) (notice : s.arbiter.supplyNotice = false)
    (full : s.front.window.length = 20) (resume : s.settings.vResume ≤ s.front.publish.reading)
    (low : s.settings.vMin ≤ s.front.publish.reading) :
    exec (.supplyRefresh dt) s = .next
      (({ s.later dt with
          front := s.front.publish
          arbiter := { s.arbiter with derating := false, effective := s.settings.slots, supplyState := .above } }).granted
        e.closure m (s.now + dt)) := by
  have tested : (s.published dt).testDerating = ((s.published dt).modArbiter fun a =>
      { a with derating := false, effective := s.settings.slots }).granted e.closure m (s.now + dt) := by
    unfold State.testDerating
    refine ((if_pos derating).trans (if_pos resume)).trans ?_
    exact State.grantTest_last (s := (s.published dt).modArbiter fun a =>
      { a with derating := false, effective := s.settings.slots }) queue hm runs slotless one clear wait
  refine congrArg Host.Outcome.next (State.onEvent_eq h ?_ ?_)
  · rw [if_neg (show ¬ (s.later dt).front.window.length < 20 from Nat.not_lt.mpr full.ge)]
    refine (congrArg (fun u => (State.testSupply u).testRecovery) tested).trans ?_
    rw [State.testSupply_above (Nat.not_lt.mpr low)]
    exact State.testRecovery_stays fun noticed => absurd noticed.1 (Bool.eq_false_iff.mp notice)
  · rfl

/-- Settles O37: an arrival with a slot free; a release, and the end of derating, with one slot to give. -/
theorem moveGranted : Obligations.MoveGranted := by
  refine ⟨?_, fun e rest m s queue hm runs slotless clear wait => ⟨fun f k h full member alone moving holds apart =>
    exec_stop_grants h queue hm runs slotless clear wait full member alone moving holds apart, ?_⟩⟩
  · rintro ⟨dt, seat, fin⟩ s k m h rfl within passes idle empty free
    have taken := (State.submit_within (s := s.later dt) within passes).trans (State.takeMove_idle idle)
    rw [State.enqueue_grants (s := s.later dt) empty free] at taken
    have reached := m.reached_grantPosition_iff s.closures[k]
    intro now arrived granted atTarget items
    refine ⟨fun ahead => ?_, fun at_ => ?_⟩
    · have ahead : m.reached (s.closures[k].grantPosition m) = false := Bool.eq_false_iff.mpr (mt reached.mp ahead)
      refine exec_move_taken (target := m.target) (way := .queued) h rfl (Move.range_of_within within) (taken.trans ?_)
      have ahead : m.reached ((s.later dt).closures[k].grantPosition m) = false := ahead
      rw [ahead]
      rfl
    · have at_ : m.reached ((s.later dt).closures[k].grantPosition m) = true := reached.mpr at_
      refine exec_move_taken (target := m.target) (way := .queued) h rfl (Move.range_of_within within) (taken.trans ?_)
      rw [at_]
      rfl
  · intro dt h one derating notice full mean V resume low
    have published := s.front.publish_eq
    have grants := exec_supplyRefresh_grants (dt := dt) queue hm runs slotless clear wait h one derating notice full
      (published ▸ resume) (published ▸ low)
    rw [published] at grants
    exact grants

end Sys2Proof.Machine
end

section
/-! PROOFS. MOVE at a context that is not IDLE (R89 to R91, R93, R104, R110, R114): O39. -/
namespace Sys2Proof.Machine

section
variable {s t : State} {k : ClosureId} {m old g : Move}

/-! What the request meets. -/

theorem Context.meet_replaceRunning {x : Context} (running : x.state = .running) (hm : x.move = some old)
    (same : old.direction = m.direction) (seat : old.seat = m.seat) (runs : ¬ (old.kind = .learn ∨ old.kind = .normalise))
    (takes : ¬ (m.kind = .learn ∨ m.kind = .normalise)) : x.meet m = .replaceRunning := by
  have stops : ¬ (old.kind.toStop || m.kind.toStop) = true := by
    rw [Bool.or_eq_true, Kind.toStop_iff, Kind.toStop_iff]
    exact not_or.mpr ⟨runs, takes⟩
  simp only [Context.meet, running, hm]
  rw [if_neg (not_not.mpr same.symm), if_neg (not_not.mpr seat.symm), if_neg stops]

theorem Context.meet_supersedeRunning {x : Context} (running : x.state = .running) (hm : x.move = some old)
    (supersedes : old.direction ≠ m.direction ∨ old.seat = m.seat ∧
      ((old.kind = .learn ∨ old.kind = .normalise) ∨ (m.kind = .learn ∨ m.kind = .normalise))) :
    x.meet m = .supersedeRunning := by
  simp only [Context.meet, running, hm]
  by_cases same : m.direction = old.direction
  · obtain ⟨seat, stops⟩ := supersedes.resolve_left (not_not.mpr same.symm)
    rw [← Kind.toStop_iff, ← Kind.toStop_iff, ← Bool.or_eq_true] at stops
    rw [if_neg (not_not.mpr same), if_neg (not_not.mpr seat.symm), if_pos stops]
  · rw [if_pos same]

theorem Context.meet_store {x : Context}
    (state : x.state = .settling ∨ x.state = .reversing ∧ m.direction = .opening) : x.meet m = .store := by
  rcases state with settling | ⟨reversing, opening⟩
  · simp only [Context.meet, settling]
  · simp only [Context.meet, reversing, opening]

theorem Context.meet_replaceQueued {x : Context} (queued : x.state = .queued) (hm : x.move = some old)
    (same : old.direction = m.direction) (seat : old.seat = m.seat) : x.meet m = .replaceQueued := by
  simp only [Context.meet, queued, hm]
  rw [if_neg (not_not.mpr same.symm), if_pos seat.symm]

theorem Context.meet_supersedeQueued {x : Context} (queued : x.state = .queued) (hm : x.move = some old)
    (other : old.direction ≠ m.direction) : x.meet m = .supersedeQueued := by
  simp only [Context.meet, queued, hm]
  rw [if_pos other.symm]

/-! Moves replaced in place. -/

/-- A closure whose move is replaced in place (R89, R90): kind, origin and target anew, and the hold deadline. -/
def ClosureState.replacedBy (c : ClosureState) (m : Move) (now holdUnits : Nat) : ClosureState :=
  { c with ctx := { c.ctx with
      move := some m
      holdDeadline := if m.kind = .held ∨ m.kind = .normalise then some (now + holdUnits * 10000) else none } }

theorem State.modCtx_replace (s : State) (k : ClosureId) (m : Move) (now holdUnits : Nat) :
    s.modCtx k (Context.replace now holdUnits m) = s.withClosure k (s.closures[k].replacedBy m now holdUnits) := by
  rw [State.modCtx, State.modClosure_eq, Context.replace, queuedContext_eq]
  rfl

theorem Move.reached_eq {m : Move} (runs : ¬ (m.kind = .learn ∨ m.kind = .normalise)) (p : Int) :
    m.reached p = true ↔ ∃ x ∈ m.target, (m.direction = .closing ∧ p ≤ x) ∨ (m.direction = .opening ∧ x ≤ p) := by
  have kinds : m.kind = .held ∨ m.kind = .oneTouch ∨ m.kind = .global := by
    revert runs
    cases m.kind <;> decide
  rw [m.reached_iff]
  exact and_iff_right kinds

theorem State.takeMove_replaceRunning (meets : s.closures[k].ctx.meet m = .replaceRunning) :
    s.takeMove k m = s.replaceRunning k m := by
  simp only [State.takeMove, meets]

/-- A move that starts from where the closure is, replaced at a RUNNING context (R90, R93). -/
theorem State.replaceRunning_eq : s.replaceRunning k m =
    .taken (if m.reached s.closures[k].counter.position then
        (s.withClosure k (s.closures[k].replacedBy m s.now s.seats[m.seat].record.holdUnits)).endMove k .targetReached none
      else s.withClosure k (s.closures[k].replacedBy m s.now s.seats[m.seat].record.holdUnits)) m.target .replaced := by
  simp only [State.replaceRunning, State.modCtx_replace]
  rw [State.withClosure_self]
  rfl

/-- Where an entry goes depends on the closures alone. -/
theorem State.insertEntry_closures (same : t.closures = s.closures) (e : QueueEntry) (q : List QueueEntry) :
    t.insertEntry e q = s.insertEntry e q :=
  State.insertEntry_congr (fun k => by simp only [State.classOf, same]) e q

/-- A QUEUED move replaced in place, before its time in the queue is tested (R89, R110). -/
def State.replacedInQueue (s : State) (k : ClosureId) (c : ClosureState) (e : QueueEntry) : State :=
  { s.withClosure k c with arbiter := { s.arbiter with
      queue := (s.withClosure k c).insertEntry e (s.arbiter.queue.filter fun x => decide (x.closure ≠ k)) } }

theorem State.replaceInQueue_eq {c : ClosureState} {e : QueueEntry} (entry : e ∈ s.arbiter.queue) (self : e.closure = k)
    (once : (s.arbiter.queue.map (·.closure)).Nodup) :
    (s.withClosure k c).replaceInQueue k = s.replacedInQueue k c e := by
  have found : s.arbiter.queue.find? (fun x => decide (x.closure = k)) = some e := by
    cases found : s.arbiter.queue.find? fun x => decide (x.closure = k) with
    | none => exact absurd (decide_eq_true self) (List.find?_eq_none.mp found e entry)
    | some x =>
      have same : x.closure = k := of_decide_eq_true (List.find?_some found :)
      exact congrArg some (List.inj_on_of_nodup_map once (List.mem_of_find?_eq_some found) entry (same.trans self.symm))
  have found : (s.withClosure k c).arbiter.queue.find? (fun x => decide (x.closure = k)) = some e := found
  unfold State.replaceInQueue
  rw [found]
  have place := State.insertEntry_closures (s := s.withClosure k c) (t := (s.withClosure k c).leaveQueue k) rfl e
  simp only [place]
  rfl

theorem Context.isOverdue_replaced {c : ClosureState} {now holdUnits entry : Nat} (queued : c.ctx.state = .queued)
    (entered : c.ctx.queueEntry = some entry) : (c.replacedBy m now holdUnits).ctx.isOverdue now = true ↔
      (m.kind = .oneTouch ∨ m.kind = .global) ∧ entry + 8000000 < now := by
  have timed : ¬ m.kind.grantClass = 0 ↔ m.kind = .oneTouch ∨ m.kind = .global := by cases m.kind <;> decide
  simp only [Context.isOverdue, Context.queueDeadline, ClosureState.replacedBy, queued, entered]
  rw [← timed]
  by_cases class_ : m.kind.grantClass = 0
  · simp [class_]
  · simp [class_, Config.queueWait, Config.ms]

/-! What the state becomes. -/

/-- A RUNNING move superseded, nothing waiting for its slot, and the new one stored as the follow-on (R90). -/
theorem State.takeMove_supersedeRunning (meets : s.closures[k].ctx.meet m = .supersedeRunning)
    (alone : s.closures[k].ctx.followOn = none) (empty : s.arbiter.queue = []) :
    s.takeMove k m = .taken ((s.moveEnded k s.now .superseded (some m.seat)).modCtx k fun x => { x with followOn := some m })
      m.target .followOn := by
  have follow : (s.moveEnded k s.now .superseded (some m.seat)).closures[k].ctx.followOn = none :=
    (congrArg (·.ctx.followOn) (s.moveEnded_closure k _ _ _)).trans alone
  simp only [State.takeMove, meets, State.endMove_empty k _ _ empty, State.storeFollowOn,
    State.dropFollowOn_none _ follow]

/-- A closure with a follow-on (R91). -/
def ClosureState.following (c : ClosureState) (m : Move) : ClosureState := { c with ctx := { c.ctx with followOn := some m } }

theorem State.takeMove_store (meets : s.closures[k].ctx.meet m = .store) :
    s.takeMove k m = .taken (s.storeFollowOn k m) m.target .followOn := by
  simp only [State.takeMove, meets]

theorem State.storeFollowOn_alone (alone : s.closures[k].ctx.followOn = none) :
    s.storeFollowOn k m = s.withClosure k (s.closures[k].following m) := by
  rw [State.storeFollowOn, State.dropFollowOn_none _ alone, State.modCtx, State.modClosure_eq]
  rfl

/-- A follow-on stored in the place of one that is told of its end (R91). -/
theorem State.storeFollowOn_drops (follows : s.closures[k].ctx.followOn = some g) :
    (s.storeFollowOn k m).closures = s.closures.set k (s.closures[k].following m) ∧
    (s.storeFollowOn k m).arbiter = s.arbiter ∧
    s.Told (s.storeFollowOn k m) (fun n => n = g.seat) (.followOnDropped k .superseded g) s.now ∧
    s.SameElsewhere (s.storeFollowOn k m) ∧ s.SameReplies (s.storeFollowOn k m) := by
  obtain ⟨closures, arbiter, told, elsewhere, replies⟩ := State.dropFollowOn_drops .superseded follows
  have self : (s.dropFollowOn k .superseded).closures[k] = s.closures[k].withoutFollowOn := by
    simp only [closures]
    exact s.withClosure_self k _
  refine ⟨?_, arbiter, told, elsewhere, replies⟩
  rw [State.storeFollowOn, State.modCtx, State.modClosure_eq, self, State.withClosure, closures]
  exact Vector.set_set ..

/-- A QUEUED move that stays in its place (R89). -/
theorem State.takeMove_replaceQueued (meets : s.closures[k].ctx.meet m = .replaceQueued) {e : QueueEntry}
    (entry : e ∈ s.arbiter.queue) (self : e.closure = k) (once : (s.arbiter.queue.map (·.closure)).Nodup) :
    let c := s.closures[k].replacedBy m s.now s.seats[m.seat].record.holdUnits
    s.takeMove k m = .taken (if c.ctx.isOverdue s.now then (s.replacedInQueue k c e).remove k .queueTimeout none
      else s.replacedInQueue k c e) m.target .replaced := by
  intro c
  have placed : (s.modCtx k (Context.replace s.now s.seats[m.seat].record.holdUnits m)).replaceInQueue k =
      s.replacedInQueue k c e := by
    rw [State.modCtx_replace, State.replaceInQueue_eq entry self once]
  have present : (s.replacedInQueue k c e).closures[k] = c := s.withClosure_self k c
  simp only [State.takeMove, meets, State.replaceQueued, placed]
  rw [present]
  rfl

/-- A QUEUED move superseded (R89). -/
theorem State.takeMove_supersedeQueued (meets : s.closures[k].ctx.meet m = .supersedeQueued) :
    s.takeMove k m = .taken ((s.remove k .superseded (some m.seat)).enqueue k m).grantTest m.target .queued := by
  simp only [State.takeMove, meets]

/-- A QUEUED move superseded with no slot free: the new one waits as a new arrival (R89, R104). -/
theorem State.supersedeQueued_waits (hm : s.closures[k].ctx.move = some old)
    (full : s.arbiter.effective ≤ s.arbiter.heldCount) (w : Option SeatId) :
    let t := ((s.remove k .superseded w).enqueue k m).grantTest
    t.closures = s.closures.set k { s.closures[k].removedAt k old .superseded w s.front.reading with
      ctx := Context.arrived m s.now s.seats[m.seat].record.holdUnits } ∧
    t.arbiter = { s.arbiter with
      queue := t.insertEntry { closure := k, arrival := (s.arbiter.without k).nextNumber } (s.arbiter.without k).queue
      lastArrival := (s.arbiter.without k).nextNumber } ∧
    s.Told t (s.Hears k old.seat) (.moveEnded (s.closures[k].removal k old .superseded w s.front.reading)) s.now ∧
    s.SameElsewhere t ∧ s.SameReplies t := by
  intro t
  obtain ⟨closures, arbiter, told, elsewhere⟩ := State.remove_removed (u := s) .superseded w hm
  have replies := State.remove_replies (s := s) .superseded w hm
  have now : (s.remove k .superseded w).now = s.now := (s.sameOutside_remove k .superseded w).now
  have self : (s.remove k .superseded w).closures[k] =
      s.closures[k].removedAt k old .superseded w s.front.reading := by
    simp only [closures]
    exact s.withClosure_self k _
  have full : (s.remove k .superseded w).arbiter.effective ≤ (s.remove k .superseded w).arbiter.heldCount := by
    rw [arbiter]
    exact full
  have waits : t = _ := State.enqueue_waits (k := k) (m := m) full
  have arrived : (s.remove k .superseded w).arrived (s.remove k .superseded w).closures[k] m =
      { s.closures[k].removedAt k old .superseded w s.front.reading with
        ctx := Context.arrived m s.now s.seats[m.seat].record.holdUnits } := by
    rw [State.arrived, self, now, elsewhere.2.2.2.2.2 m.seat]
  have place := State.insertEntry_closures (t := t)
    (s := (s.remove k .superseded w).withClosure k
      ((s.remove k .superseded w).arrived (s.remove k .superseded w).closures[k] m)) (by rw [waits]; rfl)
    { closure := k, arrival := (s.arbiter.without k).nextNumber } (s.arbiter.without k).queue
  have seats : t.seats = (s.remove k .superseded w).seats := by rw [waits]; rfl
  refine ⟨?_, ?_, ?_, ?_, ?_⟩
  · rw [waits, State.waiting, State.withClosure, arrived, closures]
    exact Vector.set_set ..
  · rw [place, waits, State.waiting, arbiter]
    rfl
  · intro n
    rw [seats]
    exact told n
  · refine State.sameElsewhere_trans elsewhere ?_
    rw [waits]
    exact ⟨rfl, rfl, rfl, rfl, rfl, fun _ => rfl⟩
  · intro n
    rw [seats]
    exact replies n

end

/-- Settles O39: what the request meets, and what the state becomes. -/
theorem moveAtBusyContext : Obligations.MoveAtBusyContext := by
  rintro ⟨dt, seat, fin⟩ s k m h rfl within passes
  have range := Move.range_of_within within
  have submits := State.submit_within (s := s.later dt) within passes
  intro c now argc run items holdUnits toStop replaced
  refine ⟨fun old running hm same seat runs takes => ?_, fun old running hm alone supersedes empty => ?_, fun state => ?_,
    fun old e entry queued hm same seat entered waits self once => ?_, fun old queued hm other full => ?_⟩
  · have meets := Context.meet_replaceRunning (x := c.ctx) running hm same seat runs takes
    have taken := submits.trans ((State.takeMove_replaceRunning (s := s.later dt) meets).trans State.replaceRunning_eq)
    have at_ := Move.reached_eq takes (s.later dt).closures[k].counter.position
    intro reached
    refine ⟨fun ahead => ?_, fun there empty => ?_⟩
    · rw [if_neg (mt at_.mp ahead)] at taken
      exact exec_move_taken (way := .replaced) h rfl range taken
    · rw [if_pos (at_.mpr there), State.endMove_empty k _ _ (by exact empty)] at taken
      exact exec_move_taken (way := .replaced) h rfl range taken
  · have meets := Context.meet_supersedeRunning (x := c.ctx) running hm supersedes
    have taken := submits.trans (State.takeMove_supersedeRunning (s := s.later dt) meets alone empty)
    exact exec_move_taken (way := .followOn) h rfl range taken
  · have meets := Context.meet_store (x := c.ctx) state
    have taken := submits.trans (State.takeMove_store (s := s.later dt) meets)
    refine ⟨fun alone => ?_, fun g follows => ?_⟩
    · rw [State.storeFollowOn_alone (s := s.later dt) alone] at taken
      exact exec_move_taken (way := .followOn) h rfl range taken
    · obtain ⟨closures, arbiter, told, elsewhere, replies⟩ := State.storeFollowOn_drops (s := s.later dt) (m := m) follows
      obtain ⟨t, ran, as, answers⟩ := exec_move_answers (f := ⟨dt, m.seat, fin⟩) (k := k) h rfl range taken replies
      exact ⟨t, ran, as.closures.trans closures, as.arbiter.trans arbiter, as.told told,
        State.sameElsewhere_trans elsewhere as.elsewhere, answers⟩
  · have meets := Context.meet_replaceQueued (x := c.ctx) queued hm same seat
    have taken := submits.trans (State.takeMove_replaceQueued (s := s.later dt) meets waits self once)
    have overdue := Context.isOverdue_replaced (m := m) (c := (s.later dt).closures[k]) (now := (s.later dt).now)
      (holdUnits := (s.later dt).seats[m.seat].record.holdUnits) queued entered
    have place := State.insertEntry_closures (s := s.withClosure k replaced) (t := (s.later dt).withClosure k replaced) rfl e
      (s.arbiter.queue.filter fun x => decide (x.closure ≠ k))
    intro placed moved late
    have moves : (s.later dt).replacedInQueue k ((s.later dt).closures[k].replacedBy m (s.later dt).now
        (s.later dt).seats[m.seat].record.holdUnits) e = moved.later dt :=
      congrArg (fun q => { (s.later dt).withClosure k replaced with arbiter := { s.arbiter with queue := q } }) place
    rw [moves] at taken
    refine ⟨fun timely => ?_, fun overlong => ?_⟩
    · rw [if_neg (mt overdue.mp timely)] at taken
      exact exec_move_taken (way := .replaced) h rfl range taken
    · rw [if_pos (overdue.mpr overlong)] at taken
      have present : (moved.later dt).closures[k] = replaced := s.withClosure_self k replaced
      have removed := State.remove_removed (u := moved.later dt) (m := m) .queueTimeout none (by rw [present])
      have replies := State.remove_replies (s := moved.later dt) (m := m) .queueTimeout none (by rw [present])
      obtain ⟨t, ran, as, answers⟩ := exec_move_answers (f := ⟨dt, m.seat, fin⟩) (k := k) h rfl range taken replies
      exact ⟨t, ran, as.removed removed, answers⟩
  · have meets := Context.meet_supersedeQueued (x := c.ctx) queued hm other
    have taken := submits.trans (State.takeMove_supersedeQueued (s := s.later dt) meets)
    obtain ⟨closures, arbiter, told, elsewhere, replies⟩ :=
      State.supersedeQueued_waits (s := s.later dt) (m := m) hm full (some m.seat)
    obtain ⟨t, ran, as, answers⟩ := exec_move_answers (f := ⟨dt, m.seat, fin⟩) (k := k) h rfl range taken replies
    intro left number
    refine ⟨t, ran, as.closures.trans closures, ?_, as.told told, State.sameElsewhere_trans elsewhere as.elsewhere, answers⟩
    rw [State.insertEntry_closures as.closures]
    exact as.arbiter.trans arbiter

end Sys2Proof.Machine
end

section
/-! PROOFS. Many QUEUED moves removed in one event, and many granted ones ended (R97, R99, R104, R107). -/
namespace Sys2Proof.Machine

section
variable (s : State) (r : EndReason) (w : Option SeatId)

/-- A closure once its QUEUED move is removed; one without a move is as it was. -/
def State.removedFor (k : ClosureId) : ClosureState :=
  match s.closures[k].ctx.move with
  | some m => s.closures[k].removedAt k m r w s.front.reading
  | none => s.closures[k]

/-- What a seat hears of the removal at one closure (R104, R130). -/
def State.removalHeard (n : SeatId) (k : ClosureId) : Option Notice :=
  match s.closures[k].ctx.move with
  | some m =>
    if s.Hears k m.seat n then
      some { body := .moveEnded (s.closures[k].removal k m r w s.front.reading), time := s.now }
    else none
  | none => none

/-- What is left of the moves of some closures, all QUEUED, once they are removed one after the other. -/
structure State.RemovesAll (ks : List ClosureId) (t : State) : Prop where
  closure : ∀ j : ClosureId, t.closures[j] = if j ∈ ks then s.removedFor r w j else s.closures[j]
  arbiter : t.arbiter = { s.arbiter with queue := s.arbiter.queue.filter fun e => decide (e.closure ∉ ks) }
  told : ∀ n : SeatId, s.seats[n].queue.length + (ks.filterMap (s.removalHeard r w n)).length ≤ 16 →
    t.seats[n].queue = s.seats[n].queue ++ ks.filterMap (s.removalHeard r w n)
  deaf : ∀ n : SeatId, ks.filterMap (s.removalHeard r w n) = [] → t.seats[n] = s.seats[n]
  elsewhere : s.SameElsewhere t
  replies : s.SameReplies t
  outside : s.SameOutside t

end

section
variable {s t : State} {r : EndReason} {w : Option SeatId} {k : ClosureId} {m : Move}

/-- A seat that does not hear of a removal is as it was. -/
theorem State.remove_deaf (hm : s.closures[k].ctx.move = some m) {n : SeatId} (deaf : ¬ s.Hears k m.seat n) :
    (s.remove k r w).seats[n] = s.seats[n] := by
  have seats : (s.remove k r w).seats = (s.postTo (fun n => decide (n = m.seat) || s.subscribes k n)
      (.moveEnded (s.closures[k].removedOutcome k m r w s.front.reading))).seats := by
    simp only [State.remove, hm]
    rfl
  rw [seats, State.postTo_seats]
  simp only [Fin.getElem_fin, Vector.getElem_ofFn]
  exact if_neg (mt (s.hears_iff k m.seat n).mp deaf)

theorem State.remove_unowned (hm : s.closures[k].ctx.move = none) : s.remove k r w = s := by
  simp only [State.remove, hm]

theorem State.remove_other {j : ClosureId} (apart : j ≠ k) : (s.remove k r w).closures[j] = s.closures[j] := by
  cases hm : s.closures[k].ctx.move with
  | none => rw [State.remove_unowned hm]
  | some m =>
    obtain ⟨closures, -⟩ := State.remove_removed r w hm
    simp only [closures]
    exact s.withClosure_other _ apart

theorem State.removedFor_other {j : ClosureId} (apart : j ≠ k) : (s.remove k r w).removedFor r w j = s.removedFor r w j := by
  have front := (s.sameOutside_remove k r w).front
  simp only [State.removedFor, State.remove_other apart, front]

/-- A removal changes nothing of what the seats hear of the others. -/
theorem State.removalHeard_other {j : ClosureId} {n : SeatId} (apart : j ≠ k) :
    (s.remove k r w).removalHeard r w n j = s.removalHeard r w n j := by
  have outside := s.sameOutside_remove k r w
  have record : (s.remove k r w).seats[n].record = s.seats[n].record := by
    cases hm : s.closures[k].ctx.move with
    | none => rw [State.remove_unowned hm]
    | some m => exact (State.remove_removed r w hm).2.2.2.2.2.2.2.2 n
  simp only [State.removalHeard, State.remove_other apart, outside.front, outside.now, State.Hears, record]

theorem State.removalHeard_eq (hm : s.closures[k].ctx.move = some m) (n : SeatId) :
    s.removalHeard r w n k = if s.Hears k m.seat n then
      some { body := .moveEnded (s.closures[k].removal k m r w s.front.reading), time := s.now } else none := by
  simp only [State.removalHeard, hm]

theorem State.removesAll_nil : s.RemovesAll r w [] s where
  closure _ := by rw [if_neg List.not_mem_nil]
  arbiter := by simp
  told _ _ := (List.append_nil _).symm
  deaf _ _ := rfl
  elsewhere := ⟨rfl, rfl, rfl, rfl, rfl, fun _ => rfl⟩
  replies _ := rfl
  outside := .refl s

/-- One removal before the others. -/
theorem State.RemovesAll.cons {ks : List ClosureId} (h : (s.remove k r w).RemovesAll r w ks t) (first : k ∉ ks)
    (hm : s.closures[k].ctx.move = some m) : s.RemovesAll r w (k :: ks) t := by
  obtain ⟨closures, arbiter, told, elsewhere⟩ := State.remove_removed r w hm
  have apart : ∀ j ∈ ks, j ≠ k := fun j hj same => first (same ▸ hj)
  have later : ∀ n, ks.filterMap ((s.remove k r w).removalHeard r w n) = ks.filterMap (s.removalHeard r w n) := fun n =>
    List.filterMap_congr fun j hj => State.removalHeard_other (apart j hj)
  refine ⟨fun j => ?_, ?_, fun n room => ?_, fun n deaf => ?_, State.sameElsewhere_trans elsewhere h.elsewhere, fun n => ?_,
    (s.sameOutside_remove k r w).trans h.outside⟩
  · rw [h.closure j]
    by_cases same : j = k
    · subst same
      rw [if_neg first, if_pos List.mem_cons_self]
      simp only [closures, State.removedFor, hm]
      exact s.withClosure_self j _
    · simp only [List.mem_cons, same, false_or, State.removedFor_other same, State.remove_other same]
  · rw [h.arbiter, arbiter]
    simp only [Arbiter.without, List.filter_filter, List.mem_cons, not_or, Bool.decide_and, Bool.and_comm]
  · have heard := h.told n
    rw [later] at heard
    rw [List.filterMap_cons, State.removalHeard_eq hm] at room ⊢
    by_cases hears : s.Hears k m.seat n
    · simp only [if_pos hears] at room ⊢
      rw [List.length_cons] at room
      have queue := ((told n).1 hears (by omega)).1
      rw [heard (by rw [queue, List.length_append, List.length_singleton]; omega), queue, List.append_assoc]
      rfl
    · simp only [if_neg hears] at room ⊢
      have queue := ((told n).2 hears).1
      rw [heard (by rwa [queue]), queue]
  · have silent := h.deaf n
    rw [later] at silent
    rw [List.filterMap_cons, State.removalHeard_eq hm] at deaf
    by_cases hears : s.Hears k m.seat n
    · simp [hears] at deaf
    · simp only [if_neg hears] at deaf
      exact (silent deaf).trans (State.remove_deaf hm hears)
  · exact (h.replies n).trans (State.remove_replies r w hm n)

/-- The removals of several moves, one after the other. -/
theorem State.removesAll (s : State) (r : EndReason) (w : Option SeatId) (ks : List ClosureId) (once : ks.Nodup)
    (owned : ∀ k ∈ ks, s.closures[k].ctx.move.isSome = true) :
    s.RemovesAll r w ks (ks.foldl (fun t k => t.remove k r w) s) := by
  induction ks generalizing s with
  | nil => exact State.removesAll_nil
  | cons k ks ih =>
    obtain ⟨first, once⟩ := List.nodup_cons.mp once
    obtain ⟨m, hm⟩ := Option.isSome_iff_exists.mp (owned k List.mem_cons_self)
    refine State.RemovesAll.cons (ih _ once fun j hj => ?_) first hm
    rw [State.remove_other fun same : j = k => first (same ▸ hj)]
    exact owned j (List.mem_cons_of_mem _ hj)

/-- Which moves a sweep over the closures removes is settled before it: a removal changes no other closure. -/
theorem State.sweep_eq (chosen : Context → Prop) [DecidablePred chosen] (l : List ClosureId) (once : l.Nodup) (s : State)
    (r : EndReason) (w : Option SeatId) :
    l.foldl (fun t k => if chosen t.closures[k].ctx then t.remove k r w else t) s =
      (l.filter fun k => decide (chosen s.closures[k].ctx)).foldl (fun t k => t.remove k r w) s := by
  induction l generalizing s with
  | nil => rfl
  | cons k l ih =>
    obtain ⟨first, once⟩ := List.nodup_cons.mp once
    rw [List.foldl_cons, ih once]
    by_cases picked : chosen s.closures[k].ctx
    · have rest : (l.filter fun j => decide (chosen (s.remove k r w).closures[j].ctx)) =
          l.filter fun j => decide (chosen s.closures[j].ctx) :=
        List.filter_congr fun j hj => by rw [State.remove_other fun same : j = k => first (same ▸ hj)]
      simp only [if_pos picked, rest, List.filter_cons, decide_eq_true picked, if_true, List.foldl_cons]
    · simp only [if_neg picked, List.filter_cons, decide_eq_false picked, Bool.false_eq_true, if_false]

end

/-! Granted moves ended with nothing waiting (R102, R107). -/

section
variable (s : State) (r : EndReason) (w : Option SeatId)

/-- The moves of some closures ended at once, their slots released. -/
def State.movesEnded (ks : List ClosureId) : State :=
  { s with
    closures := Vector.ofFn fun j : ClosureId => if j ∈ ks then s.closures[j].settledAt s.now r w else s.closures[j]
    arbiter := { s.arbiter with held := Vector.ofFn fun j : ClosureId => s.arbiter.held[j] && decide (j ∉ ks) } }

theorem State.movesEnded_closure (ks : List ClosureId) (j : ClosureId) : (s.movesEnded r w ks).closures[j] =
    if j ∈ ks then s.closures[j].settledAt s.now r w else s.closures[j] := by
  simp only [State.movesEnded, Fin.getElem_fin, Vector.getElem_ofFn]

theorem State.movesEnded_held (ks : List ClosureId) (j : ClosureId) :
    (s.movesEnded r w ks).arbiter.held[j] = (s.arbiter.held[j] && decide (j ∉ ks)) := by
  simp only [State.movesEnded, Fin.getElem_fin, Vector.getElem_ofFn]

theorem State.movesEnded_nil : s.movesEnded r w [] = s := by
  simp [State.movesEnded]

theorem State.movesEnded_cons {k : ClosureId} {ks : List ClosureId} (first : k ∉ ks) :
    (s.moveEnded k s.now r w).movesEnded r w ks = s.movesEnded r w (k :: ks) := by
  have closure : ∀ j : ClosureId, (s.moveEnded k s.now r w).closures[j] =
      if j = k then s.closures[j].settledAt s.now r w else s.closures[j] := by
    intro j
    split
    · subst j
      exact s.moveEnded_closure k s.now r w
    · exact s.withClosure_other _ ‹_›
  have held : ∀ j : ClosureId, (s.moveEnded k s.now r w).arbiter.held[j] = (s.arbiter.held[j] && decide (j ≠ k)) := by
    intro j
    by_cases same : j = k
    · simp [State.moveEnded, same]
    · have apart : (k : Nat) ≠ j := fun e => same (Fin.ext e.symm)
      simp [State.moveEnded, same, apart]
  have closures : (Vector.ofFn fun j : ClosureId => if j ∈ ks then (s.moveEnded k s.now r w).closures[j].settledAt s.now r w
      else (s.moveEnded k s.now r w).closures[j]) =
      Vector.ofFn fun j : ClosureId => if j ∈ k :: ks then s.closures[j].settledAt s.now r w else s.closures[j] := by
    refine congrArg Vector.ofFn (funext fun j => ?_)
    rw [closure]
    by_cases same : j = k
    · subst same
      rw [if_neg first, if_pos rfl, if_pos List.mem_cons_self]
    · simp only [same, if_false, List.mem_cons, false_or]
  have slots : (Vector.ofFn fun j : ClosureId => (s.moveEnded k s.now r w).arbiter.held[j] && decide (j ∉ ks)) =
      Vector.ofFn fun j : ClosureId => s.arbiter.held[j] && decide (j ∉ k :: ks) := by
    refine congrArg Vector.ofFn (funext fun j => ?_)
    rw [held]
    simp only [List.mem_cons, not_or, Bool.decide_and, Bool.and_assoc]
  exact congrArg₂ (fun c h => { s with closures := c, arbiter := { s.arbiter with held := h } }) closures slots

theorem State.endMoves_empty (ks : List ClosureId) (once : ks.Nodup) (empty : s.arbiter.queue = []) :
    ks.foldl (fun t k => t.endMove k r w) s = s.movesEnded r w ks := by
  induction ks generalizing s with
  | nil => exact (s.movesEnded_nil r w).symm
  | cons k ks ih =>
    obtain ⟨first, once⟩ := List.nodup_cons.mp once
    rw [List.foldl_cons, State.endMove_empty k r w empty, ih (s.moveEnded k s.now r w) once empty,
      State.movesEnded_cons s r w first]

end

end Sys2Proof.Machine
end

section
/-! PROOFS. ALL-STOP (R97, R104): O42. -/
namespace Sys2Proof.Machine

section
variable {s : State} {k : ClosureId} (who : Option SeatId)

/-- The closures whose moves wait, and those whose moves have been granted and have not ended. -/
def State.queuedOnes (s : State) : List ClosureId := allClosures.filter fun k => decide (s.closures[k].ctx.state = .queued)

def State.movingOnes (s : State) : List ClosureId := allClosures.filter fun k => s.closures[k].ctx.moving

theorem State.mem_queuedOnes : k ∈ s.queuedOnes ↔ s.closures[k].ctx.state = .queued := by
  rw [State.queuedOnes, List.mem_filter, decide_eq_true_iff]
  exact and_iff_right (mem_allClosures k)

theorem Context.moving_iff (x : Context) : x.moving = true ↔ x.state = .running ∨ x.state = .reversing := by
  simp only [Context.moving, Bool.or_eq_true, decide_eq_true_eq]

theorem State.mem_movingOnes :
    k ∈ s.movingOnes ↔ s.closures[k].ctx.state = .running ∨ s.closures[k].ctx.state = .reversing := by
  rw [State.movingOnes, List.mem_filter, Context.moving_iff]
  exact and_iff_right (mem_allClosures k)

/-- A closure that every move of its own has left (R97). -/
def State.halted (s : State) (who : Option SeatId) (k : ClosureId) : ClosureState :=
  if k ∈ s.queuedOnes then s.removedFor .allStopped who k
  else if k ∈ s.movingOnes then s.closures[k].settledAt s.now .allStopped who
  else s.closures[k]

/-- The state once every QUEUED move has been removed. -/
def State.unqueued (s : State) (who : Option SeatId) : State := s.queuedOnes.foldl (fun t k => t.remove k .allStopped who) s

theorem State.MotionLaw.unqueued (h : s.MotionLaw) : s.RemovesAll .allStopped who s.queuedOnes (s.unqueued who) := by
  obtain ⟨-, owners, -⟩ := h
  refine s.removesAll .allStopped who s.queuedOnes (List.Nodup.filter _ (by decide)) fun k hk => (owners k).1.mpr ?_
  rw [State.mem_queuedOnes.mp hk]
  decide

/-- The slot queue holds no closure that is not QUEUED, so the removals empty it (R110). -/
theorem State.MotionLaw.unqueued_empty (h : s.MotionLaw) : (s.unqueued who).arbiter = { s.arbiter with queue := [] } := by
  rw [(h.unqueued who).arbiter]
  obtain ⟨-, -, ⟨slots, -⟩, -⟩ := h
  have none_ : (s.arbiter.queue.filter fun e => decide (e.closure ∉ s.queuedOnes)) = [] := by
    refine List.filter_eq_nil_iff.mpr fun e he => ?_
    rw [decide_eq_true_iff, not_not, State.mem_queuedOnes]
    exact (slots e.closure).2.mp (List.mem_map_of_mem he)
  rw [none_]

theorem State.MotionLaw.unqueued_moving (h : s.MotionLaw) : (s.unqueued who).movingOnes = s.movingOnes := by
  refine List.filter_congr fun k _ => ?_
  rw [(h.unqueued who).closure k]
  obtain ⟨-, owners, -⟩ := h
  split
  · have queued := State.mem_queuedOnes.mp ‹_›
    obtain ⟨m, hm⟩ := Option.isSome_iff_exists.mp ((owners k).1.mpr (by rw [queued]; decide))
    simp only [State.removedFor, hm, Context.moving, queued]
    rfl
  · rfl

/-- What ALL-STOP leaves under the laws of motion (R97). -/
theorem State.MotionLaw.allStop_eq (h : s.MotionLaw) : s.allStop who =
    ((s.unqueued who).movesEnded .allStopped who s.movingOnes).mapClosures fun _ c => c.withoutFollowOn := by
  have swept := State.sweep_eq (fun x => x.state = .queued) allClosures (by decide) s .allStopped who
  have ended := (s.unqueued who).endMoves_empty .allStopped who s.movingOnes (List.Nodup.filter _ (by decide))
    (congrArg Arbiter.queue (h.unqueued_empty who))
  rw [← ended, ← h.unqueued_moving who]
  unfold State.allStop
  rw [swept]
  rfl

theorem State.MotionLaw.allStop_closure (h : s.MotionLaw) (k : ClosureId) :
    (s.allStop who).closures[k] = (s.halted who k).withoutFollowOn := by
  have removed := (h.unqueued who).closure k
  have now : (s.unqueued who).now = s.now := (h.unqueued who).outside.now
  have ended := (s.unqueued who).movesEnded_closure .allStopped who s.movingOnes k
  have image : (s.allStop who).closures[k] =
      ((s.unqueued who).movesEnded .allStopped who s.movingOnes).closures[k].withoutFollowOn := by
    rw [h.allStop_eq]
    simp
  rw [image, ended, removed, now, State.halted]
  by_cases queued : k ∈ s.queuedOnes
  · have still : k ∉ s.movingOnes := by
      rw [State.mem_movingOnes, State.mem_queuedOnes.mp queued]
      decide
    rw [if_pos queued, if_pos queued, if_neg still]
  · rw [if_neg queued, if_neg queued]

/-- No slot is held once ALL-STOP has ended every move that holds one (R84, R107). -/
theorem State.MotionLaw.allStop_held (h : s.MotionLaw) (k : ClosureId) : (s.allStop who).arbiter.held[k] = false := by
  have held : (s.allStop who).arbiter.held[k] = (s.arbiter.held[k] && decide (k ∉ s.movingOnes)) := by
    rw [h.allStop_eq]
    refine ((s.unqueued who).movesEnded_held .allStopped who s.movingOnes k).trans ?_
    rw [h.unqueued_empty]
  obtain ⟨-, -, ⟨slots, -⟩, -⟩ := h
  rw [held, Bool.and_eq_false_iff, decide_eq_false_iff_not, not_not, State.mem_movingOnes, ← (slots k).1]
  exact (Bool.eq_false_or_eq_true _).symm

/-- Beside the closures ALL-STOP leaves what the removals leave. -/
theorem State.MotionLaw.allStop_rest (h : s.MotionLaw) :
    (s.allStop who).arbiter = { s.arbiter with queue := [], held := (s.allStop who).arbiter.held } ∧
    (s.allStop who).seats = (s.unqueued who).seats ∧ s.SameElsewhere (s.allStop who) ∧ s.SameOutside (s.allStop who) := by
  have arbiter := h.unqueued_empty who
  have removed := h.unqueued who
  rw [h.allStop_eq]
  refine ⟨?_, rfl, removed.elsewhere, removed.outside.trans ?_⟩
  · simp only [State.mapClosures_arbiter, State.movesEnded, arbiter]
  · constructor <;> rfl

end

/-- The seat that a command names, if it names one (R97). -/
def allStopSeat : Target → Option SeatId
  | .seat n => some n
  | .broadcast => none

/-- ALL-STOP leaves what its endings leave, but for the reply at the seat that it came through (R97). -/
theorem exec_allStop {s u : State} {dt : Nat} {target : Target} {fin : FrameEnd} (h : s.Awake)
    (stops : (s.later dt).allStop (allStopSeat target) = u) (outside : (s.later dt).SameOutside u)
    (replies : s.SameReplies u) :
    ∃ t, exec (.allStop dt target fin []) s = .next t ∧ u.AnsweredAs t ∧
      (∀ n : SeatId, target ≠ .seat n → t.seats[n] = u.seats[n]) ∧
      ∀ n : SeatId, target = .seat n → t.seats[n].reply = some
        { result := .accepted, command := 0x1F, overwritten := s.seats[n].reply.isSome, items := [] } := by
  cases target with
  | broadcast =>
    have ran : exec (.allStop dt .broadcast fin []) s =
        .next (((s.later dt).allStop none).frameSeen (receiverAfter fin) (List.replicate 4 true)) :=
      congrArg Host.Outcome.next (State.onFrame_awake (act := fun t => t.broadcastAllStop []) h)
    rw [show (s.later dt).allStop none = u from stops] at ran
    exact ⟨_, ran, ⟨rfl, rfl, fun _ => rfl, fun _ => rfl, fun _ => rfl, rfl, rfl, rfl, rfl, rfl, fun _ => rfl⟩,
      fun _ _ => rfl, nofun⟩
  | seat m =>
    have answer : (s.later dt).answerAllStop m [] = { state := u, result := .accepted, items := [] } :=
      congrArg (fun t => State.accept t []) stops
    obtain ⟨as, answers⟩ := State.seatCommand_answers (f := ⟨dt, m, fin⟩) (code := Code.allStop) (args := [])
      (body := fun t => t.answerAllStop m []) h answer outside replies
    refine ⟨_, rfl, as, fun n other => ?_, fun n self => ?_⟩
    · have placed : (s.seatCommand ⟨dt, m, fin⟩ Code.allStop [] fun t => t.answerAllStop m []).seats[n] =
          (u.placeReply m Code.allStop .accepted []).seats[n] := by
        rw [State.seatCommand_awake h, answer]
        rfl
      refine placed.trans ((State.placeReply_seat ..).trans (if_neg ?_))
      exact fun same => other (congrArg Target.seat same.symm)
    · obtain rfl := Target.seat.inj self
      refine (answers.1 m).trans ?_
      exact congrArg SeatState.reply ((State.placeReply_seat s m Code.allStop .accepted [] m).trans (if_pos rfl))

/-- Settles O42: the removals, then the endings with nothing left to wait for their slots. -/
theorem allStopHalts : Obligations.AllStopHalts := by
  intro dt target fin s awake law who now halted told
  have law : (s.later dt).MotionLaw := law
  have removed := law.unqueued who
  obtain ⟨arbiter, seats, elsewhere, outside⟩ := law.allStop_rest who
  have closures : ∀ k : ClosureId, ((s.later dt).allStop who).closures[k] = (halted k).withoutFollowOn := by
    intro k
    refine (law.allStop_closure who k).trans (congrArg ClosureState.withoutFollowOn ?_)
    have queued : k ∈ (s.later dt).queuedOnes ↔ s.closures[k].ctx.state = .queued := State.mem_queuedOnes
    have moving : k ∈ (s.later dt).movingOnes ↔ s.closures[k].ctx.state = .running ∨ s.closures[k].ctx.state = .reversing :=
      State.mem_movingOnes
    have same : (s.later dt).closures = s.closures := rfl
    simp only [State.halted, queued, moving, same, State.removedFor, halted]
    generalize s.closures[k].ctx.state = state, s.closures[k].ctx.move = move
    cases state <;> cases move <;> rfl
  have hears : ∀ n, (s.later dt).queuedOnes.filterMap ((s.later dt).removalHeard .allStopped who n) = told n := by
    intro n
    rw [State.queuedOnes, List.filterMap_filter]
    refine List.filterMap_congr fun k _ => ?_
    have same : (s.later dt).closures = s.closures := rfl
    simp only [State.removalHeard, same, decide_eq_true_eq]
    generalize s.closures[k].ctx.state = state, s.closures[k].ctx.move = move
    cases state <;> cases move <;> rfl
  have queue : ∀ n : SeatId, s.seats[n].queue.length + (told n).length ≤ 16 →
      ((s.later dt).allStop who).seats[n].queue = s.seats[n].queue ++ told n := fun n room => by
    rw [seats, ← hears]
    exact removed.told n (by rw [hears]; exact room)
  have deaf : ∀ n : SeatId, told n = [] → ((s.later dt).allStop who).seats[n] = s.seats[n] := fun n silent => by
    rw [seats]
    exact removed.deaf n (by rw [hears]; exact silent)
  have who_eq : allStopSeat target = who := by cases target <;> rfl
  obtain ⟨t, ran, as, others, reply⟩ := exec_allStop (fin := fin) awake (congrArg (s.later dt).allStop who_eq) outside
    fun n => by rw [seats]; exact removed.replies n
  refine ⟨t, ran, fun k => ⟨?_, ?_⟩, ?_, State.sameElsewhere_trans elsewhere as.elsewhere, fun n =>
    ⟨fun room => (as.queue n).trans (queue n room), fun silent other => (others n other).trans (deaf n silent), reply n⟩⟩
  · rw [as.closures]
    exact closures k
  · rw [as.arbiter]
    exact law.allStop_held who k
  · rw [as.arbiter]
    exact arbiter

end Sys2Proof.Machine
end

section
/-! PROOFS. The word operations on CHILD LOCK (R99, R104, R111, R124, R126): O34. -/
namespace Sys2Proof.Machine

theorem hasMember_added (new old : Byte) (k : ClosureId) :
    hasMember (new &&& ~~~old) k.val = (hasMember new k.val && !hasMember old k.val) := by
  have within : k.val < 8 := k.isLt
  simp only [hasMember, BitVec.getLsbD_and, BitVec.getLsbD_not, within, decide_true, Bool.true_and]

theorem hasMember_single (j k : ClosureId) : hasMember (byteOf (2 ^ k.val)) j.val = decide (j = k) := by
  revert j k
  decide

/-- One bit set is one closure added, unless it was set before. -/
theorem hasMember_setBit {old : Byte} {k : ClosureId} (clear : hasMember old k.val = false) (j : ClosureId) :
    hasMember ((old ||| byteOf (2 ^ k.val)) &&& ~~~old) j.val = decide (j = k) := by
  have set_ : hasMember (old ||| byteOf (2 ^ k.val)) j.val = (hasMember old j.val || decide (j = k)) := by
    rw [← hasMember_single]
    exact BitVec.getLsbD_or
  rw [hasMember_added, set_]
  by_cases same : j = k
  · subst same
    simp [clear]
  · simp [same]

theorem filter_single (k : ClosureId) (p : ClosureId → Bool) :
    (allClosures.filter fun j => decide (j = k) && p j) = if p k then [k] else [] := by
  have alone : allClosures.filter (fun j => decide (j = k)) = [k] := by
    revert k
    decide
  rw [List.filter_congr fun j _ => Bool.and_comm (decide (j = k)) (p j), ← List.filter_filter, alone]
  by_cases hp : p k <;> simp [hp]

section
variable {s : State} {added : Byte} {k : ClosureId}

/-- The closures newly locked that hold a LOCAL move in a state (R99). -/
def State.newlyLocked (s : State) (added : Byte) (state : CtxState) : List ClosureId :=
  allClosures.filter fun k => hasMember added k.val && s.closures[k].ctx.isLocal state

theorem State.mem_newlyLocked {state : CtxState} :
    k ∈ s.newlyLocked added state ↔ hasMember added k.val = true ∧ s.closures[k].ctx.isLocal state = true := by
  rw [State.newlyLocked, List.mem_filter, Bool.and_eq_true]
  exact and_iff_right (mem_allClosures k)

theorem Context.isLocal_iff (x : Context) (state : CtxState) :
    x.isLocal state = true ↔ x.state = state ∧ ∃ m, x.move = some m ∧ m.origin = .seatSwitch := by
  simp only [Context.isLocal, Bool.and_eq_true, decide_eq_true_eq, Option.map_eq_some_iff]

/-- A context is in one state. -/
theorem Context.isLocal_other {x : Context} {a b : CtxState} (h : x.isLocal a = true) (other : b ≠ a) :
    ¬ x.isLocal b = true := fun h' =>
  other (((Context.isLocal_iff x b).mp h').1.symm.trans ((Context.isLocal_iff x a).mp h).1)

/-- The state once the QUEUED LOCAL moves of the closures newly locked have been removed. -/
def State.lockedWaiters (s : State) (added : Byte) : State :=
  (s.newlyLocked added .queued).foldl (fun t k => t.remove k .lockedOut none) s

theorem State.lockedWaiters_removes (s : State) (added : Byte) :
    s.RemovesAll .lockedOut none (s.newlyLocked added .queued) (s.lockedWaiters added) := by
  refine s.removesAll .lockedOut none _ (List.Nodup.filter _ (by decide)) fun k hk => ?_
  obtain ⟨-, m, hm, -⟩ := (Context.isLocal_iff _ _).mp (State.mem_newlyLocked.mp hk).2
  rw [hm]
  rfl

theorem State.lockedWaiters_running : (s.lockedWaiters added).newlyLocked added .running = s.newlyLocked added .running := by
  refine List.filter_congr fun k _ => congrArg (hasMember added k.val && ·) ?_
  rw [(s.lockedWaiters_removes added).closure k]
  split
  · obtain ⟨queued, m, hm, -⟩ := (Context.isLocal_iff _ _).mp (State.mem_newlyLocked.mp ‹_›).2
    simp only [State.removedFor, hm, Context.isLocal, queued]
    rfl
  · rfl

/-- CHILD LOCK's removals come before its endings (R99). -/
theorem State.lockOut_eq (s : State) (added : Byte) : s.lockOut added =
    (s.newlyLocked added .running).foldl (fun t k => t.endMove k .lockedOut none) (s.lockedWaiters added) := by
  have swept := State.sweep_eq (fun x => x.isLocal .queued = true) (allClosures.filter fun k => hasMember added k.val)
    (List.Nodup.filter _ (by decide)) s .lockedOut none
  simp only [List.filter_filter, Bool.decide_eq_true] at swept
  have waiters : (allClosures.filter fun k => s.closures[k].ctx.isLocal .queued && hasMember added k.val) =
      s.newlyLocked added .queued := List.filter_congr fun k _ => Bool.and_comm ..
  rw [waiters] at swept
  have running := State.lockedWaiters_running (s := s) (added := added)
  simp only [State.lockOut, swept, List.filter_filter]
  rw [← running]
  refine congrArg (fun l => List.foldl _ (s.lockedWaiters added) l) ?_
  exact List.filter_congr fun k _ => Bool.and_comm ..

end

/-! What the lock leaves. -/

section
variable {s t : State} {added : Byte} {k : ClosureId}

/-- The lock's removals and endings, with nothing waiting for the slots. -/
def State.lockSettled (s : State) (added : Byte) : State :=
  (s.lockedWaiters added).movesEnded .lockedOut none (s.newlyLocked added .running)

theorem State.newlyLocked_nodup (s : State) (added : Byte) (state : CtxState) : (s.newlyLocked added state).Nodup :=
  List.Nodup.filter _ (by decide)

/-- The lock of one closure. -/
theorem State.lockOut_single (s : State) {old : Byte} (clear : hasMember old k.val = false) :
    s.lockOut ((old ||| byteOf (2 ^ k.val)) &&& ~~~old) =
      (if s.closures[k].ctx.isLocal .running then [k] else []).foldl (fun t k => t.endMove k .lockedOut none)
        ((if s.closures[k].ctx.isLocal .queued then [k] else []).foldl (fun t k => t.remove k .lockedOut none) s) := by
  have single : ∀ state, s.newlyLocked ((old ||| byteOf (2 ^ k.val)) &&& ~~~old) state =
      if s.closures[k].ctx.isLocal state then [k] else [] := fun state => by
    simp only [State.newlyLocked, hasMember_setBit clear]
    exact filter_single k _
  rw [s.lockOut_eq, State.lockedWaiters, single, single]

/-- The lock finds one RUNNING LOCAL move. -/
theorem State.newlyLocked_eq_singleton {state : CtxState} (is : k ∈ s.newlyLocked added state)
    (only : ∀ j ∈ s.newlyLocked added state, j = k) : s.newlyLocked added state = [k] := by
  refine List.perm_singleton.mp ((List.perm_ext_iff_of_nodup (s.newlyLocked_nodup added state)
    (List.nodup_singleton k)).mpr fun j => ?_)
  rw [List.mem_singleton]
  exact ⟨only j, fun same => same ▸ is⟩

theorem State.lockOut_settles
    (alone : s.newlyLocked added .running = [] ∨ (s.lockedWaiters added).arbiter.queue = []) :
    s.lockOut added = s.lockSettled added := by
  rw [s.lockOut_eq]
  rcases alone with none_ | empty
  · rw [State.lockSettled, none_, State.movesEnded_nil]
    rfl
  · exact (s.lockedWaiters added).endMoves_empty .lockedOut none _ (s.newlyLocked_nodup added _) empty

theorem State.lockSettled_closure (s : State) (added : Byte) (j : ClosureId) : (s.lockSettled added).closures[j] =
    if j ∈ s.newlyLocked added .running then s.closures[j].settledAt s.now .lockedOut none
    else if j ∈ s.newlyLocked added .queued then s.removedFor .lockedOut none j
    else s.closures[j] := by
  have removed := s.lockedWaiters_removes added
  refine ((s.lockedWaiters added).movesEnded_closure .lockedOut none _ j).trans ?_
  rw [removed.closure, removed.outside.now]
  split
  · have running := (State.mem_newlyLocked.mp ‹_›).2
    have waits : j ∉ s.newlyLocked added .queued := fun waits =>
      Context.isLocal_other running (by decide) (State.mem_newlyLocked.mp waits).2
    rw [if_neg waits]
  · rfl

theorem State.lockSettled_arbiter (s : State) (added : Byte) : (s.lockSettled added).arbiter =
    { s.arbiter with
      queue := s.arbiter.queue.filter fun e => decide (e.closure ∉ s.newlyLocked added .queued)
      held := Vector.ofFn fun j : ClosureId => s.arbiter.held[j] && decide (j ∉ s.newlyLocked added .running) } := by
  have removed := (s.lockedWaiters_removes added).arbiter
  simp only [State.lockSettled, State.movesEnded, removed]

theorem State.lockSettled_rest (s : State) (added : Byte) : (s.lockSettled added).seats = (s.lockedWaiters added).seats ∧
    s.SameElsewhere (s.lockSettled added) ∧ s.SameOutside (s.lockSettled added) := by
  have removed := s.lockedWaiters_removes added
  refine ⟨rfl, removed.elsewhere, removed.outside.trans ?_⟩
  constructor <;> rfl

/-- A closure that waits on after the lock's removals is as it was. -/
theorem State.lockSettled_head {e : QueueEntry} {rest : List QueueEntry} (running : s.newlyLocked added .running = [k])
    (queue : (s.lockSettled added).arbiter.queue = e :: rest) (apart : e.closure ≠ k) :
    (s.lockSettled added).closures[e.closure] = s.closures[e.closure] := by
  have first : e ∈ (s.lockSettled added).arbiter.queue := queue ▸ List.mem_cons_self
  rw [s.lockSettled_arbiter] at first
  have left := List.mem_filter.mp first
  rw [s.lockSettled_closure, running, if_neg (mt List.mem_singleton.mp apart), if_neg (of_decide_eq_true left.2)]

/-- One slot given back by the lock goes to the head of what waits (R111). -/
theorem State.lockOut_grants {e : QueueEntry} {rest : List QueueEntry} {m : Move}
    (running : s.newlyLocked added .running = [k]) (queue : (s.lockSettled added).arbiter.queue = e :: rest)
    (apart : e.closure ≠ k) (hm : s.closures[e.closure].ctx.move = some m) (runs : m.Runs)
    (slotless : s.arbiter.held[e.closure] = false)
    (one : (s.lockSettled added).arbiter.heldCount + 1 = s.arbiter.effective)
    (clear : s.arbiter.unparkPending = false) (wait : s.arbiter.unparkWait = .none) :
    s.lockOut added = (s.lockSettled added).granted e.closure m s.now := by
  have ended : s.lockSettled added =
      (s.lockedWaiters added).moveEnded k (s.lockedWaiters added).now .lockedOut none := by
    rw [State.lockSettled, running, ← State.movesEnded_cons _ _ _ List.not_mem_nil, State.movesEnded_nil]
  have tests : s.lockOut added = (s.lockSettled added).grantTest := by
    rw [s.lockOut_eq, running, ended]
    rfl
  have slots := s.lockSettled_arbiter added
  have effective : (s.lockSettled added).arbiter.effective = s.arbiter.effective := by rw [slots]
  have other : (s.lockSettled added).arbiter.held[e.closure] = false := by
    rw [slots]
    simpa using fun holds => absurd holds (Bool.eq_false_iff.mp slotless)
  have present := State.lockSettled_head running queue apart
  rw [tests, State.grantTest_last queue (by rw [present]; exact hm) runs other (by rw [effective]; exact one)
    (by rw [slots]; exact clear) (by rw [slots]; exact wait), (s.lockSettled_rest added).2.2.now]

/-- A grant changes closures and slots as these and the supply reading tell. -/
theorem State.granted_congr {j : ClosureId} {m : Move} {now : Nat} (closures : t.closures = s.closures)
    (arbiter : t.arbiter = s.arbiter) (front : t.front = s.front) :
    (t.granted j m now).closures = (s.granted j m now).closures ∧
      (t.granted j m now).arbiter = (s.granted j m now).arbiter := by
  simp only [State.granted, State.withClosure, closures, arbiter, front, and_self]

end

/-! The operations on the word. -/

/-- A state with CHILD LOCK written. -/
def State.locking (s : State) (new : Byte) : State := { s with words := s.words.set 0 new }

/-- A command that writes CHILD LOCK is the lock of the closures that it adds (R124, R126). -/
def State.LocksBy (s : State) (f : SeatFrame) (i : Instr) (code : Byte) (argc : Nat) (new : Byte) : Prop :=
  ∃ args : List Byte, args.length = argc ∧ exec i s = .next ((s.locking new).seatCommand f code args fun t =>
    (t.lockOut (new &&& ~~~s.words[0])).accept [0, s.words[0], new])

theorem State.lockOut_none (s : State) : s.lockOut 0 = s := by
  have none_ : ∀ k : ClosureId, hasMember 0 k.val = false := by decide
  have empty : ∀ state, s.newlyLocked 0 state = [] := fun state => by
    simp only [State.newlyLocked, none_, Bool.false_and, List.filter_false]
  rw [s.lockOut_eq, State.lockedWaiters, empty, empty]
  rfl

theorem State.takeWord_lock (s : State) (v : Byte) :
    s.takeWord 0 v = ((s.locking v).lockOut (v &&& ~~~s.words[0])).accept [0, s.words[0], v] := by
  have handed : (if v = s.words[0] then s.locking v else (s.locking v).wordChanged 0 s.words[0] v) =
      (s.locking v).lockOut (v &&& ~~~s.words[0]) := by
    split
    · rename_i same
      have none_ : v &&& ~~~s.words[0] = 0 := by rw [← same]; simp
      rw [none_, State.lockOut_none]
    · rfl
  exact congrArg (fun t => State.accept t [0, s.words[0], v]) handed

section
variable {s : State} {f : SeatFrame} (h : s.Awake) (member : hasMember s.seats[f.seat].record.wordMask 0 = true) (v : Byte)
include h member

/-- A command on CHILD LOCK at a part that is awake. -/
theorem State.locksBy_wordCommand {i : Instr} {code : Byte} {args : List Byte} {new : Byte} {act : State → Fin 6 → Answer}
    (ran : exec i s = .next (s.seatCommand f code args fun t => t.wordCommand f.seat 0 (act t)))
    (takes : act (s.later f.dt) 0 = (s.later f.dt).takeWord 0 new) : s.LocksBy f i code args.length new := by
  have answer : (s.later f.dt).wordCommand f.seat 0 (act (s.later f.dt)) =
      (((s.locking new).later f.dt).lockOut (new &&& ~~~s.words[0])).accept [0, s.words[0], new] :=
    (if_pos member).trans (takes.trans ((s.later f.dt).takeWord_lock new))
  refine ⟨args, rfl, ran.trans (congrArg Host.Outcome.next ?_)⟩
  rw [State.seatCommand_awake h, State.seatCommand_awake (s := s.locking new) h, answer]

theorem exec_writeWord_lock : s.LocksBy f (.writeWord f [0, v]) 0x51 2 v :=
  State.locksBy_wordCommand h member (i := .writeWord f [0, v]) (code := 0x51) (args := [0, v])
    (act := fun t w => t.takeWord w v) rfl rfl

theorem exec_setBits_lock : s.LocksBy f (.setBits f [0, v]) 0x52 2 (s.words[0] ||| v) :=
  State.locksBy_wordCommand h member (i := .setBits f [0, v]) (code := 0x52) (args := [0, v])
    (act := fun t w => t.takeWord w (t.words[w] ||| v)) rfl rfl

theorem exec_clearBits_lock : s.LocksBy f (.clearBits f [0, v]) 0x53 2 (s.words[0] &&& ~~~v) :=
  State.locksBy_wordCommand h member (i := .clearBits f [0, v]) (code := 0x53) (args := [0, v])
    (act := fun t w => t.takeWord w (t.words[w] &&& ~~~v)) rfl rfl

theorem exec_compareAndWrite_lock : s.LocksBy f (.compareAndWrite f [0, s.words[0], v]) 0x54 3 v :=
  State.locksBy_wordCommand h member (i := .compareAndWrite f [0, s.words[0], v]) (code := 0x54) (args := [0, s.words[0], v])
    (act := fun t w => if t.words[w] = s.words[0] then t.takeWord w v
    else { state := t, result := .mismatch, items := [t.words[w]] }) rfl (if_pos rfl)

end

section
variable {s u : State} {f : SeatFrame} {i : Instr} {code : Byte} {argc : Nat} {new : Byte} (h : s.Awake)
  (locks : s.LocksBy f i code argc new)
include h locks

/-- A lock that tells nobody. -/
theorem State.LocksBy.answered
    (becomes : ((s.locking new).later f.dt).lockOut (new &&& ~~~s.words[0]) = u.later f.dt) :
    exec i s = .next (u.answered f code argc .accepted [0, s.words[0], new]) := by
  obtain ⟨args, rfl, ran⟩ := locks
  refine ran.trans (congrArg Host.Outcome.next (State.seatCommand_answered (s := s.locking new) h ?_))
  rw [becomes]
  rfl

theorem State.LocksBy.answers
    (becomes : ((s.locking new).later f.dt).lockOut (new &&& ~~~s.words[0]) = u)
    (outside : ((s.locking new).later f.dt).SameOutside u) (replies : s.SameReplies u) :
    ∃ t, exec i s = .next t ∧ u.AnsweredAs t ∧ s.Answers t f code argc .accepted [0, s.words[0], new] := by
  obtain ⟨args, rfl, ran⟩ := locks
  have answer : (((s.locking new).later f.dt).lockOut (new &&& ~~~s.words[0])).accept [0, s.words[0], new] =
      { state := u, result := .accepted, items := [0, s.words[0], new] } := congrArg (State.accept · _) becomes
  obtain ⟨as, answers⟩ := State.seatCommand_answers (s := s.locking new) (code := code) (args := args)
    (body := fun t => (t.lockOut (new &&& ~~~s.words[0])).accept [0, s.words[0], new]) h answer outside replies
  exact ⟨_, ran, as, answers⟩

/-- What a lock leaves, and what it tells of the moves that it removes. -/
theorem State.LocksBy.tells (becomes : ((s.locking new).later f.dt).lockOut (new &&& ~~~s.words[0]) = u)
    (seats : u.seats = (((s.locking new).later f.dt).lockedWaiters (new &&& ~~~s.words[0])).seats)
    (elsewhere : ((s.locking new).later f.dt).SameElsewhere u) (outside : ((s.locking new).later f.dt).SameOutside u)
    {told : SeatId → List Notice}
    (hears : ∀ n, (((s.locking new).later f.dt).newlyLocked (new &&& ~~~s.words[0]) .queued).filterMap
      (((s.locking new).later f.dt).removalHeard .lockedOut none n) = told n) :
    ∃ t, exec i s = .next t ∧ t.closures = u.closures ∧ t.arbiter = u.arbiter ∧ (s.locking new).SameElsewhere t ∧
      (∀ n : SeatId,
        (s.seats[n].queue.length + (told n).length ≤ 16 → t.seats[n].queue = s.seats[n].queue ++ told n) ∧
        (told n = [] → t.seats[n].queue = s.seats[n].queue ∧ t.seats[n].line = s.seats[n].line)) ∧
      s.Answers t f code argc .accepted [0, s.words[0], new] := by
  have removed := State.lockedWaiters_removes ((s.locking new).later f.dt) (new &&& ~~~s.words[0])
  obtain ⟨t, ran, as, answers⟩ := locks.answers h becomes outside fun n => by rw [seats]; exact removed.replies n
  refine ⟨t, ran, as.closures, as.arbiter, State.sameElsewhere_trans elsewhere as.elsewhere,
    fun n => ⟨fun room => ?_, fun silent => ?_⟩, answers⟩
  · rw [as.queue, seats, removed.told n (by rw [hears]; exact room), hears]
    rfl
  · rw [as.queue, as.line, seats, removed.deaf n (by rw [hears]; exact silent)]
    exact ⟨rfl, rfl⟩

end

/-- Settles O34: the lock of one closure by what its context holds; the lock of several. -/
theorem childLockEndsLocalMoves : Obligations.ChildLockEndsLocalMoves := by
  refine ⟨fun f s k h member clear => ?_, fun f s v h member => ?_⟩
  · have locks := exec_setBits_lock h member (byteOf (2 ^ k.val))
    intro new written items
    have lock : (written.later f.dt).lockOut (new &&& ~~~s.words[0]) = _ := State.lockOut_single (written.later f.dt) clear
    refine ⟨fun m hm local_ running empty => ?_, fun m hm local_ queued => ?_, fun spared => ?_⟩
    · have runs : (written.later f.dt).closures[k].ctx.isLocal .running = true :=
        (Context.isLocal_iff _ _).mpr ⟨running, m, hm, local_⟩
      rw [if_pos runs, if_neg (Context.isLocal_other runs (by decide))] at lock
      exact locks.answered h (lock.trans (State.endMove_empty (s := written.later f.dt) k .lockedOut none empty))
    · have waits : (written.later f.dt).closures[k].ctx.isLocal .queued = true :=
        (Context.isLocal_iff _ _).mpr ⟨queued, m, hm, local_⟩
      rw [if_pos waits, if_neg (Context.isLocal_other waits (by decide))] at lock
      have removed := State.remove_removed (u := written.later f.dt) (k := k) .lockedOut none hm
      obtain ⟨t, ran, as, answers⟩ := locks.answers h lock (State.sameOutside_remove _ k .lockedOut none)
        (State.remove_replies (s := written.later f.dt) .lockedOut none hm)
      exact ⟨t, ran, as.removed removed, answers⟩
    · have still : ∀ state, state = .running ∨ state = .queued →
          ¬ (written.later f.dt).closures[k].ctx.isLocal state = true := by
        intro state busy is
        obtain ⟨rfl, m, hm, local_⟩ := (Context.isLocal_iff _ _).mp is
        obtain ⟨notRunning, notQueued⟩ := spared m hm local_
        exact busy.elim notRunning notQueued
      rw [if_neg (still _ (.inl rfl)), if_neg (still _ (.inr rfl))] at lock
      exact locks.answered h lock
  · intro old now writes
    have all : ∀ i code argc new, s.LocksBy f i code argc new → writes i code argc new := by
      intro i code argc new locks
      dsimp -zeta only [writes]
      intro added locked settled told becomes
      have picked : ∀ (k : ClosureId) (state : CtxState), (hasMember (new &&& ~~~s.words[0]) k.val &&
          ((s.locking new).later f.dt).closures[k].ctx.isLocal state) = added k state := fun k state => by
        rw [hasMember_added, Context.isLocal, ← Bool.and_assoc]
        rfl
      have mem : ∀ (k : ClosureId) (state : CtxState),
          k ∈ ((s.locking new).later f.dt).newlyLocked (new &&& ~~~s.words[0]) state ↔ added k state = true := by
        intro k state
        rw [State.mem_newlyLocked, ← Bool.and_eq_true, picked]
      have unowned : ∀ (k : ClosureId), s.closures[k].ctx.move = none → ∀ state, added k state = false := by
        intro k hm state
        simp only [added, hm, Option.map_none, reduceCtorEq, decide_false, Bool.and_false]
      have lock := State.lockSettled_closure ((s.locking new).later f.dt) (new &&& ~~~s.words[0])
      have slots := State.lockSettled_arbiter ((s.locking new).later f.dt) (new &&& ~~~s.words[0])
      obtain ⟨seats, elsewhere, outside⟩ := State.lockSettled_rest ((s.locking new).later f.dt) (new &&& ~~~s.words[0])
      have closures : (((s.locking new).later f.dt).lockSettled (new &&& ~~~s.words[0])).closures = settled.closures := by
        refine Vector.ext fun i hi => ((lock ⟨i, hi⟩).trans ?_).trans (Vector.getElem_ofFn hi).symm
        have same : ((s.locking new).later f.dt).closures = s.closures := rfl
        simp only [mem, locked, State.removedFor, same]
        cases hm : s.closures[(⟨i, hi⟩ : ClosureId)].ctx.move with
        | none => simp only [unowned _ hm, Bool.false_eq_true, if_false]
        | some m => rfl
      have arbiter : (((s.locking new).later f.dt).lockSettled (new &&& ~~~s.words[0])).arbiter = settled.arbiter := by
        refine slots.trans ?_
        simp only [mem, decide_not, Bool.decide_eq_true]
        rfl
      have hears : ∀ n, (((s.locking new).later f.dt).newlyLocked (new &&& ~~~s.words[0]) .queued).filterMap
          (((s.locking new).later f.dt).removalHeard .lockedOut none n) = told n := fun n => by
        have same : ((s.locking new).later f.dt).closures = s.closures := rfl
        rw [State.newlyLocked, List.filterMap_filter]
        refine List.filterMap_congr fun k _ => ?_
        simp only [picked]
        simp only [State.removalHeard, same]
        cases hm : s.closures[k].ctx.move with
        | none => exact ite_self none
        | some m => exact (ite_and (added k .queued = true) (s.Hears k m.seat n) _ none).symm
      refine ⟨fun alone => ?_, fun k e rest m running only queue apart hm runs slotless one clear wait => ?_⟩
      · have settles := State.lockOut_settles (s := (s.locking new).later f.dt) (added := new &&& ~~~s.words[0])
          (alone.imp (fun none_ => List.eq_nil_iff_forall_not_mem.mpr fun k hk =>
            Bool.eq_false_iff.mp (none_ k) ((mem k _).mp hk)) (congrArg Arbiter.queue arbiter).trans)
        obtain ⟨t, ran, sameClosures, sameArbiter, rest⟩ := locks.tells h settles seats elsewhere outside hears
        exact ⟨t, ran, sameClosures.trans closures, sameArbiter.trans arbiter, rest⟩
      · have alone := State.newlyLocked_eq_singleton ((mem k .running).mpr running) fun j hj => only j ((mem j .running).mp hj)
        have grants := State.lockOut_grants (s := (s.locking new).later f.dt) alone
          ((congrArg Arbiter.queue arbiter).trans queue) apart hm runs slotless (arbiter ▸ one) clear wait
        obtain ⟨grantedClosures, grantedArbiter⟩ := State.granted_congr (j := e.closure) (m := m) (now := now) closures
          arbiter outside.front
        obtain ⟨t, ran, sameClosures, sameArbiter, rest⟩ := locks.tells h grants seats elsewhere
          (outside.trans (by constructor <;> rfl)) hears
        exact ⟨t, ran, sameClosures.trans grantedClosures, sameArbiter.trans grantedArbiter, rest⟩
    exact ⟨all _ _ _ _ (exec_writeWord_lock h member v), all _ _ _ _ (exec_setBits_lock h member v),
      all _ _ _ _ (exec_clearBits_lock h member v), all _ _ _ _ (exec_compareAndWrite_lock h member v)⟩

end Sys2Proof.Machine
end

section
/-! PROOFS. GLOBAL as its bytes spell it, its refusals, and one closure of it (R96). -/
namespace Sys2Proof.Machine

/-- The request of a GLOBAL command at each closure (R96). -/
def globalAsk (n : SeatId) (d : Direction) (o : Origin) : Move :=
  { seat := n, kind := .global, direction := d, origin := o, target := none }

/-- The closures that a mask names, in ascending order. -/
def askedOf (mask : Byte) : List ClosureId := allClosures.filter fun k => hasMember mask k.val

theorem askedOf_single (k : ClosureId) : askedOf (byteOf (2 ^ k.val)) = [k] := by
  revert k
  decide

/-- The answer to a GLOBAL command once every closure has had its turn. -/
def GlobalRun.answer (x : GlobalRun) : Answer := x.state.accept [byteOf x.taken, byteOf (x.first.getD .accepted).code]

/-- The turns of a GLOBAL command. -/
def State.globalRun (s : State) (ask : Move) (asked : List ClosureId) : GlobalRun :=
  asked.foldl (GlobalRun.take ask asked) { state := s }

section
variable {s : State} {f : SeatFrame} {d : Direction} {o : Origin} {mask : Byte}

theorem exec_global_refused (h : s.Awake) {r : Result} {mask direction origin : Byte}
    (refused : (s.later f.dt).answerGlobal f.seat [mask, direction, origin] = (s.later f.dt).refuse r) :
    exec (.global f [mask, direction, origin]) s = .next (s.answered f 0x13 3 r []) :=
  congrArg Host.Outcome.next (State.seatCommand_refused h refused)

theorem State.answerGlobal_uncoded (t : State) (n : SeatId) {mask direction origin : Byte}
    (bad : 1 < direction.toNat ∨ 4 < origin.toNat) :
    t.answerGlobal n [mask, direction, origin] = t.refuse .badArgument := by
  unfold State.answerGlobal
  rcases bad with bad | bad
  · simp only [directionOf_of_lt bad]
  · simp only [originOf_of_lt bad]
    cases directionOf direction <;> rfl

theorem State.answerGlobal_eq (t : State) (n : SeatId) : t.answerGlobal n [mask, byteOf d.code, byteOf o.code] =
    if mask = 0 then t.refuse .badArgument
    else if hasMember t.seats[n].record.rights 0 then (t.globalRun (globalAsk n d o) (askedOf mask)).answer
    else t.refuse .notPermitted := by
  unfold State.answerGlobal
  simp only [directionOf_code, originOf_code]
  rfl

section
variable (right : hasMember s.seats[f.seat].record.rights 0 = true) (some_ : mask ≠ 0)
include right some_

theorem State.answerGlobal_runs : (s.later f.dt).answerGlobal f.seat [mask, byteOf d.code, byteOf o.code] =
    ((s.later f.dt).globalRun (globalAsk f.seat d o) (askedOf mask)).answer := by
  rw [State.answerGlobal_eq, if_neg some_]
  exact if_pos right

variable (h : s.Awake)
include h

/-- A GLOBAL command that tells nobody. -/
theorem exec_global_run {u : State} {x : GlobalRun}
    (run : (s.later f.dt).globalRun (globalAsk f.seat d o) (askedOf mask) = x) (state : x.state = u.later f.dt) :
    exec (.global f [mask, byteOf d.code, byteOf o.code]) s = .next (u.answered f 0x13 3 .accepted
      [byteOf x.taken, byteOf (x.first.getD .accepted).code]) := by
  refine congrArg Host.Outcome.next (State.seatCommand_answered h ((State.answerGlobal_runs right some_).trans ?_))
  rw [run, GlobalRun.answer, state]
  rfl

/-- A GLOBAL command that tells of its effect. -/
theorem exec_global_answers {x : GlobalRun}
    (run : (s.later f.dt).globalRun (globalAsk f.seat d o) (askedOf mask) = x)
    (outside : (s.later f.dt).SameOutside x.state) (replies : s.SameReplies x.state) :
    ∃ t, exec (.global f [mask, byteOf d.code, byteOf o.code]) s = .next t ∧ x.state.AnsweredAs t ∧
      s.Answers t f 0x13 3 .accepted [byteOf x.taken, byteOf (x.first.getD .accepted).code] :=
  ⟨_, rfl, State.seatCommand_answers h ((State.answerGlobal_runs right some_).trans (congrArg GlobalRun.answer run))
    outside replies⟩

end
end

/-! One turn. -/

section
variable {s t : State} {k : ClosureId} {ask : Move} {asked : List ClosureId} {x : GlobalRun}

theorem Description.clampTarget_none (d : Description) (none_ : ask.target = none) : d.clampTarget ask = ask :=
  Description.clampTarget_within fun _ hp => nomatch none_.symm.trans hp

/-- A closure that is refused by a check keeps its state, and the first such refusal is kept (R96). -/
theorem GlobalRun.take_refused (none_ : ask.target = none) {r : Result} (fails : x.state.moveRefusal k ask = some r) :
    x.take ask asked k = { x with first := some (x.first.getD r) } := by
  have still : x.state.releasesSlot k ask = false := by
    rw [State.releasesSlot, fails]
    rfl
  have refused : x.state.submit k ask = .refused r :=
    State.submit_refused (by rw [Description.clampTarget_none _ none_]; exact fails)
  simp only [GlobalRun.take, still, Bool.false_eq_true, if_false, refused]

/-- A closure that passes its checks and releases no slot is taken as by a MOVE (R96). -/
theorem GlobalRun.take_passes (none_ : ask.target = none) (passes : x.state.moveRefusal k ask = none)
    (keeps : x.state.closures[k].ctx.meet ask ≠ .supersedeRunning) {target : Option Int} {way : Way}
    (taken : x.state.takeMove k ask = .taken t target way) :
    x.take ask asked k = { x with state := t, taken := x.taken + 2 ^ k.val } := by
  have still : x.state.releasesSlot k ask = false := by
    rw [State.releasesSlot, decide_eq_false keeps, Bool.and_false]
  have submits : x.state.submit k ask = .taken t target way :=
    (State.submit_passes (by rw [Description.clampTarget_none _ none_]; exact passes)).trans
      ((congrArg (x.state.takeMove k) (Description.clampTarget_none _ none_)).trans taken)
  simp only [GlobalRun.take, still, Bool.false_eq_true, if_false, submits]

/-- A closure that passes its checks and releases its slot is taken once the way is cleared (R96, R111; log entry 14). -/
theorem GlobalRun.take_releases (none_ : ask.target = none) (passes : x.state.moveRefusal k ask = none)
    (releases : x.state.closures[k].ctx.meet ask = .supersedeRunning) {target : Option Int} {way : Way}
    (taken : (x.state.clearQueue ask (asked.filter (k < ·))).takeMove k ask = .taken t target way) :
    x.take ask asked k = { x with state := t, taken := x.taken + 2 ^ k.val } := by
  have gives : x.state.releasesSlot k ask = true := by
    rw [State.releasesSlot, passes, decide_eq_true releases]
    rfl
  have clear : (x.state.clearQueue ask (asked.filter (k < ·))).moveRefusal k ask = none := by
    rw [State.clearQueue_eq]
    exact passes
  have submits : (x.state.clearQueue ask (asked.filter (k < ·))).submit k ask = .taken t target way :=
    (State.submit_passes (by rw [Description.clampTarget_none _ none_]; exact clear)).trans
      ((congrArg (State.takeMove _ k) (Description.clampTarget_none _ none_)).trans taken)
  simp only [GlobalRun.take, gives, if_true, submits]

/-- What a GLOBAL command of one closure makes of its request (R96). -/
def Submitted.alone (s : State) (k : ClosureId) : Submitted → GlobalRun
  | .refused r => { state := s, first := some r }
  | .taken t _ _ => { state := t, taken := 2 ^ k.val }

/-- A GLOBAL command of one closure is the request there (R96). -/
theorem State.globalRun_single (s : State) (k : ClosureId) (ask : Move) :
    s.globalRun ask [k] = (s.submit k ask).alone s k := by
  have nothing : [k].filter (k < ·) = [] := by simp
  have clear : s.clearQueue ask [] = s := rfl
  rw [State.globalRun, List.foldl_cons, List.foldl_nil]
  cases submits : s.submit k ask <;>
    simp only [GlobalRun.take, nothing, clear, ite_self, submits, Submitted.alone, Option.getD_none, Nat.zero_add]

end

/-! Requests leave the pending replies alone. -/

section
variable (s : State) (k : ClosureId) (m : Move)

theorem State.remove_sameReplies (r : EndReason) (w : Option SeatId) : s.SameReplies (s.remove k r w) := by
  cases hm : s.closures[k].ctx.move with
  | none =>
    rw [State.remove_unowned hm]
    exact fun _ => rfl
  | some m => exact State.remove_replies r w hm

theorem State.grantTest_seats : s.grantTest.seats = s.seats := by rw [State.grantTest, State.grantLoop_seats]

theorem State.endMove_seats (r : EndReason) (w : Option SeatId) : (s.endMove k r w).seats = s.seats :=
  (s.settle k r w).grantTest_seats

theorem State.storeFollowOn_replies : s.SameReplies (s.storeFollowOn k m) := by
  cases follows : s.closures[k].ctx.followOn with
  | none =>
    rw [State.storeFollowOn_alone follows]
    exact fun _ => rfl
  | some g => exact (State.storeFollowOn_drops follows).2.2.2.2

theorem State.replaceInQueue_seats : (s.replaceInQueue k).seats = s.seats := by
  unfold State.replaceInQueue
  split <;> rfl

theorem State.sameReplies_of_seats {s t : State} (same : t.seats = s.seats) : s.SameReplies t := fun n => by rw [same]

theorem State.SameReplies.trans {s t u : State} (h : s.SameReplies t) (g : t.SameReplies u) : s.SameReplies u :=
  fun n => (g n).trans (h n)

/-- A request leaves the pending replies alone, whatever it meets. -/
theorem State.takeMove_replies {t : State} {target : Option Int} {way : Way} (taken : s.takeMove k m = .taken t target way) :
    s.SameReplies t := by
  have replaced := State.sameReplies_of_seats
    ((s.modCtx k (Context.replace s.now s.seats[m.seat].record.holdUnits m)).replaceInQueue_seats k)
  cases meets : s.closures[k].ctx.meet m <;> simp only [State.takeMove, meets, reduceCtorEq, Submitted.taken.injEq] at taken
  case enqueue =>
    rw [← taken.1]
    exact State.sameReplies_of_seats (State.grantTest_seats _)
  case replaceQueued =>
    rw [← taken.1, State.replaceQueued]
    split
    · exact State.SameReplies.trans replaced (State.remove_sameReplies _ k _ _)
    · exact replaced
  case supersedeQueued =>
    rw [← taken.1]
    exact State.SameReplies.trans (s.remove_sameReplies k _ _) (State.sameReplies_of_seats (State.grantTest_seats _))
  case replaceRunning =>
    rw [State.replaceRunning_eq] at taken
    rw [← (Submitted.taken.inj taken).1]
    split
    · exact State.sameReplies_of_seats (State.endMove_seats _ k _ _)
    · exact fun _ => rfl
  case supersedeRunning =>
    rw [← taken.1]
    exact State.SameReplies.trans (State.sameReplies_of_seats (s.endMove_seats k _ _)) (State.storeFollowOn_replies _ k m)
  case store =>
    rw [← taken.1]
    exact s.storeFollowOn_replies k m

end

end Sys2Proof.Machine
end

section
/-! PROOFS. GLOBAL with a mask of one closure (R96). -/
namespace Sys2Proof.Machine

section
variable {s : State} {k : ClosureId} {m : Move}

/-- No check and no contention refuses with ACCEPTED (R86). -/
theorem State.moveRefusal_ne_accepted : s.moveRefusal k m ≠ some .accepted := by
  rw [State.moveRefusal_eq]
  intro refused
  obtain ⟨x, found, accepted⟩ := Option.map_eq_some_iff.mp refused
  have mem := List.mem_of_find?_eq_some found
  simp only [State.moveChecks, List.mem_cons, List.not_mem_nil, or_false] at mem
  rcases mem with rfl | rfl | rfl | rfl | rfl | rfl | rfl | rfl | rfl <;> exact Result.noConfusion accepted

theorem Context.meet_ne_accepted (x : Context) : x.meet m ≠ .refused .accepted := by
  unfold Context.meet
  repeat' split
  all_goals exact fun h => by cases h

theorem State.submit_ne_accepted {r : Result} (refused : s.submit k m = .refused r) : r ≠ .accepted := by
  rintro rfl
  unfold State.submit at refused
  dsimp only at refused
  split at refused
  · rename_i r fails
    exact State.moveRefusal_ne_accepted (fails.trans (congrArg some (Submitted.refused.inj refused)))
  · cases meets : s.closures[k].ctx.meet (s.closures[k].desc.clampTarget m) <;>
      simp only [State.takeMove, meets, reduceCtorEq, Submitted.refused.injEq] at refused
    · exact Context.meet_ne_accepted _ (refused ▸ meets)
    · rw [State.replaceRunning_eq] at refused
      exact Submitted.noConfusion refused

theorem State.submit_replies {t : State} {target : Option Int} {way : Way} (taken : s.submit k m = .taken t target way) :
    s.SameReplies t := by
  unfold State.submit at taken
  dsimp only at taken
  split at taken
  · exact Submitted.noConfusion taken
  · exact State.takeMove_replies s k _ taken

end

/-- The pending reply of a seat, put in the place of the one that another command left there. -/
theorem State.replaceReply (t : State) (n : SeatId) (receiver : Receiver) (code code' : Byte) (r r' : Result)
    (items items' : List Byte) (acks acks' : List Bool) :
    let u := (t.placeReply n code r items).frameSeen receiver acks
    (t.placeReply n code' r' items').frameSeen receiver acks' = { u with
      link := { u.link with lastAcks := acks' }
      seats := u.seats.set n { u.seats[n] with
        reply := some { result := r', command := code', overwritten := t.seats[n].reply.isSome, items := items' } } } := by
  intro u
  have self : u.seats[n] = t.seats[n].replied code r items := (t.placeReply_seat n code r items n).trans (if_pos rfl)
  have seats : u.seats.set n { u.seats[n] with
      reply := some { result := r', command := code', overwritten := t.seats[n].reply.isSome, items := items' } } =
      t.seats.set n (t.seats[n].replied code' r' items') := by
    rw [self]
    exact Vector.set_set ..
  rw [seats]
  rfl

theorem byteOf_single_ne_zero (k : ClosureId) : byteOf (2 ^ k.val) ≠ 0 := by
  revert k
  decide

/-- A mask of one closure does what a MOVE of kind GLOBAL does there, with a reply of its own (R96). -/
theorem exec_global_single {f : SeatFrame} {s u : State} {k : ClosureId} {d : Direction} {o : Origin} {r : Reply}
    (h : s.Awake) (right : hasMember s.seats[f.seat].record.rights 0 = true)
    (moved : exec (.move f (moveArgs k (globalAsk f.seat d o))) s = .next u) (reply : u.seats[f.seat].reply = some r) :
    let items : List Byte :=
      if r.result = .accepted then [byteOf (2 ^ k.val), byteOf Result.accepted.code] else [0, byteOf r.result.code]
    exec (.global f [byteOf (2 ^ k.val), byteOf d.code, byteOf o.code]) s = .next { u with
      link := { u.link with lastAcks := List.replicate 7 true }
      seats := u.seats.set f.seat { u.seats[f.seat] with
        reply := some
          { result := .accepted, command := 0x13, overwritten := s.seats[f.seat].reply.isSome, items := items } } } := by
  intro items
  obtain ⟨run, answer⟩ := exec_move (s := s) (f := f) (k := k) (m := globalAsk f.seat d o) rfl nofun
  have runs := State.answerGlobal_runs (d := d) (o := o) right (byteOf_single_ne_zero k)
  rw [askedOf_single, State.globalRun_single] at runs
  obtain rfl : s.seatCommand f 0x10 (moveArgs k (globalAsk f.seat d o)) _ = u := Host.Outcome.next.inj (run.symm.trans moved)
  refine congrArg Host.Outcome.next ((State.seatCommand_awake h).trans ?_)
  have left := State.seatCommand_awake (f := f) (code := 0x10) (args := moveArgs k (globalAsk f.seat d o))
    (body := fun t => t.answerMove f.seat (moveArgs k (globalAsk f.seat d o))) h
  rw [left, answer] at reply ⊢
  rw [runs]
  have placed : ∀ (t : State) (r' : Result) (its : List Byte) (receiver : Receiver) (acks : List Bool),
      ((t.placeReply f.seat 0x10 r' its).frameSeen receiver acks).seats[f.seat].reply = some r → r.result = r' := by
    intro t r' its receiver acks is
    have self : ((t.placeReply f.seat 0x10 r' its).frameSeen receiver acks).seats[f.seat] =
        t.seats[f.seat].replied 0x10 r' its := (t.placeReply_seat f.seat 0x10 r' its f.seat).trans (if_pos rfl)
    rw [self] at is
    rw [← Option.some.inj is]
  cases submits : (s.later f.dt).submit k (globalAsk f.seat d o) with
  | refused r' =>
    rw [submits] at reply
    have result : r.result = r' := placed _ _ _ _ _ reply
    have refused := State.submit_ne_accepted submits
    have its : items = [0, byteOf r'.code] := by rw [← result]; exact if_neg (result ▸ refused)
    rw [its]
    exact State.replaceReply (s.later f.dt) ..
  | taken t target way =>
    rw [submits] at reply
    have result : r.result = .accepted := placed _ _ _ _ _ reply
    have its : items = [byteOf (2 ^ k.val), byteOf Result.accepted.code] := if_pos result
    have replies : t.seats[f.seat].reply = s.seats[f.seat].reply := State.submit_replies submits f.seat
    rw [its, ← replies]
    exact State.replaceReply t ..

end Sys2Proof.Machine
end

section
/-! PROOFS. GLOBAL at IDLE contexts, granted as slots allow or queued (R88, R96, R110, R111). -/
namespace Sys2Proof.Machine

section
variable {s t : State} {k : ClosureId} {ask : Move} {asked : List ClosureId}

/-- An arrival with the grant test that follows it (R88, R111). -/
def State.arrives (m : Move) (s : State) (k : ClosureId) : State := (s.enqueue k m).grantTest

theorem State.turned_arrives (s : State) (k : ClosureId) (m : Move) : s.Turned k (s.arrives m k) :=
  (s.turned_enqueue k m).trans (State.turned_grantTest _ k)

theorem Context.meet_idle {x : Context} (idle : x.state = .idle) : x.meet ask = .enqueue := by
  simp only [Context.meet, idle]

/-- The closures that a GLOBAL command takes. -/
def State.takenOf (s : State) (ask : Move) (l : List ClosureId) : List ClosureId :=
  l.filter fun k => (s.moveRefusal k ask).isNone

/-- The turns of a GLOBAL command at closures that are not in the slot queue, those that pass their checks IDLE: each of
these arrives, in order, and the first refusal is kept (R96). -/
theorem GlobalRun.takes_idle (none_ : ask.target = none) (l : List ClosureId) (once : l.Nodup) (x : GlobalRun)
    (away : ∀ k ∈ l, k ∉ x.state.queued) (idle : ∀ k ∈ x.state.takenOf ask l, x.state.closures[k].ctx.state = .idle) :
    l.foldl (GlobalRun.take ask asked) x =
      { state := (x.state.takenOf ask l).foldl (State.arrives ask) x.state
        taken := x.taken + ((x.state.takenOf ask l).map fun k : ClosureId => 2 ^ k.val).sum
        first := x.first.or (l.findSome? fun k => x.state.moveRefusal k ask) } := by
  induction l generalizing x with
  | nil => simp [State.takenOf]
  | cons k l ih =>
    obtain ⟨fresh, once⟩ := List.nodup_cons.mp once
    rw [List.foldl_cons]
    cases refusal : x.state.moveRefusal k ask with
    | some r =>
      have taken : x.state.takenOf ask (k :: l) = x.state.takenOf ask l := by simp [State.takenOf, refusal]
      rw [GlobalRun.take_refused none_ refusal]
      refine (ih once { x with first := some (x.first.getD r) } (fun j hj => away j (List.mem_cons_of_mem _ hj))
        fun j hj => idle j (taken ▸ hj)).trans ?_
      rw [taken, List.findSome?_cons, refusal]
      cases x.first <;> rfl
    | none =>
      have taken : x.state.takenOf ask (k :: l) = k :: x.state.takenOf ask l := by simp [State.takenOf, refusal]
      have rests := idle k (taken ▸ List.mem_cons_self)
      have turned := x.state.turned_arrives k ask
      have aside : ∀ j ∈ l, (x.state.arrives ask k).closures[j] = x.state.closures[j] ∧ j ∉ (x.state.arrives ask k).queued :=
        fun j hj => turned.aside j (fun same => fresh (same ▸ hj)) (away j (List.mem_cons_of_mem _ hj))
      have refusals : ∀ j ∈ l, (x.state.arrives ask k).moveRefusal j ask = x.state.moveRefusal j ask := fun j hj =>
        State.moveRefusal_congr turned.outside turned.record (aside j hj).1 ask
      have later : (x.state.arrives ask k).takenOf ask l = x.state.takenOf ask l :=
        List.filter_congr fun j hj => by rw [refusals j hj]
      have meets : x.state.closures[k].ctx.meet ask ≠ .supersedeRunning := by
        rw [Context.meet_idle rests]
        exact Meeting.noConfusion
      have found : (l.findSome? fun j => (x.state.arrives ask k).moveRefusal j ask) =
          l.findSome? fun j => x.state.moveRefusal j ask := by
        rw [← List.head?_filterMap, ← List.head?_filterMap, List.filterMap_congr refusals]
      rw [GlobalRun.take_passes none_ refusal meets (State.takeMove_idle rests)]
      refine (ih once { x with state := x.state.arrives ask k, taken := x.taken + 2 ^ k.val } (fun j hj => (aside j hj).2)
        fun j hj => ?_).trans ?_
      · have mem := later ▸ hj
        rw [(aside j (List.mem_filter.mp mem).1).1]
        exact idle j (taken ▸ List.mem_cons_of_mem _ mem)
      · rw [later, found, taken, List.findSome?_cons, refusal, List.map_cons, List.sum_cons, List.foldl_cons, Nat.add_assoc]

end

/-! Arrivals granted, with slots free for all of them. -/

section
variable (s : State) (m : Move)

/-- An IDLE closure that has arrived with a GLOBAL move. -/
def State.globalArrival (k : ClosureId) : ClosureState := { s.closures[k] with ctx := Context.arrived m s.now 0 }

/-- A GLOBAL move keeps no hold deadline, whatever the hold window (R88). -/
theorem Context.arrived_global {m : Move} (kind : m.kind = .global) (now window : Nat) :
    Context.arrived m now window = Context.arrived m now 0 := by
  simp only [Context.arrived, kind, reduceCtorEq, or_self, if_false]

theorem State.arrived_global {m : Move} (kind : m.kind = .global) (k : ClosureId) :
    s.arrived s.closures[k] m = s.globalArrival m k := by
  rw [State.arrived, State.globalArrival, Context.arrived_global kind]

/-- Closures granted at their arrivals. -/
def State.grantedAll (ts : List ClosureId) : State :=
  { s with
    closures := Vector.ofFn fun k : ClosureId =>
      if k ∈ ts then ((s.globalArrival m k).grantedAt m s.now s.front.reading).drivenAt s.now m.direction else s.closures[k]
    arbiter := { s.arbiter with
      held := Vector.ofFn fun k : ClosureId => s.arbiter.held[k] || decide (k ∈ ts)
      lastArrival := if ts = [] then s.arbiter.lastArrival else 1 } }

theorem State.grantedAll_nil : s.grantedAll m [] = s := by
  simp [State.grantedAll]

/-- One closure granted at its arrival. -/
def State.grantedNow (k : ClosureId) : State :=
  { s.withClosure k (((s.globalArrival m k).grantedAt m s.now s.front.reading).drivenAt s.now m.direction) with
    arbiter := { s.arbiter with held := s.arbiter.held.set k true, lastArrival := 1 } }

theorem State.arrives_grants {m : Move} (kind : m.kind = .global) (none_ : m.target = none) (empty : s.arbiter.queue = [])
    (free : s.SlotFree) (k : ClosureId) : s.arrives m k = s.grantedNow m k := by
  have runs : m.Runs := ⟨.inr (.inr kind), none_⟩
  have grants := State.enqueue_grants (k := k) (m := m) empty free
  rw [s.arrived_global kind, runs.not_reached] at grants
  exact grants

theorem State.grantedNow_closure (k j : ClosureId) : (s.grantedNow m k).closures[j] =
    if j = k then ((s.globalArrival m k).grantedAt m s.now s.front.reading).drivenAt s.now m.direction
    else s.closures[j] := by
  split
  · subst j
    exact s.withClosure_self k _
  · exact s.withClosure_other _ ‹_›

theorem State.grantedNow_held (k j : ClosureId) :
    (s.grantedNow m k).arbiter.held[j] = (s.arbiter.held[j] || decide (j = k)) := by
  by_cases same : j = k
  · simp [State.grantedNow, same]
  · have apart : (k : Nat) ≠ j := fun e => same (Fin.ext e.symm)
    simp [State.grantedNow, same, apart]

theorem State.grantedAll_cons {k : ClosureId} {ts : List ClosureId} (fresh : k ∉ ts) :
    (s.grantedNow m k).grantedAll m ts = s.grantedAll m (k :: ts) := by
  have closures : ((s.grantedNow m k).grantedAll m ts).closures = (s.grantedAll m (k :: ts)).closures := by
    refine congrArg Vector.ofFn (funext fun j => ?_)
    rw [State.globalArrival, State.grantedNow_closure]
    by_cases same : j = k
    · subst same
      rw [if_neg fresh, if_pos rfl, if_pos List.mem_cons_self]
    · simp only [same, if_false, List.mem_cons, false_or]
      rfl
  have held : ((s.grantedNow m k).grantedAll m ts).arbiter.held = (s.grantedAll m (k :: ts)).arbiter.held := by
    refine congrArg Vector.ofFn (funext fun j => ?_)
    rw [State.grantedNow_held]
    simp only [List.mem_cons, Bool.decide_or, Bool.or_assoc]
  have last : ((s.grantedNow m k).grantedAll m ts).arbiter.lastArrival = (s.grantedAll m (k :: ts)).arbiter.lastArrival :=
    ite_self _
  have parts := congr (congrArg₂ (fun c h n => { s with
    closures := c, arbiter := { s.arbiter with held := h, lastArrival := n } })
    closures held) last
  exact parts

theorem State.arrives_grantedAll {m : Move} (kind : m.kind = .global) (none_ : m.target = none) (ts : List ClosureId)
    (once : ts.Nodup) (empty : s.arbiter.queue = []) (room : s.arbiter.heldCount + ts.length ≤ s.arbiter.effective)
    (clear : s.arbiter.unparkPending = false) (wait : s.arbiter.unparkWait = .none)
    (slotless : ∀ k ∈ ts, s.arbiter.held[k] = false) : ts.foldl (State.arrives m) s = s.grantedAll m ts := by
  induction ts generalizing s with
  | nil => exact (s.grantedAll_nil m).symm
  | cons k ts ih =>
    obtain ⟨fresh, once⟩ := List.nodup_cons.mp once
    rw [List.length_cons] at room
    have count : (s.grantedNow m k).arbiter.heldCount = s.arbiter.heldCount + 1 :=
      Arbiter.heldCount_take (slotless k List.mem_cons_self) rfl
    have room' : (s.grantedNow m k).arbiter.heldCount + ts.length ≤ (s.grantedNow m k).arbiter.effective := by
      rw [count]
      exact Nat.le_trans (by omega) room
    rw [List.foldl_cons, s.arrives_grants kind none_ empty ⟨by omega, clear, wait⟩,
      ih (s.grantedNow m k) once empty room' clear wait fun j hj => ?_, s.grantedAll_cons m fresh]
    rw [State.grantedNow_held, slotless j (List.mem_cons_of_mem _ hj),
      decide_eq_false fun same : j = k => fresh (same ▸ hj)]
    rfl

end

/-! Arrivals that wait, with no slot free. -/

section
variable (s : State) (m : Move)

/-- The slot queue of closures of one class in the order of their arrivals (R110). -/
def queueOf (ts : List ClosureId) : List QueueEntry :=
  ts.zipIdx.map fun x : ClosureId × Nat => { closure := x.1, arrival := x.2 + 1 }

/-- Closures that wait in the order of their arrivals. -/
def State.waitingAll (ts : List ClosureId) : State :=
  { s with
    closures := Vector.ofFn fun k : ClosureId => if k ∈ ts then s.globalArrival m k else s.closures[k]
    arbiter := { s.arbiter with
      queue := queueOf ts
      lastArrival := if ts = [] then s.arbiter.lastArrival else ts.length } }

theorem State.waitingAll_nil (empty : s.arbiter.queue = []) : s.waitingAll m [] = s := by
  simp [State.waitingAll, queueOf, ← empty]

theorem State.waitingAll_closure (ts : List ClosureId) (j : ClosureId) :
    (s.waitingAll m ts).closures[j] = if j ∈ ts then s.globalArrival m j else s.closures[j] := by
  simp only [State.waitingAll, Fin.getElem_fin, Vector.getElem_ofFn]

/-- An entry that none in the queue comes behind goes to its end (R110). -/
theorem State.insertEntry_last {e : QueueEntry} {q : List QueueEntry}
    (ahead : ∀ x ∈ q, s.classOf x.closure = s.classOf e.closure ∧ x.arrival ≤ e.arrival) : s.insertEntry e q = q ++ [e] := by
  induction q with
  | nil => rfl
  | cons x q ih =>
    obtain ⟨class_, number⟩ := ahead x List.mem_cons_self
    have behind : ¬ (s.classOf e.closure < s.classOf x.closure ∨
        (s.classOf e.closure = s.classOf x.closure ∧ e.arrival < x.arrival)) := by
      rw [class_]
      omega
    rw [State.insertEntry, if_neg behind, ih fun y hy => ahead y (List.mem_cons_of_mem x hy)]
    rfl

theorem State.arrives_waits {m : Move} (kind : m.kind = .global) (ts : List ClosureId) {k : ClosureId} (fresh : k ∉ ts)
    (full : s.arbiter.effective ≤ s.arbiter.heldCount) :
    (s.waitingAll m ts).arrives m k = s.waitingAll m (ts ++ [k]) := by
  have present : (s.waitingAll m ts).closures[k] = s.closures[k] := by
    rw [State.waitingAll_closure, if_neg fresh]
  have arrival : (s.waitingAll m ts).globalArrival m k = s.globalArrival m k := by
    rw [State.globalArrival, present]
    rfl
  have number : (s.waitingAll m ts).arbiter.nextNumber = ts.length + 1 := by
    cases ts with
    | nil => rfl
    | cons j ts => rfl
  have closures : (s.waitingAll m ts).closures.set k (s.globalArrival m k) = (s.waitingAll m (ts ++ [k])).closures := by
    refine Vector.ext fun i hi => ?_
    have other := s.waitingAll_closure m (ts ++ [k]) ⟨i, hi⟩
    by_cases same : (⟨i, hi⟩ : ClosureId) = k
    · subst same
      rw [if_pos (List.mem_append_right _ List.mem_cons_self)] at other
      exact ((s.waitingAll m ts).withClosure_self _ _).trans other.symm
    · have before := (s.waitingAll_closure m ts ⟨i, hi⟩)
      simp only [List.mem_append, List.mem_singleton, same, or_false] at other
      exact ((s.waitingAll m ts).withClosure_other _ same).trans (before.trans other.symm)
  have place : ((s.waitingAll m ts).withClosure k (s.globalArrival m k)).insertEntry
      { closure := k, arrival := ts.length + 1 } (queueOf ts) = queueOf (ts ++ [k]) := by
    rw [State.insertEntry_last _ fun x hx => ?_]
    · simp [queueOf, List.zipIdx_append]
    · obtain ⟨⟨j, n⟩, mem, rfl⟩ := List.mem_map.mp hx
      have waits : j ∈ ts := List.fst_mem_of_mem_zipIdx mem
      have apart : j ≠ k := fun same => fresh (same ▸ waits)
      have below : n < ts.length := List.snd_lt_of_mem_zipIdx mem
      refine ⟨?_, Nat.succ_le_succ below.le⟩
      have class_ : ∀ i : ClosureId,
          ((s.waitingAll m ts).withClosure k (s.globalArrival m k)).closures[i].ctx.move = some m →
          ((s.waitingAll m ts).withClosure k (s.globalArrival m k)).classOf i = m.kind.grantClass := fun i hm => by
        simp only [State.classOf, hm]
      rw [class_ j, class_ k]
      · rw [State.withClosure_self]
        rfl
      · rw [State.withClosure_other _ _ apart, State.waitingAll_closure, if_pos waits]
        rfl
  have last : ts.length + 1 = (s.waitingAll m (ts ++ [k])).arbiter.lastArrival := by
    simp [State.waitingAll]
  have waits := State.enqueue_waits (s := s.waitingAll m ts) (k := k) (m := m) full
  rw [State.arrived_global _ kind, arrival, number] at waits
  have parts := congr (congrArg₂ (fun c q n => { s with
    closures := c, arbiter := { s.arbiter with queue := q, lastArrival := n } }) closures place) last
  refine waits.trans (Eq.trans ?_ parts)
  rw [State.waiting, State.arrived_global _ kind, arrival]
  rfl

theorem State.arrives_waitingAll {m : Move} (kind : m.kind = .global) (ts : List ClosureId) (once : ts.Nodup)
    (empty : s.arbiter.queue = []) (full : s.arbiter.effective ≤ s.arbiter.heldCount) :
    ts.foldl (State.arrives m) s = s.waitingAll m ts := by
  induction ts using List.reverseRecOn with
  | nil => exact (s.waitingAll_nil m empty).symm
  | append_singleton ts k ih =>
    obtain ⟨once, -, apart⟩ := List.nodup_append.mp once
    rw [List.foldl_append, ih once]
    exact s.arrives_waits kind ts (fun mem => apart k mem k List.mem_cons_self rfl) full

end

end Sys2Proof.Machine
end

section
/-! PROOFS. GLOBAL with a mask of any closures, those not refused IDLE, and nothing waiting (R96, R110, R111). -/
namespace Sys2Proof.Machine

section
variable (s : State) {m : Move}

theorem State.grantedAll_heldCount (m : Move) (ts : List ClosureId) (once : ts.Nodup)
    (slotless : ∀ k ∈ ts, s.arbiter.held[k] = false) :
    (s.grantedAll m ts).arbiter.heldCount = s.arbiter.heldCount + ts.length := by
  induction ts generalizing s with
  | nil => rw [s.grantedAll_nil]; rfl
  | cons k ts ih =>
    obtain ⟨fresh, once⟩ := List.nodup_cons.mp once
    have count : (s.grantedNow m k).arbiter.heldCount = s.arbiter.heldCount + 1 :=
      Arbiter.heldCount_take (slotless k List.mem_cons_self) rfl
    rw [← s.grantedAll_cons m fresh, ih (s.grantedNow m k) once fun j hj => ?_, count, List.length_cons, Nat.add_assoc,
      Nat.add_comm 1]
    rw [State.grantedNow_held, slotless j (List.mem_cons_of_mem _ hj), decide_eq_false fun same : j = k => fresh (same ▸ hj)]
    rfl

/-- Closures taken with nothing waiting: the first are granted as slots allow, and the others wait (R111). -/
theorem State.arrives_all (kind : m.kind = .global) (none_ : m.target = none) (ts : List ClosureId) (once : ts.Nodup)
    (empty : s.arbiter.queue = []) (free : s.SlotFree) (slotless : ∀ k ∈ ts, s.arbiter.held[k] = false) :
    ts.foldl (State.arrives m) s = (s.grantedAll m (ts.take (s.arbiter.effective - s.arbiter.heldCount))).waitingAll m
      (ts.drop (s.arbiter.effective - s.arbiter.heldCount)) := by
  obtain ⟨room, clear, wait⟩ := free
  generalize slots : s.arbiter.effective - s.arbiter.heldCount = n
  have parts : ts.take n ++ ts.drop n = ts := List.take_append_drop n ts
  have granted := s.arrives_grantedAll kind none_ (ts.take n) (once.sublist (List.take_sublist n ts)) empty
    (by rw [List.length_take]; omega) clear wait fun k hk => slotless k (List.mem_of_mem_take hk)
  have count := s.grantedAll_heldCount m (ts.take n) (once.sublist (List.take_sublist n ts)) fun k hk =>
    slotless k (List.mem_of_mem_take hk)
  conv_lhs => rw [← parts, List.foldl_append, granted]
  by_cases short : ts.length ≤ n
  · rw [List.drop_of_length_le short]
    exact ((s.grantedAll m (ts.take n)).waitingAll_nil m empty).symm
  · refine State.arrives_waitingAll _ kind _ (once.sublist (List.drop_sublist n ts)) empty ?_
    rw [count, List.length_take]
    exact (show s.arbiter.effective ≤ _ by omega)

theorem askedOf_nodup (mask : Byte) : (askedOf mask).Nodup := List.Nodup.filter _ (by decide)

theorem State.globalRun_idle (none_ : m.target = none) (mask : Byte) (empty : s.arbiter.queue = [])
    (idle : ∀ k ∈ s.takenOf m (askedOf mask), s.closures[k].ctx.state = .idle) : s.globalRun m (askedOf mask) =
      { state := (s.takenOf m (askedOf mask)).foldl (State.arrives m) s
        taken := ((s.takenOf m (askedOf mask)).map fun k : ClosureId => 2 ^ k.val).sum
        first := (askedOf mask).findSome? fun k => s.moveRefusal k m } := by
  have away : ∀ k ∈ askedOf mask, k ∉ s.queued := fun k _ => by
    rw [State.queued, empty]
    exact List.not_mem_nil
  refine (GlobalRun.takes_idle none_ (askedOf mask) (askedOf_nodup mask) { state := s } away idle).trans ?_
  rw [Nat.zero_add, Option.none_or]

end

/-- A mask that names no closure is empty. -/
theorem askedOf_ne_nil {mask : Byte} (some_ : mask ≠ 0) : askedOf mask ≠ [] := by
  intro nobody
  refine some_ (BitVec.eq_of_getLsbD_eq fun i hi => ?_)
  have outside := List.filter_eq_nil_iff.mp nobody ⟨i, hi⟩ (mem_allClosures _)
  exact (Bool.eq_false_iff.mpr outside).trans BitVec.getLsbD_zero.symm

/-- The turns of a GLOBAL command at closures that are all refused by a check change nothing. -/
theorem GlobalRun.takes_refused {ask : Move} {asked : List ClosureId} (none_ : ask.target = none) (l : List ClosureId)
    (x : GlobalRun) (fails : ∀ k ∈ l, (x.state.moveRefusal k ask).isSome = true) :
    l.foldl (GlobalRun.take ask asked) x =
      { x with first := x.first.or (l.findSome? fun k => x.state.moveRefusal k ask) } := by
  induction l generalizing x with
  | nil => simp
  | cons k l ih =>
    obtain ⟨r, refusal⟩ := Option.isSome_iff_exists.mp (fails k List.mem_cons_self)
    rw [List.foldl_cons, GlobalRun.take_refused none_ refusal]
    refine (ih { x with first := some (x.first.getD r) } fun j hj => fails j (List.mem_cons_of_mem _ hj)).trans ?_
    rw [List.findSome?_cons, refusal]
    cases x.first <;> rfl

/-- A mask of closures that are all UNUSED is accepted with none taken (R96). -/
theorem State.globalRun_unused (s : State) (n : SeatId) (d : Direction) (o : Origin) {mask : Byte} (some_ : mask ≠ 0)
    (unused : ∀ k : ClosureId, hasMember mask k.val = true → s.closures[k].desc.cls = .unused) :
    s.globalRun (globalAsk n d o) (askedOf mask) = { state := s, first := some .badClosure } := by
  have fails : ∀ k ∈ askedOf mask, s.moveRefusal k (globalAsk n d o) = some .badClosure := fun k hk =>
    if_pos (unused k (List.mem_filter.mp hk).2)
  have first : ((askedOf mask).findSome? fun k => s.moveRefusal k (globalAsk n d o)) = some .badClosure := by
    obtain ⟨k, rest, asked⟩ := List.exists_cons_of_ne_nil (askedOf_ne_nil some_)
    have refused := fails k (asked ▸ List.mem_cons_self)
    rw [asked, List.findSome?_cons, refused]
  refine (GlobalRun.takes_refused rfl (askedOf mask) { state := s } fun k hk => by rw [fails k hk]; rfl).trans ?_
  rw [Option.none_or, first]

/-- What closures taken with slots free leave, spelled out: the first granted, the others waiting. -/
theorem State.grantedAll_waitingAll (s : State) (m : Move) (ts : List ClosureId) (n : Nat) (once : ts.Nodup) :
    (s.grantedAll m (ts.take n)).waitingAll m (ts.drop n) = { s with
      closures := Vector.ofFn fun k : ClosureId =>
        if k ∈ ts.take n then ((s.globalArrival m k).grantedAt m s.now s.front.reading).drivenAt s.now m.direction
        else if k ∈ ts.drop n then s.globalArrival m k
        else s.closures[k]
      arbiter := { s.arbiter with
        held := Vector.ofFn fun k : ClosureId => s.arbiter.held[k] || decide (k ∈ ts.take n)
        queue := queueOf (ts.drop n)
        lastArrival := if ts = [] then s.arbiter.lastArrival else max 1 (ts.drop n).length } } := by
  have closures : ((s.grantedAll m (ts.take n)).waitingAll m (ts.drop n)).closures = Vector.ofFn fun k : ClosureId =>
      if k ∈ ts.take n then ((s.globalArrival m k).grantedAt m s.now s.front.reading).drivenAt s.now m.direction
      else if k ∈ ts.drop n then s.globalArrival m k
      else s.closures[k] := by
    refine congrArg Vector.ofFn (funext fun k => ?_)
    have before : (s.grantedAll m (ts.take n)).closures[k] = if k ∈ ts.take n then
        ((s.globalArrival m k).grantedAt m s.now s.front.reading).drivenAt s.now m.direction else s.closures[k] := by
      simp only [State.grantedAll, Fin.getElem_fin, Vector.getElem_ofFn]
    rw [State.globalArrival, before]
    by_cases first : k ∈ ts.take n
    · rw [if_neg (List.disjoint_take_drop once le_rfl first), if_pos first, if_pos first]
    · rw [if_neg first, if_neg first]
      rfl
  have last : ((s.grantedAll m (ts.take n)).waitingAll m (ts.drop n)).arbiter.lastArrival =
      if ts = [] then s.arbiter.lastArrival else max 1 (ts.drop n).length := by
    simp only [State.waitingAll, State.grantedAll]
    by_cases nobody : ts.drop n = []
    · have all : ts.take n = ts := List.take_of_length_le (List.drop_eq_nil_iff.mp nobody)
      rw [if_pos nobody, nobody, all]
      rfl
    · have some_ : ts ≠ [] := fun nil => nobody (by rw [nil]; exact List.drop_nil)
      rw [if_neg nobody, if_neg some_, max_eq_right (List.length_pos_iff.mpr nobody)]
  have parts := congrArg₂ (fun c n' => ({ s with
    closures := c
    arbiter := { s.arbiter with
      held := Vector.ofFn fun k : ClosureId => s.arbiter.held[k] || decide (k ∈ ts.take n)
      queue := queueOf (ts.drop n)
      lastArrival := n' } } : State)) closures last
  exact parts

/-- One closure that waits with nothing before it. -/
theorem State.globalRun_waits (s : State) (k : ClosureId) {m : Move} (kind : m.kind = .global) (none_ : m.target = none)
    (passes : s.moveRefusal k m = none) (idle : s.closures[k].ctx.state = .idle) (empty : s.arbiter.queue = [])
    (full : s.arbiter.effective ≤ s.arbiter.heldCount) : s.globalRun m [k] =
      { state := { s.withClosure k (s.globalArrival m k) with
          arbiter := { s.arbiter with queue := [{ closure := k, arrival := 1 }], lastArrival := 1 } }
        taken := 2 ^ k.val } := by
  have taken := (State.submit_within (k := k) (fun p hp => nomatch none_.symm.trans hp) passes).trans
    (State.takeMove_idle idle)
  rw [s.globalRun_single, taken, State.enqueue_waits full, State.waiting, s.arrived_global kind, Arbiter.nextNumber,
    if_pos empty, empty]
  rfl

end Sys2Proof.Machine
end

section
/-! PROOFS. GLOBAL with a mask of two closures (R89 to R91, R96, R104, R111, R114; log entries 14 and 18). -/
namespace Sys2Proof.Machine

/-- The mask of two closures. -/
def pairMask (i j : ClosureId) : Byte := byteOf (2 ^ i.val + 2 ^ j.val)

theorem askedOf_pair {i j : ClosureId} (lt : i < j) : askedOf (pairMask i j) = [i, j] := by
  revert i j
  decide

theorem pairMask_ne_zero {i j : ClosureId} (lt : i < j) : pairMask i j ≠ 0 := by
  revert i j
  decide

section
variable {s u t : State} {i j : ClosureId} {m : Move}

/-- Two turns, neither of them refused. -/
theorem State.globalRun_pair
    (first : GlobalRun.take m [i, j] { state := s } i = { state := u, taken := 2 ^ i.val })
    (second : GlobalRun.take m [i, j] { state := u, taken := 2 ^ i.val } j =
      { state := t, taken := 2 ^ i.val + 2 ^ j.val }) :
    s.globalRun m [i, j] = { state := t, taken := 2 ^ i.val + 2 ^ j.val } := by
  rw [State.globalRun, List.foldl_cons, List.foldl_cons, List.foldl_nil, first, second]

/-- A closure that the first turn has left alone passes its checks as before. -/
theorem State.takeMove_passes {target : Option Int} {way : Way} (taken : s.takeMove i m = .taken u target way)
    (same : u.closures[j] = s.closures[j]) (passes : s.moveRefusal j m = none) : u.moveRefusal j m = none := by
  have turned := s.turned_takeMove i m
  rw [taken] at turned
  rw [State.moveRefusal_congr turned.outside turned.record same]
  exact passes

end

/-! A QUEUED move replaced too late, in the slot queue or out of it (R89, R104, R114; log entry 18). -/

section
variable {s : State} {k : ClosureId} {m : Move}

/-- An entry that a filter drops leaves nothing behind. -/
theorem State.filter_insertEntry (s : State) {p : QueueEntry → Bool} {e : QueueEntry} (dropped : p e = false)
    (q : List QueueEntry) : (s.insertEntry e q).filter p = q.filter p := by
  induction q with
  | nil => simp [State.insertEntry, dropped]
  | cons x q ih =>
    rw [State.insertEntry]
    split
    · rw [List.filter_cons, dropped]
      rfl
    · rw [List.filter_cons, List.filter_cons, ih]

theorem State.replaceInQueue_arbiter (s : State) (k : ClosureId) :
    s.replaceInQueue k = { s with arbiter := (s.replaceInQueue k).arbiter } := by
  unfold State.replaceInQueue
  split <;> rfl

theorem State.replaceInQueue_without (s : State) (k : ClosureId) :
    (s.replaceInQueue k).arbiter.without k = s.arbiter.without k := by
  unfold State.replaceInQueue
  split
  · rename_i e found
    have self : e.closure = k := of_decide_eq_true (List.find?_some found :)
    have dropped : decide (e.closure ≠ k) = false := decide_eq_false (not_not.mpr self)
    have queue := (s.leaveQueue k).filter_insertEntry (p := fun x => decide (x.closure ≠ k)) dropped
      (s.arbiter.queue.filter fun x => decide (x.closure ≠ k))
    rw [List.filter_filter] at queue
    simp only [Bool.and_self] at queue
    exact congrArg (fun q => { s.arbiter with queue := q }) queue
  · rfl

theorem State.replaceQueued_removes
    (overdue : (s.closures[k].replacedBy m s.now s.seats[m.seat].record.holdUnits).ctx.isOverdue s.now = true) :
    s.RemovedMove (s.replaceQueued k m) k m .queueTimeout none s.now := by
  generalize isC : s.closures[k].replacedBy m s.now s.seats[m.seat].record.holdUnits = c at overdue
  generalize isA : ((s.withClosure k c).replaceInQueue k).arbiter = a
  have placed : (s.modCtx k (Context.replace s.now s.seats[m.seat].record.holdUnits m)).replaceInQueue k =
      { s.withClosure k c with arbiter := a } := by
    rw [State.modCtx_replace, isC, ← isA]
    exact (s.withClosure k c).replaceInQueue_arbiter k
  have without : a.without k = s.arbiter.without k := by
    rw [← isA]
    exact (s.withClosure k c).replaceInQueue_without k
  have present : ({ s.withClosure k c with arbiter := a } : State).closures[k] = c := s.withClosure_self k c
  have removes : s.replaceQueued k m = ({ s.withClosure k c with arbiter := a } : State).remove k .queueTimeout none := by
    simp only [State.replaceQueued, placed]
    exact if_pos (by rw [present]; exact overdue)
  have hm : ({ s.withClosure k c with arbiter := a } : State).closures[k].ctx.move = some m := by
    rw [present, ← isC]
    rfl
  obtain ⟨closures, arbiter, told, elsewhere⟩ := State.remove_removed .queueTimeout none hm
  rw [present] at closures told
  rw [removes]
  subst isC
  exact ⟨closures.trans (Vector.set_set ..), arbiter.trans without, told, elsewhere⟩

end

/-! No slot free, the second closure QUEUED the other way. -/

section
variable {s u : State} {f : SeatFrame} {d : Direction} {o : Origin} {i j : ClosureId} {other : Move}

/-- The second closure's move is removed after what the first closure's turn has told, and the new one waits alone (R89,
R96, R104). -/
theorem exec_global_second (h : s.Awake) (right : hasMember s.seats[f.seat].record.rights 0 = true) (lt : i < j)
    (passesI : s.moveRefusal i (globalAsk f.seat d o) = none) (passesJ : s.moveRefusal j (globalAsk f.seat d o) = none)
    (queued : s.closures[j].ctx.state = .queued) (hm : s.closures[j].ctx.move = some other) (against : other.direction ≠ d)
    (full : s.arbiter.effective ≤ s.arbiter.heldCount) {target : Option Int} {way : Way} {x : ClosureState}
    {first : SeatId → List Notice} (keeps : s.closures[i].ctx.meet (globalAsk f.seat d o) ≠ .supersedeRunning)
    (taken : (s.later f.dt).takeMove i (globalAsk f.seat d o) = .taken u target way)
    (closures : u.closures = s.closures.set i x) {q : List QueueEntry}
    (arbiter : u.arbiter = { s.arbiter with queue := q }) (left : ∀ e ∈ q, e.closure = j)
    (heard : ∀ n : SeatId, s.seats[n].queue.length < 16 → u.seats[n].queue = s.seats[n].queue ++ first n)
    (short : ∀ n : SeatId, (first n).length ≤ 1) (elsewhere : s.SameElsewhere u) :
    ∃ t, exec (.global f [pairMask i j, byteOf d.code, byteOf o.code]) s = .next t ∧
      t.closures = (s.closures.set i x).set j
        { s.closures[j].removedAt j other .superseded (some f.seat) s.front.reading with
          ctx := Context.arrived (globalAsk f.seat d o) (s.now + f.dt) 0 } ∧
      t.arbiter = { s.arbiter with queue := [{ closure := j, arrival := 1 }], lastArrival := 1 } ∧
      (∀ n : SeatId, s.seats[n].queue.length < 15 → t.seats[n].queue = s.seats[n].queue ++ first n ++
        (if s.Hears j other.seat n then
          [{ body := .moveEnded (s.closures[j].removal j other .superseded (some f.seat) s.front.reading),
             time := s.now + f.dt }]
         else [])) ∧
      s.SameElsewhere t ∧ s.Answers t f 0x13 3 .accepted [pairMask i j, 0] := by
  have present : u.closures[j] = s.closures[j] := by
    simp only [closures]
    exact s.withClosure_other x (Fin.ne_of_gt lt)
  have turned := (s.later f.dt).turned_takeMove i (globalAsk f.seat d o)
  rw [taken] at turned
  have passesU := State.takeMove_passes (s := s.later f.dt) taken present passesJ
  have meets : u.closures[j].ctx.meet (globalAsk f.seat d o) = .supersedeQueued := by
    rw [present]
    exact Context.meet_supersedeQueued queued hm against
  have fullU : u.arbiter.effective ≤ u.arbiter.heldCount := by
    rw [arbiter]
    exact full
  obtain ⟨closuresT, arbiterT, toldT, elsewhereT, repliesT⟩ := State.supersedeQueued_waits (s := u) (k := j)
    (m := globalAsk f.seat d o) (by rw [present]; exact hm) fullU (some f.seat)
  have turnedT := u.turned_takeMove j (globalAsk f.seat d o)
  rw [State.takeMove_supersedeQueued meets] at turnedT
  have one := GlobalRun.take_passes (x := { state := s.later f.dt }) (asked := [i, j]) (k := i) rfl passesI keeps taken
  have two := GlobalRun.take_passes (x := { state := u, taken := 2 ^ i.val }) (asked := [i, j]) (k := j) rfl passesU
    (by rw [meets]; exact Meeting.noConfusion) (State.takeMove_supersedeQueued meets)
  have run := State.globalRun_pair (one.trans (by rw [Nat.zero_add])) two
  rw [← askedOf_pair lt] at run
  have replies := State.takeMove_replies (s.later f.dt) i _ taken
  obtain ⟨t, ran, as, answers⟩ := exec_global_answers right (pairMask_ne_zero lt) h run
    (turned.outside.trans turnedT.outside) (State.SameReplies.trans replies repliesT)
  refine ⟨t, ran, ?_, ?_, fun n room => ?_, ?_, answers⟩
  · have reading : u.front = s.front := turned.outside.front
    have now : u.now = s.now + f.dt := turned.outside.now
    refine as.closures.trans (closuresT.trans ?_)
    rw [present, closures, reading, now, Context.arrived_global rfl]
  · have empty : (u.arbiter.without j).queue = [] := by
      rw [arbiter]
      exact List.filter_eq_nil_iff.mpr fun e he => by simp [left e he]
    have number : (u.arbiter.without j).nextNumber = 1 := if_pos empty
    refine as.arbiter.trans (arbiterT.trans ?_)
    rw [empty, number, arbiter]
    rfl
  · obtain ⟨hears, deaf⟩ := toldT n
    have before := heard n (by omega)
    have subscription : u.Hears j other.seat n ↔ s.Hears j other.seat n := by
      rw [State.Hears, State.Hears, elsewhere.2.2.2.2.2 n]
    rw [subscription, before] at hears deaf
    refine (as.queue n).trans ?_
    split
    · refine (hears ‹_› ?_).1.trans ?_
      · have one := short n
        rw [List.length_append]
        omega
      · rw [present, turned.outside.front, turned.outside.now]
        rfl
    · exact (deaf ‹_›).1.trans (List.append_nil _).symm
  · exact State.sameElsewhere_trans (State.sameElsewhere_trans elsewhere elsewhereT) as.elsewhere

end

end Sys2Proof.Machine
end

section
/-! PROOFS. GLOBAL with a mask of two closures whose first gives its slot to the second, and O43 (R90, R96, R104, R111,
R114; log entry 14). -/
namespace Sys2Proof.Machine

/-- A notice reaches the seats it is for (R130, R131). -/
theorem State.Told.queue {s t : State} {chosen : SeatId → Prop} [DecidablePred chosen] {body : NoticeBody} {time : Nat}
    (told : s.Told t chosen body time) (n : SeatId) (room : s.seats[n].queue.length < 16) :
    t.seats[n].queue = s.seats[n].queue ++ if chosen n then [{ body := body, time := time }] else [] := by
  obtain ⟨hears, deaf⟩ := told n
  split
  · exact (hears ‹_› room).1
  · exact (deaf ‹_›).1.trans (List.append_nil _).symm

theorem State.takeMove_replaces {s : State} {k : ClosureId} {m : Move}
    (meets : s.closures[k].ctx.meet m = .replaceQueued) :
    s.takeMove k m = .taken (s.replaceQueued k m) m.target .replaced := by
  simp only [State.takeMove, meets]

/-- What a seat hears at most once takes one place. -/
theorem heard_once {p : Prop} [Decidable p] (x : Notice) : (if p then [x] else []).length ≤ 1 := by
  split <;> simp

/-! The first closure's slot goes to the second (R90, R111; log entry 14). -/

/-- A RUNNING move superseded, the new one stored as its follow-on (R90). -/
def State.stored (s : State) (i : ClosureId) (m : Move) : State :=
  let ended := s.moveEnded i s.now .superseded (some m.seat)
  ended.withClosure i (ended.closures[i].following m)

/-- The same, with nobody left in the slot queue. -/
def State.storedAlone (s : State) (i : ClosureId) (m : Move) : State :=
  { s.stored i m with arbiter := { (s.stored i m).arbiter with queue := [] } }

section
variable {s : State} {i j : ClosureId} {m mine : Move} {e : QueueEntry} {rest : List QueueEntry}

theorem State.stored_other (apart : j ≠ i) : (s.stored i m).closures[j] = s.closures[j] :=
  (State.withClosure_other _ _ apart).trans (s.withClosure_other _ apart)

/-- What a grant at one closure and a change of another come to does not depend on their order. -/
theorem State.granted_withClosure (s : State) (apart : j ≠ i) (c : ClosureState) (now : Nat) :
    (s.granted j m now).withClosure i c = (s.withClosure i c).granted j m now := by
  have present : (s.withClosure i c).closures[j] = s.closures[j] := s.withClosure_other c apart
  have closures : ((s.granted j m now).withClosure i c).closures = ((s.withClosure i c).granted j m now).closures := by
    simp only [State.granted, present]
    exact Vector.set_comm (hi := j.isLt) (hj := i.isLt) _ _ (fun same => apart (Fin.ext same))
  exact congrArg (fun v => { s.granted j m now with closures := v }) closures

theorem State.takeMove_superseding (meets : s.closures[i].ctx.meet m = .supersedeRunning) :
    s.takeMove i m = .taken ((s.endMove i .superseded (some m.seat)).storeFollowOn i m) m.target .followOn := by
  simp only [State.takeMove, meets]

/-- The slot of the superseded move is granted to the head of the slot queue (R111). -/
theorem State.supersedes_grants (alone : s.closures[i].ctx.followOn = none) (queue : s.arbiter.queue = e :: rest)
    (holds : s.arbiter.held[i] = true) (hm : s.closures[e.closure].ctx.move = some mine) (runs : mine.Runs)
    (slotless : s.arbiter.held[e.closure] = false) (full : s.arbiter.heldCount = s.arbiter.effective)
    (clear : s.arbiter.unparkPending = false) (wait : s.arbiter.unparkWait = .none) (apart : i ≠ e.closure) :
    (s.endMove i .superseded (some m.seat)).storeFollowOn i m = (s.stored i m).granted e.closure mine s.now := by
  have grants := State.endMove_grants .superseded (some m.seat) queue holds hm runs slotless full clear wait apart
  have present : ((s.moveEnded i s.now .superseded (some m.seat)).granted e.closure mine s.now).closures[i] =
      (s.moveEnded i s.now .superseded (some m.seat)).closures[i] := State.granted_other _ apart
  have follow : ((s.moveEnded i s.now .superseded (some m.seat)).granted e.closure mine s.now).closures[i].ctx.followOn =
      none := by
    rw [present, State.moveEnded_closure]
    exact alone
  rw [grants, State.storeFollowOn_alone follow, present, State.granted_withClosure _ apart.symm]
  rfl

/-- The superseded move ends with nothing waiting for its slot: the second closure has left the slot queue ahead of its
removal (R104; log entry 14). -/
theorem State.supersedes_alone (meets : s.closures[i].ctx.meet m = .supersedeRunning)
    (alone : s.closures[i].ctx.followOn = none) (removes : s.removesQueued j m = true)
    (only : ∀ e ∈ s.arbiter.queue, e.closure = j) : (s.clearQueue m [j]).takeMove i m =
      .taken (s.storedAlone i m) m.target .followOn := by
  have leaves : [j].filter (fun k => s.removesQueued k m) = [j] := by simp [removes]
  have empty : (s.arbiter.queue.filter fun e => decide (e.closure ∉ [j])) = [] :=
    List.filter_eq_nil_iff.mpr fun e he => by simp [only e he]
  have cleared : s.clearQueue m [j] = { s with arbiter := { s.arbiter with queue := [] } } := by
    rw [State.clearQueue_eq, leaves, empty]
  rw [cleared]
  refine (State.takeMove_supersedeRunning (s := { s with arbiter := { s.arbiter with queue := [] } }) meets alone
    rfl).trans ?_
  rw [State.modCtx, State.modClosure_eq]
  rfl

end

/-! The second closure's turn after that grant. -/

section
variable {s u : State} {j : ClosureId} {m mine : Move} {now : Nat}

/-- A GLOBAL request's checks at a closure granted since are those before (R86). -/
theorem State.moveRefusal_granted (runs : mine.Runs) (outside : s.SameOutside u)
    (record : ∀ n : SeatId, u.seats[n].record = s.seats[n].record)
    (granted : u.closures[j] = (s.closures[j].grantedAt mine now s.front.reading).drivenAt now mine.direction) :
    u.moveRefusal j m = s.moveRefusal j m := by
  have place : s.closures[j].grantPosition mine = s.closures[j].counter.position :=
    if_neg fun h => by
      obtain ⟨normalise, -⟩ := h
      have kinds := runs.1
      simp [normalise] at kinds
  have same := State.moveRefusal_congr (s := s.withClosure j u.closures[j]) (t := u) (j := j)
    ((State.SameOutside.trans (by constructor <;> rfl) outside)) record (s.withClosure_self j _).symm m
  rw [same, granted]
  unfold State.moveRefusal
  rw [State.withClosure_self]
  have position : ((s.closures[j].grantedAt mine now s.front.reading).drivenAt now mine.direction).counter.position =
      s.closures[j].counter.position := place
  simp only [position]
  rfl

/-- A GLOBAL request of the seat at the move that it has got a slot for replaces that (R90). -/
theorem State.meet_granted (kind : m.kind = .global) (runs : mine.Runs) (hm : s.closures[j].ctx.move = some mine)
    (same : mine.direction = m.direction) (seat : mine.seat = m.seat)
    (granted : u.closures[j] = (s.closures[j].grantedAt mine now s.front.reading).drivenAt now mine.direction) :
    u.closures[j].ctx.meet m = .replaceRunning := by
  obtain ⟨kinds, -⟩ := runs
  rw [granted]
  refine Context.meet_replaceRunning (old := mine) rfl hm same seat ?_ ?_
  · rcases kinds with kind | kind | kind <;> simp [kind]
  · simp [kind]

theorem State.takeMove_granted (kind : m.kind = .global) (none_ : m.target = none)
    (meets : u.closures[j].ctx.meet m = .replaceRunning) :
    u.takeMove j m = .taken (u.withClosure j { u.closures[j] with
      ctx := { u.closures[j].ctx with move := some m, holdDeadline := none } }) m.target .replaced := by
  have reached : m.reached u.closures[j].counter.position = false := Move.Runs.not_reached ⟨.inr (.inr kind), none_⟩ _
  rw [State.takeMove_replaceRunning meets, State.replaceRunning_eq, reached]
  simp [ClosureState.replacedBy, kind]

end

/-! The two turns together. -/

section
variable {s : State} {i j : ClosureId} {m mine old : Move} {e : QueueEntry} {rest : List QueueEntry} (lt : i < j)
  (none_ : m.target = none) (passesI : s.moveRefusal i m = none) (running : s.closures[i].ctx.state = .running)
  (hm : s.closures[i].ctx.move = some old) (against : old.direction ≠ m.direction)
  (alone : s.closures[i].ctx.followOn = none)
include lt none_ passesI running hm against alone

theorem State.globalRun_granted (kind : m.kind = .global) (passesJ : s.moveRefusal j m = none)
    (holds : s.arbiter.held[i] = true) (slotless : s.arbiter.held[j] = false)
    (full : s.arbiter.heldCount = s.arbiter.effective) (clear : s.arbiter.unparkPending = false)
    (wait : s.arbiter.unparkWait = .none) (queue : s.arbiter.queue = e :: rest) (head : e.closure = j)
    (stays : s.removesQueued j m = false) (hmJ : s.closures[j].ctx.move = some mine) (runs : mine.Runs)
    (same : mine.direction = m.direction) (seat : mine.seat = m.seat) :
    let granted := (s.stored i m).granted j mine s.now
    s.globalRun m [i, j] =
      { state := granted.withClosure j { granted.closures[j] with
          ctx := { granted.closures[j].ctx with move := some m, holdDeadline := none } }
        taken := 2 ^ i.val + 2 ^ j.val } := by
  intro granted
  subst head
  have meets := Context.meet_supersedeRunning running hm (.inl against)
  have later : [i, e.closure].filter (i < ·) = [e.closure] := by simp [lt]
  have kept : s.clearQueue m [e.closure] = s := by simp [State.clearQueue, stays]
  have grants := State.supersedes_grants (m := m) alone queue holds hmJ runs slotless full clear wait (Fin.ne_of_lt lt)
  have takenI : (s.clearQueue m ([i, e.closure].filter (i < ·))).takeMove i m = .taken granted m.target .followOn := by
    rw [later, kept, State.takeMove_superseding meets, grants]
  have one := GlobalRun.take_releases (x := { state := s }) (asked := [i, e.closure]) none_ passesI meets takenI
  have present : granted.closures[e.closure] =
      (s.closures[e.closure].grantedAt mine s.now s.front.reading).drivenAt s.now mine.direction := by
    refine (State.withClosure_self _ e.closure _).trans ?_
    rw [State.stored_other (Fin.ne_of_gt lt)]
    rfl
  have outside : s.SameOutside granted := by constructor <;> rfl
  have passes : granted.moveRefusal e.closure m = none :=
    (State.moveRefusal_granted runs outside (fun _ => rfl) present).trans passesJ
  have meetsJ := State.meet_granted kind runs hmJ same seat present
  have two := GlobalRun.take_passes (x := { state := granted, taken := 2 ^ i.val }) (asked := [i, e.closure]) none_ passes
    (by rw [meetsJ]; exact Meeting.noConfusion) (State.takeMove_granted kind none_ meetsJ)
  exact State.globalRun_pair (one.trans (by rw [Nat.zero_add])) two

/-- The state before the second closure's turn, when that removes its move. -/
theorem State.globalRun_removes (removes : s.removesQueued j m = true) (only : ∀ e ∈ s.arbiter.queue, e.closure = j)
    {t : State} {target : Option Int} {way : Way} (taken : (s.storedAlone i m).takeMove j m = .taken t target way) :
    s.globalRun m [i, j] = { state := t, taken := 2 ^ i.val + 2 ^ j.val } := by
  have meets := Context.meet_supersedeRunning running hm (.inl against)
  have later : [i, j].filter (i < ·) = [j] := by simp [lt]
  have takenI := State.supersedes_alone meets alone removes only
  rw [← later] at takenI
  have one := GlobalRun.take_releases (x := { state := s }) (asked := [i, j]) none_ passesI meets takenI
  have present : (s.storedAlone i m).closures[j] = s.closures[j] := State.stored_other (Fin.ne_of_gt lt)
  have outside : s.SameOutside (s.storedAlone i m) := by constructor <;> rfl
  have removesU : (s.storedAlone i m).removesQueued j m = true :=
    (State.removesQueued_congr outside (fun _ => rfl) present m).trans removes
  have passes : (s.storedAlone i m).moveRefusal j m = none := by
    rw [State.removesQueued, Bool.and_eq_true, Option.isNone_iff_eq_none] at removesU
    exact removesU.1
  have keeps : (s.storedAlone i m).closures[j].ctx.meet m ≠ .supersedeRunning := fun meets => by
    rw [State.removesQueued, meets, Bool.and_false] at removesU
    exact Bool.noConfusion removesU
  have two := GlobalRun.take_passes (x := { state := s.storedAlone i m, taken := 2 ^ i.val }) (asked := [i, j]) none_
    passes keeps taken
  exact State.globalRun_pair (one.trans (by rw [Nat.zero_add])) two

end

/-! Whether the second closure's move is removed. -/

section
variable {s : State} {k : ClosureId} {m mine : Move}

theorem State.removesQueued_superseded (passes : s.moveRefusal k m = none) (queued : s.closures[k].ctx.state = .queued)
    (hm : s.closures[k].ctx.move = some mine) (against : mine.direction ≠ m.direction) : s.removesQueued k m = true := by
  rw [State.removesQueued, passes, Context.meet_supersedeQueued queued hm against]
  rfl

theorem State.removesQueued_replaced (passes : s.moveRefusal k m = none) (queued : s.closures[k].ctx.state = .queued)
    (hm : s.closures[k].ctx.move = some mine) (same : mine.direction = m.direction) (seat : mine.seat = m.seat) :
    s.removesQueued k m =
      (s.closures[k].replacedBy m s.now s.seats[m.seat].record.holdUnits).ctx.isOverdue s.now := by
  rw [State.removesQueued, passes, Context.meet_replaceQueued queued hm same seat]
  simp only [Context.replace, queuedContext_eq]
  rfl

/-- A move replaced in time stays (R89, R114). -/
theorem ClosureState.replacedBy_timely {c : ClosureState} {now holdUnits : Nat} (queued : c.ctx.state = .queued)
    (timely : ∀ entry, c.ctx.queueEntry = some entry → ¬ entry + 8000000 < now) :
    (c.replacedBy m now holdUnits).ctx.isOverdue now = false := by
  cases entered : c.ctx.queueEntry with
  | none => simp [Context.isOverdue, Context.queueDeadline, ClosureState.replacedBy, queued, entered]
  | some entry =>
    refine Bool.eq_false_iff.mpr fun overdue => ?_
    obtain ⟨-, late⟩ := (Context.isOverdue_replaced queued entered).mp overdue
    exact timely entry entered late

end

/-- A QUEUED move superseded with a slot free and nothing else waiting: the new one is granted (R89, R92, R111). -/
theorem State.supersedeQueued_grants {s : State} {k : ClosureId} {m other : Move} (kind : m.kind = .global)
    (none_ : m.target = none) (hm : s.closures[k].ctx.move = some other) (empty : s.arbiter.queue = []) (free : s.SlotFree)
    (w : Option SeatId) :
    let t := ((s.remove k .superseded w).enqueue k m).grantTest
    let arrived : ClosureState := { s.closures[k].removedAt k other .superseded w s.front.reading with
      ctx := Context.arrived m s.now 0 }
    t.closures = s.closures.set k ((arrived.grantedAt m s.now s.front.reading).drivenAt s.now m.direction) ∧
    t.arbiter = { s.arbiter with held := s.arbiter.held.set k true, lastArrival := 1 } ∧
    s.Told t (s.Hears k other.seat) (.moveEnded (s.closures[k].removal k other .superseded w s.front.reading)) s.now ∧
    s.SameElsewhere t := by
  intro t arrived
  obtain ⟨closures, arbiter, told, elsewhere⟩ := State.remove_removed (u := s) .superseded w hm
  have outside := s.sameOutside_remove k .superseded w
  have self : (s.remove k .superseded w).closures[k] = s.closures[k].removedAt k other .superseded w s.front.reading := by
    simp only [closures]
    exact s.withClosure_self k _
  have without : s.arbiter.without k = s.arbiter := by
    rw [Arbiter.without, empty]
    exact congrArg (fun q => { s.arbiter with queue := q }) empty.symm
  rw [without] at arbiter
  have grants : t = (s.remove k .superseded w).grantedNow m k :=
    (s.remove k .superseded w).arrives_grants kind none_ (by rw [arbiter]; exact empty)
      (by rw [State.SlotFree, arbiter]; exact free) k
  have seats : t.seats = (s.remove k .superseded w).seats := by rw [grants]; rfl
  refine ⟨?_, ?_, fun n => ?_, State.sameElsewhere_trans elsewhere ?_⟩
  · rw [grants, State.grantedNow, State.withClosure, State.globalArrival, self, outside.now, outside.front, closures]
    exact Vector.set_set ..
  · rw [grants, State.grantedNow, arbiter]
  · rw [seats]
    exact told n
  · rw [grants]
    exact ⟨rfl, rfl, rfl, rfl, rfl, fun _ => rfl⟩

/-! The second closure's move removed at its turn (log entry 14). -/

section
variable {f : SeatFrame} {s t : State} {d : Direction} {o : Origin} {i j : ClosureId} {old mine : Move}
  (h : s.Awake) (right : hasMember s.seats[f.seat].record.rights 0 = true) (lt : i < j)
  (passesI : s.moveRefusal i (globalAsk f.seat d o) = none) (passesJ : s.moveRefusal j (globalAsk f.seat d o) = none)
  (running : s.closures[i].ctx.state = .running) (hm : s.closures[i].ctx.move = some old) (against : old.direction ≠ d)
  (alone : s.closures[i].ctx.followOn = none) (only : ∀ e ∈ s.arbiter.queue, e.closure = j)
  (queued : s.closures[j].ctx.state = .queued) (hmJ : s.closures[j].ctx.move = some mine)
include h right lt passesI running hm against alone only

theorem exec_global_removes (removes : (s.later f.dt).removesQueued j (globalAsk f.seat d o) = true)
    {target : Option Int} {way : Way} (taken : ((s.later f.dt).storedAlone i (globalAsk f.seat d o)).takeMove j
      (globalAsk f.seat d o) = .taken t target way) :
    ∃ t', exec (.global f [pairMask i j, byteOf d.code, byteOf o.code]) s = .next t' ∧ t.AnsweredAs t' ∧
      s.Answers t' f 0x13 3 .accepted [pairMask i j, 0] := by
  have run := State.globalRun_removes (s := s.later f.dt) lt rfl passesI running hm against alone removes only taken
  rw [← askedOf_pair lt] at run
  have outside : (s.later f.dt).SameOutside ((s.later f.dt).storedAlone i (globalAsk f.seat d o)) := by constructor <;> rfl
  have replies : s.SameReplies ((s.later f.dt).storedAlone i (globalAsk f.seat d o)) := fun _ => rfl
  have turned := State.turned_takeMove ((s.later f.dt).storedAlone i (globalAsk f.seat d o)) j (globalAsk f.seat d o)
  rw [taken] at turned
  exact exec_global_answers right (pairMask_ne_zero lt) h run (outside.trans turned.outside)
    (State.SameReplies.trans replies (State.takeMove_replies _ j _ taken))

include passesJ queued hmJ

/-- Replaced too late (R89, R114). -/
theorem exec_global_late (same : mine.direction = d) (seat : mine.seat = f.seat) {entry : Nat}
    (entered : s.closures[j].ctx.queueEntry = some entry) (late : entry + 8000000 < s.now + f.dt) :
    let m := globalAsk f.seat d o
    let u := (s.later f.dt).storedAlone i m
    ∃ t, exec (.global f [pairMask i j, byteOf d.code, byteOf o.code]) s = .next t ∧
      t.closures = u.closures.set j (s.closures[j].removedAt j m .queueTimeout none s.front.reading) ∧
      t.arbiter = u.arbiter ∧
      s.Told t (s.Hears j f.seat) (.moveEnded (s.closures[j].removal j m .queueTimeout none s.front.reading))
        (s.now + f.dt) ∧
      s.SameElsewhere t ∧ s.Answers t f 0x13 3 .accepted [pairMask i j, 0] := by
  intro m u
  have overdue := (Context.isOverdue_replaced (m := globalAsk f.seat d o) (now := s.now + f.dt)
    (holdUnits := s.seats[f.seat].record.holdUnits) queued entered).mpr ⟨.inr rfl, late⟩
  have removes := (State.removesQueued_replaced (s := s.later f.dt) (m := globalAsk f.seat d o) passesJ queued hmJ same
    seat).trans overdue
  have present : u.closures[j] = s.closures[j] := State.stored_other (Fin.ne_of_gt lt)
  have meets : u.closures[j].ctx.meet m = .replaceQueued := by
    rw [present]
    exact Context.meet_replaceQueued queued hmJ same seat
  obtain ⟨closures, arbiter, told, elsewhere⟩ := State.replaceQueued_removes (s := u) (k := j) (m := m)
    (by rw [present]; exact overdue)
  rw [present] at closures told
  obtain ⟨t, ran, as, answers⟩ := exec_global_removes h right lt passesI running hm against alone only removes
    (State.takeMove_replaces meets)
  exact ⟨t, ran, as.closures.trans closures, as.arbiter.trans arbiter, as.told told,
    State.sameElsewhere_trans (State.sameElsewhere_trans ⟨rfl, rfl, rfl, rfl, rfl, fun _ => rfl⟩ elsewhere) as.elsewhere,
    answers⟩

/-- Superseded, and the new move granted the slot (R89, R111). -/
theorem exec_global_against (againstJ : mine.direction ≠ d) (full : s.arbiter.heldCount = s.arbiter.effective)
    (holds : s.arbiter.held[i] = true) (clear : s.arbiter.unparkPending = false) (wait : s.arbiter.unparkWait = .none) :
    let now := s.now + f.dt
    let u := (s.later f.dt).storedAlone i (globalAsk f.seat d o)
    let arrived : ClosureState := { s.closures[j].removedAt j mine .superseded (some f.seat) s.front.reading with
      ctx := Context.arrived (globalAsk f.seat d o) now 0 }
    ∃ t, exec (.global f [pairMask i j, byteOf d.code, byteOf o.code]) s = .next t ∧
      t.closures = u.closures.set j
        ((arrived.grantedAt (globalAsk f.seat d o) now s.front.reading).drivenAt now d) ∧
      t.arbiter = { u.arbiter with held := u.arbiter.held.set j true, lastArrival := 1 } ∧
      s.Told t (s.Hears j mine.seat)
        (.moveEnded (s.closures[j].removal j mine .superseded (some f.seat) s.front.reading)) now ∧
      s.SameElsewhere t ∧ s.Answers t f 0x13 3 .accepted [pairMask i j, 0] := by
  intro now u arrived
  have present : u.closures[j] = s.closures[j] := State.stored_other (Fin.ne_of_gt lt)
  have removes := State.removesQueued_superseded (s := s.later f.dt) (m := globalAsk f.seat d o) passesJ queued hmJ againstJ
  have meets : u.closures[j].ctx.meet (globalAsk f.seat d o) = .supersedeQueued := by
    rw [present]
    exact Context.meet_supersedeQueued queued hmJ againstJ
  have count : u.arbiter.heldCount + 1 = s.arbiter.heldCount := Arbiter.heldCount_release_one holds rfl
  have free : u.SlotFree := ⟨by
    have effective : u.arbiter.effective = s.arbiter.effective := rfl
    omega, clear, wait⟩
  obtain ⟨closures, arbiter, told, elsewhere⟩ := State.supersedeQueued_grants (s := u) (m := globalAsk f.seat d o) rfl rfl
    (by rw [present]; exact hmJ) rfl free (some f.seat)
  rw [present] at closures told
  obtain ⟨t, ran, as, answers⟩ := exec_global_removes h right lt passesI running hm against alone only removes
    (State.takeMove_supersedeQueued meets)
  exact ⟨t, ran, as.closures.trans closures, as.arbiter.trans arbiter, as.told told,
    State.sameElsewhere_trans (State.sameElsewhere_trans ⟨rfl, rfl, rfl, rfl, rfl, fun _ => rfl⟩ elsewhere) as.elsewhere,
    answers⟩

end

/-- Settles O43: the turns of the closures of the mask one after the other; with one closure, the turn is the request
there. -/
theorem globalQueues : Obligations.GlobalQueues := by
  intro f s d o h
  refine ⟨fun k => ?_, fun mask => ?_, fun mask => ?_, fun mask => ?_, fun k u r => ?_, fun i j old e rest lt => ?_,
    fun i j other lt => ?_, ?_, fun mask direction origin bad => ?_, fun mask some_ barred => ?_⟩
  · intro m right passes idle empty full
    have run := (s.later f.dt).globalRun_waits k (m := m) rfl rfl passes idle empty full
    rw [← askedOf_single] at run
    exact exec_global_run right (byteOf_single_ne_zero k) h run rfl
  · intro right some_ unused
    exact exec_global_run right some_ h ((s.later f.dt).globalRun_unused f.seat d o some_ unused) rfl
  · intro m asked taken right some_ idle empty full
    have run := (s.later f.dt).globalRun_idle (m := m) rfl mask empty idle
    have waits := (s.later f.dt).arrives_waitingAll (m := m) rfl taken ((askedOf_nodup mask).filter _) empty full
    exact exec_global_run right some_ h run waits
  · intro m now asked taken first waiting right some_ empty free idle
    have once : taken.Nodup := (askedOf_nodup mask).filter _
    have run := (s.later f.dt).globalRun_idle (m := m) rfl mask empty fun k hk => (idle k hk).1
    have grants := (s.later f.dt).arrives_all (m := m) rfl rfl taken once empty free fun k hk => (idle k hk).2
    rw [State.grantedAll_waitingAll _ m taken _ once] at grants
    exact exec_global_run right some_ h run grants
  · intro m right moved reply
    exact exec_global_single h right moved reply
  · intro m now right passesI passesJ running hm against alone holds slotless full clear wait queue head queuedJ ended x
      stored run items
    subst head
    have passesS : (s.later f.dt).moveRefusal e.closure m = none := passesJ
    refine ⟨fun mine hmJ runs same seat timely => ?_, fun mine entry hmJ same seat entered late nobody => ?_,
      fun other hmJ againstJ nobody => ?_⟩
    · have stays := (State.removesQueued_replaced (s := s.later f.dt) passesS queuedJ hmJ same seat).trans
        (ClosureState.replacedBy_timely queuedJ timely)
      have turns := State.globalRun_granted (s := s.later f.dt) lt rfl passesI running hm against alone rfl passesJ holds
        slotless full clear wait queue rfl stays hmJ runs same seat
      rw [← askedOf_pair lt] at turns
      exact exec_global_run right (pairMask_ne_zero lt) h turns rfl
    · have only : ∀ x ∈ s.arbiter.queue, x.closure = e.closure := by simp [queue, nobody]
      exact exec_global_late h right lt passesI passesJ running hm against alone only queuedJ hmJ same seat entered late
    · have only : ∀ x ∈ s.arbiter.queue, x.closure = e.closure := by simp [queue, nobody]
      obtain ⟨t, ran, closures, arbiter, told, elsewhere, answers⟩ := exec_global_against h right lt passesI passesJ
        running hm against alone only queuedJ hmJ againstJ full holds clear wait
      refine ⟨t, ran, ?_, told, elsewhere, answers⟩
      intro removed arrived granted
      have self : (stored.withClosure e.closure arrived).closures[e.closure] = arrived := State.withClosure_self _ _ _
      have left : ((stored.withClosure e.closure arrived).arbiter.without e.closure).queue = [] :=
        List.filter_eq_nil_iff.mpr fun x hx => by simp [only x hx]
      refine ⟨closures.trans ?_, arbiter.trans ?_⟩
      · simp only [granted, State.granted, self]
        exact (Vector.set_set ..).symm
      · exact congrArg (fun q => { stored.arbiter with
          queue := q, held := stored.arbiter.held.set e.closure true, lastArrival := 1 }) left.symm
  · intro m now reading right passesI passesJ queued hm against full becomes c
    refine ⟨fun g settling follows alone => ?_, fun mine entry queuedI hmI same seat entered late alone => ?_⟩
    · have meets : s.closures[i].ctx.meet m = .store := Context.meet_store (.inl settling)
      obtain ⟨closures, arbiter, told, elsewhere, -⟩ := State.storeFollowOn_drops (s := s.later f.dt) (m := m) follows
      exact exec_global_second h right lt passesI passesJ queued hm against full
        (fun same => Meeting.noConfusion (meets.symm.trans same)) (State.takeMove_store meets) closures arbiter
        alone (fun n => told.queue n) (fun _ => heard_once _) elsewhere
    · have meets : s.closures[i].ctx.meet m = .replaceQueued := Context.meet_replaceQueued queuedI hmI same seat
      have taken : (s.later f.dt).takeMove i m = .taken ((s.later f.dt).replaceQueued i m) m.target .replaced :=
        State.takeMove_replaces meets
      have overdue := (Context.isOverdue_replaced (m := m) (now := now) (holdUnits := s.seats[f.seat].record.holdUnits)
        queuedI entered).mpr ⟨.inr rfl, late⟩
      obtain ⟨closures, arbiter, told, elsewhere⟩ :=
        State.replaceQueued_removes (s := s.later f.dt) (k := i) (m := m) overdue
      refine exec_global_second h right lt passesI passesJ queued hm against full
        (fun same => Meeting.noConfusion (meets.symm.trans same)) taken closures arbiter (fun e he => ?_)
        (fun n => told.queue n) (fun _ => heard_once _) elsewhere
      obtain ⟨waits, apart⟩ := List.mem_filter.mp he
      exact (alone e waits).resolve_left (of_decide_eq_true apart)
  · refine exec_global_refused h ((State.answerGlobal_eq _ _).trans ?_)
    exact if_pos rfl
  · exact exec_global_refused h (State.answerGlobal_uncoded _ _ bad)
  · refine exec_global_refused h ((State.answerGlobal_eq _ _).trans ((if_neg some_).trans ?_))
    exact if_neg (Bool.eq_false_iff.mp barred)

end Sys2Proof.Machine
end

section
/-! PROOFS. WRITE SETTING of the device settings (R108) and of T_ret (R127): O31. -/
namespace Sys2Proof.Machine

/-- Check 2 of a write of K_slots finds a context that holds or waits for a slot (R108). -/
theorem State.anyHoldsOrWaits_iff (s : State) : s.anyHoldsOrWaits = true ↔
    ∃ k : ClosureId, s.closures[k].ctx.state ≠ .idle ∧ s.closures[k].ctx.state ≠ .settling := by
  rw [State.anyHoldsOrWaits, List.any_eq_true]
  refine exists_congr fun k => ?_
  rw [and_iff_right (mem_allClosures k)]
  cases s.closures[k].ctx.state <;> decide

/-! The settings that a write leaves (R108, operations 1 and 2), with their ranges written out. -/

section
variable (x : Settings) (v : Nat)

theorem Settings.write_slots : x.write v .slots = { x with slots := max 1 (min 4 v) } := by
  rw [Settings.write, clampNat_eq (by decide)]

theorem Settings.write_vLow : x.write v .vLow =
    { x with
      vLow := max 9000 (min 12000 v)
      vResume := max (max 9000 (min 12000 v) + 200) (min 13000 x.vResume)
      vMin := max 7000 (min (max 9000 (min 12000 v) - 500) x.vMin) } := by
  simp only [Settings.write, Settings.reclamp, clampNat_eq (show 9000 ≤ 12000 by decide)]
  rw [clampNat_eq (by omega), clampNat_eq (by omega)]

theorem Settings.write_vResume (high : x.vLow ≤ 12000) :
    x.write v .vResume = { x with vResume := max (x.vLow + 200) (min 13000 v) } := by
  rw [Settings.write, clampNat_eq (by omega)]

theorem Settings.write_vMin (low : 9000 ≤ x.vLow) :
    x.write v .vMin = { x with vMin := max 7000 (min (x.vLow - 500) v) } := by
  rw [Settings.write, clampNat_eq (by omega)]

end

/-! The answers (R108, R127). -/

section
variable {s : State} {n : SeatId} {x : SupplySetting} {v : Nat}

theorem State.writeSupplySetting_barred (barred : s.seats[n].record.grants .settings = false) :
    s.writeSupplySetting n x v = s.refuse .notPermitted := by
  rw [State.writeSupplySetting, barred]
  rfl

theorem State.writeRetention_barred (barred : s.seats[n].record.grants .settings = false) :
    s.writeRetention n v = s.refuse .notPermitted := by
  rw [State.writeRetention, barred]
  rfl

theorem State.writeSupplySetting_busy (granted : s.seats[n].record.grants .settings = true)
    (busy : s.anyHoldsOrWaits = true) : s.writeSupplySetting n .slots v = s.refuse .notIdle := by
  rw [State.writeSupplySetting, granted, busy]
  rfl

/-- K_slots sets the effective slot count outside derating (R108, R113). -/
theorem State.writeSupplySetting_slots (granted : s.seats[n].record.grants .settings = true)
    (resting : s.anyHoldsOrWaits = false) :
    s.writeSupplySetting n .slots v =
      { state := { s with
          settings := s.settings.write v .slots
          arbiter := { s.arbiter with
            effective := if s.arbiter.derating then s.arbiter.effective else (s.settings.write v .slots).slots } }
        result := .accepted
        items := settingItems 0x20 (s.settings.write v .slots).slots } := by
  rw [State.writeSupplySetting, granted, resting]
  cases s.arbiter.derating <;> rfl

/-- Every other supply setting leaves the slot arbiter (R108). -/
theorem State.writeSupplySetting_other (granted : s.seats[n].record.grants .settings = true) (other : x ≠ .slots) :
    s.writeSupplySetting n x v =
      { state := { s with settings := s.settings.write v x }
        result := .accepted
        items := settingItems (DeviceSetting.supply x).id ((s.settings.write v x).read (.supply x)) } := by
  rw [State.writeSupplySetting, granted]
  cases x with
  | slots => exact absurd rfl other
  | vLow | vResume | vMin => rfl

theorem State.writeRetention_granted (granted : s.seats[n].record.grants .settings = true) :
    s.writeRetention n v =
      { state := { s with settings := { s.settings with tRet := min 255 v } }
        result := .accepted
        items := settingItems 0x24 (min 255 v) } := by
  rw [State.writeRetention, granted, clampNat_eq (Nat.zero_le _), Nat.zero_max]
  rfl

end

/-! The commands. -/

section
variable {s : State} {f : SeatFrame} {b : Byte} {x : SupplySetting} {v : BitVec 16}

/-- A write of a supply setting that leaves the slot arbiter is answered with the setting. -/
theorem exec_writeDeviceSetting (h : s.Awake) (granted : s.seats[f.seat].record.grants .settings = true)
    (other : x ≠ .slots) {y : Settings} (written : s.settings.write v.toNat x = y) :
    exec (.writeDeviceSetting f b x v) s = .next (({ s with settings := y }).answered f 0x41 4 .accepted
      (settingItems (DeviceSetting.supply x).id (y.read (.supply x)))) := by
  subst written
  exact congrArg Host.Outcome.next
    (State.seatCommand_answered h (State.writeSupplySetting_other (s := s.later f.dt) granted other))

theorem exec_writeDeviceSetting_slots (h : s.Awake) (granted : s.seats[f.seat].record.grants .settings = true)
    (resting : s.anyHoldsOrWaits = false) {y : Settings} (written : s.settings.write v.toNat .slots = y) :
    exec (.writeDeviceSetting f b .slots v) s = .next
      (({ s with
          settings := y
          arbiter := { s.arbiter with
            effective := if s.arbiter.derating then s.arbiter.effective else y.slots } }).answered
        f 0x41 4 .accepted (0x20 :: be16 y.slots)) := by
  subst written
  exact congrArg Host.Outcome.next
    (State.seatCommand_answered h (State.writeSupplySetting_slots (s := s.later f.dt) granted resting))

end

/-- Settles O31: each write is its answer at the frame's time, with the range of its setting. -/
theorem writeDeviceSettings : Obligations.WriteDeviceSettings := by
  refine ⟨fun f s b x v h barred => ⟨?_, ?_⟩, fun f s b v h granted =>
    ⟨fun resting => ?_, fun busy => ?_, ?_, fun low high => ⟨?_, ?_⟩, ?_⟩⟩
  · exact congrArg Host.Outcome.next
      (State.seatCommand_refused h (State.writeSupplySetting_barred (s := s.later f.dt) barred))
  · exact congrArg Host.Outcome.next
      (State.seatCommand_refused h (State.writeRetention_barred (s := s.later f.dt) barred))
  · have rests : s.anyHoldsOrWaits = false := by
      rw [Bool.eq_false_iff, ne_eq, s.anyHoldsOrWaits_iff]
      exact fun ⟨k, awake, unsettled⟩ => (resting k).elim awake unsettled
    exact (exec_writeDeviceSetting_slots h granted rests (s.settings.write_slots v.toNat) :)
  · exact congrArg Host.Outcome.next (State.seatCommand_refused h
      (State.writeSupplySetting_busy (s := s.later f.dt) granted (s.anyHoldsOrWaits_iff.mpr busy)))
  · exact (exec_writeDeviceSetting h granted (x := .vLow) (by decide) (s.settings.write_vLow v.toNat) :)
  · exact (exec_writeDeviceSetting h granted (x := .vResume) (by decide)
      (s.settings.write_vResume v.toNat high) :)
  · exact (exec_writeDeviceSetting h granted (x := .vMin) (by decide)
      (s.settings.write_vMin v.toNat low) :)
  · exact congrArg Host.Outcome.next
      (State.seatCommand_answered h (State.writeRetention_granted (s := s.later f.dt) granted))

end Sys2Proof.Machine
end

section
/-! PROOFS. MOVE with unpark pending: the arrival waits, and the unpark wait begins (R118, R158): O38. -/
namespace Sys2Proof.Machine

/-- With unpark pending a grant test with a slot free makes no grant: the unpark wait begins, if it has not (R118). -/
theorem State.grantTest_pending {s : State} {e : QueueEntry} {rest : List QueueEntry} (queue : s.arbiter.queue = e :: rest)
    (free : s.arbiter.heldCount < s.arbiter.effective) (pending : s.arbiter.unparkPending = true) :
    s.grantTest = s.askUnpark := by
  rw [State.grantTest, queue]
  exact (State.grantLoop_cons _ queue).trans ((if_pos free).trans (if_pos pending))

theorem State.askUnpark_begun {s : State} (begun : s.arbiter.unparkWait ≠ .none) : s.askUnpark = s := by
  cases wait : s.arbiter.unparkWait with
  | none => exact absurd wait begun
  | waitingForStore | writing => simp only [State.askUnpark, wait]

/-- A MOVE at an IDLE context that finds a slot free, nothing waiting and unpark pending: the closure waits alone, and the
unpark wait begins, if it has not (R88, R118). -/
theorem exec_move_pending {f : SeatFrame} {s u : State} {k : ClosureId} {m : Move} (h : s.Awake) (seat : m.seat = f.seat)
    (target : m.target = none) (passes : s.moveRefusal k m = none) (idle : s.closures[k].ctx.state = .idle)
    (empty : s.arbiter.queue = []) (free : s.arbiter.heldCount < s.arbiter.effective)
    (pending : s.arbiter.unparkPending = true)
    (asks : ((s.later f.dt).waiting k s.closures[k] m [{ closure := k, arrival := 1 }] 1).askUnpark = u.later f.dt) :
    exec (.move f (moveArgs k m)) s = .next (u.answered f 0x10 4 .accepted [byteOf k.val, 0x7F, 0xFF, 0]) := by
  have within : ∀ p, m.target = some p → 0 ≤ p ∧ p ≤ s.closures[k].desc.travel ∧ p < 32767 := by
    rw [target]
    exact nofun
  have joined : (s.later f.dt).enqueue k m =
      (s.later f.dt).waiting k s.closures[k] m [{ closure := k, arrival := 1 }] 1 := by
    have joined := (s.later f.dt).enqueue_eq k s.closures[k] m
    have number : (s.later f.dt).arbiter.nextNumber = 1 := if_pos empty
    rw [number, State.later_arbiter, empty] at joined
    rw [← State.later_closures s f.dt, State.withClosure_present] at joined
    exact joined
  have waits : ((s.later f.dt).enqueue k m).grantTest = u.later f.dt := by
    rw [joined]
    exact (State.grantTest_pending (s := (s.later f.dt).waiting k _ m _ 1) rfl free pending).trans asks
  have taken := (State.submit_within (s := s.later f.dt) within passes).trans (State.takeMove_idle idle)
  rw [waits] at taken
  have answered := exec_move_taken h seat (Move.range_of_within within) taken
  rw [moveArgs, target] at answered ⊢
  exact answered

/-- Settles O38: the arrival waits, and the unpark wait begins as the store allows. -/
theorem moveWaitsForUnpark : Obligations.MoveWaitsForUnpark := by
  rintro ⟨dt, seat, fin⟩ s k m h rfl target passes idle empty free pending waits
  have answered := fun u => exec_move_pending (f := ⟨dt, m.seat, fin⟩) (u := u) h rfl target passes idle empty free pending
  refine ⟨fun none idle => answered _ ?_, fun n park captured none busy => answered _ ?_, fun begun => answered _ ?_⟩
  · exact State.askUnpark_idle _ none idle
  · exact State.askUnpark_committing _ none busy
  · exact State.askUnpark_begun begun

end Sys2Proof.Machine
end

section
/-! PROOFS. The end of the start-up load, with the notices that fell due in it (R106, R117, R130, R158, R161), and a loss of
power (R155, R157): O60. -/
namespace Sys2Proof.Machine

/-! Due notices (R130). -/

/-- The notice that a seat with a subscription mask gets of one that fell due in the load, at the load's end (R130). -/
def DueNotice.noticeFor (subscription : Byte) (now : Nat) : DueNotice → Option Notice
  | .movedUndriven k => if hasMember subscription k.val = true then some { body := .movedUndriven k, time := now } else none
  | .supplyLowEntered mV => some { body := .supplyLowEntered mV, time := now }
  | .supplyRecovered mV => some { body := .supplyRecovered mV, time := now }

theorem State.postTo_posts {u : State} {chosen : SeatId → Bool} {body : NoticeBody} {n : SeatId} (h : chosen n = true) :
    (u.postTo chosen body).seats[n] = u.seats[n].post u.now { body := body, time := u.now } := by
  simp [h]

section
variable (u : State) (x : DueNotice)

theorem State.sameOutside_postDue : u.SameOutside (u.postDue x) := by
  cases x with
  | movedUndriven k => exact u.sameOutside_movedUndriven k
  | supplyLowEntered mV | supplyRecovered mV => exact u.sameOutside_postTo _ _

theorem State.postDue_closures : (u.postDue x).closures = u.closures := by
  cases x with
  | movedUndriven k => exact u.movedUndriven_closures k
  | supplyLowEntered mV | supplyRecovered mV => rfl

/-- A due notice meets the queue of each seat that it is for (R130, R131). -/
theorem State.postDue_seat (n : SeatId) : (u.postDue x).seats[n] =
    match x.noticeFor u.seats[n].record.subscription u.now with
    | some y => u.seats[n].post u.now y
    | none => u.seats[n] := by
  cases x with
  | movedUndriven k =>
    rw [State.postDue, State.movedUndriven_seats, DueNotice.noticeFor]
    by_cases hears : hasMember u.seats[n].record.subscription k.val = true
    · rw [if_pos hears]
      exact State.postTo_posts hears
    · rw [if_neg hears]
      exact State.postTo_other _ _ (Bool.eq_false_iff.mpr hears)
  | supplyLowEntered mV | supplyRecovered mV => exact State.postTo_posts rfl

/-- Only an undriven burst asks for the unpark write, with unpark pending and no wait begun (R158). -/
theorem State.postDue_quiet
    (quiet : u.arbiter.unparkPending = false ∨ (∀ k, x ≠ .movedUndriven k) ∨ u.arbiter.unparkWait ≠ .none) :
    (u.postDue x).arbiter = u.arbiter ∧ (u.postDue x).store = u.store := by
  cases x with
  | movedUndriven k =>
    have quiet : u.arbiter.unparkPending = false ∨ u.arbiter.unparkWait ≠ .none := by simpa using quiet
    obtain ⟨-, kept, -⟩ := u.movedUndriven_spec k
    exact kept quiet
  | supplyLowEntered mV | supplyRecovered mV => exact ⟨rfl, rfl⟩

end

/-! The due notices in their order. -/

section
variable {u : State} {l : List DueNotice}

theorem State.foldl_postDue_outside : u.SameOutside (l.foldl State.postDue u) := by
  induction l generalizing u with
  | nil => exact .refl u
  | cons x rest ih => exact (u.sameOutside_postDue x).trans ih

theorem State.foldl_postDue_closures : (l.foldl State.postDue u).closures = u.closures := by
  induction l generalizing u with
  | nil => rfl
  | cons x rest ih => exact ih.trans (u.postDue_closures x)

theorem State.foldl_postDue_seat (n : SeatId) : (l.foldl State.postDue u).seats[n] =
    (l.filterMap (DueNotice.noticeFor u.seats[n].record.subscription u.now)).foldl (fun q y => q.post u.now y)
      u.seats[n] := by
  induction l generalizing u with
  | nil => rfl
  | cons x rest ih =>
    have posted := u.postDue_seat x n
    have now := (u.sameOutside_postDue x).now
    rw [List.foldl_cons, ih, now, posted, List.filterMap_cons]
    cases x.noticeFor u.seats[n].record.subscription u.now with
    | none => rfl
    | some y =>
      dsimp only
      rw [SeatState.post_record]
      rfl

/-- A queue with room for them takes several notices at its end, in their order (R131). -/
theorem SeatState.foldl_post_room {now : Nat} {n : SeatState} {l : List Notice} (room : n.queue.length + l.length ≤ 16) :
    (l.foldl (fun q y => q.post now y) n).queue = n.queue ++ l := by
  induction l generalizing n with
  | nil => exact (List.append_nil _).symm
  | cons y rest ih =>
    rw [List.length_cons] at room
    have placed := (n.post_room now y (by omega)).1
    rw [List.foldl_cons, ih (by rw [placed, List.length_append, List.length_singleton]; omega), placed,
      List.append_assoc, List.singleton_append]

theorem State.foldl_postDue_quiet (quiet : u.arbiter.unparkPending = false ∨ (∀ k, DueNotice.movedUndriven k ∉ l) ∨
      u.arbiter.unparkWait ≠ .none) :
    (l.foldl State.postDue u).arbiter = u.arbiter ∧ (l.foldl State.postDue u).store = u.store := by
  induction l generalizing u with
  | nil => exact ⟨rfl, rfl⟩
  | cons x rest ih =>
    obtain ⟨arbiter, store⟩ := u.postDue_quiet x
      (quiet.imp_right (.imp_left fun none k same => none k (same ▸ List.mem_cons_self)))
    have later := ih (u := u.postDue x)
      (arbiter.symm ▸ quiet.imp_right (.imp_left fun none k waits => none k (List.mem_cons_of_mem x waits)))
    rwa [arbiter, store] at later

/-- The first undriven burst among them begins the unpark write (R158). -/
theorem State.foldl_postDue_asks (pending : u.arbiter.unparkPending = true) (wait : u.arbiter.unparkWait = .none)
    (job : u.store.job = .idle) (moved : ∃ k, DueNotice.movedUndriven k ∈ l) :
    (l.foldl State.postDue u).arbiter = { u.arbiter with unparkWait := .writing } ∧
    (l.foldl State.postDue u).store =
      { u.store with job := .unparking, image := { u.store.image with valid := false } } := by
  induction l generalizing u with
  | nil => exact absurd moved (by simp)
  | cons x rest ih =>
    by_cases burst : ∃ k, x = .movedUndriven k
    · obtain ⟨k, rfl⟩ := burst
      obtain ⟨-, -, asks⟩ := u.movedUndriven_spec k
      obtain ⟨arbiter, store⟩ := (asks pending wait).1 job
      obtain ⟨arbiter', store'⟩ := State.foldl_postDue_quiet (u := u.postDue (.movedUndriven k)) (l := rest)
        (.inr (.inr (by rw [State.postDue, arbiter]; exact nofun)))
      exact ⟨arbiter'.trans arbiter, store'.trans store⟩
    · obtain ⟨arbiter, store⟩ := u.postDue_quiet x (.inr (.inl (not_exists.mp burst)))
      have later := ih (u := u.postDue x) (by rw [arbiter, pending]) (by rw [arbiter, wait]) (by rw [store, job]) <| by
        obtain ⟨k, waits⟩ := moved
        exact ⟨k, (List.mem_cons.mp waits).resolve_left fun same => burst ⟨k, same.symm⟩⟩
      rwa [arbiter, store] at later

end

/-! The end of the load (R161). -/

/-- The part has taken its addresses, with unpark pending as the image's markers say (R117, R161). -/
def State.loaded (s : State) : State :=
  { s with
    loading := false
    deferred := []
    arbiter := { s.arbiter with unparkPending := s.store.image.valid && s.store.image.parked } }

theorem exec_startUpLoadEnd {s : State} {dt : Nat} (h : s.Attentive) (loading : s.loading = true) :
    exec (.startUpLoadEnd dt) s = .next (s.deferred.foldl State.postDue (s.later dt).loaded) :=
  congrArg Host.Outcome.next (State.onEvent_eq h (if_pos loading) State.foldl_postDue_outside.link)

/-- A loss of power is a start-up load that nothing ends, without power (R155, R157; log entry 7). -/
theorem exec_powerLoss {s : State} (dt : Nat) (powered : s.powered = true) :
    ∃ counters, exec (.powerLoss dt) s =
      .next { (s.advance dt).cutStore.startUp 0 counters with powered := false, loading := false } := by
  have still : (s.advance dt).cutStore.powered = true := by
    unfold State.cutStore
    split <;> exact powered
  refine ⟨(s.advance dt).cutStore.coldCounters 0 0, congrArg Host.Outcome.next (if_neg ?_)⟩
  rw [still]
  decide

/-- Settles O60: the end of the load posts the due notices one after another; a loss of power loads what the cut store
leaves. -/
theorem loadEndAndPowerLoss : Obligations.LoadEndAndPowerLoss := by
  refine fun dt s => ⟨fun h loading none => ?_, fun h loading => ?_, fun powered => ?_⟩
  · refine (exec_startUpLoadEnd h loading).trans ?_
    simp [State.loaded, none]
  · intro pending moved due
    have outside := State.foldl_postDue_outside (u := (s.later dt).loaded) (l := s.deferred)
    refine ⟨_, exec_startUpLoadEnd h loading, outside.loading, outside.deferred, State.foldl_postDue_closures,
      fun n => ?_, fun quiet => ?_, fun pending moved wait job => ?_⟩
    · have seat := State.foldl_postDue_seat (u := (s.later dt).loaded) (l := s.deferred) n
      have same : s.deferred.filterMap (DueNotice.noticeFor s.seats[n].record.subscription (s.now + dt)) = due n :=
        List.filterMap_congr fun x _ => by cases x <;> rfl
      refine ⟨fun room => ?_, fun none => ?_⟩
      · rw [seat, ← same]
        exact SeatState.foldl_post_room (same ▸ room)
      · rw [seat]
        exact congrArg (List.foldl _ _) (same.trans none)
    · exact State.foldl_postDue_quiet (u := (s.later dt).loaded) (quiet.imp_right (.imp_left not_exists.mp))
    · obtain ⟨arbiter, store⟩ := State.foldl_postDue_asks (u := (s.later dt).loaded) pending wait job moved
      refine ⟨arbiter.trans ?_, store⟩
      rw [← pending]
      rfl
  · obtain ⟨counters, lost⟩ := exec_powerLoss dt powered
    obtain ⟨-, idle, busy, -, -, -, -, seats⟩ := (s.advance dt).startUp_loaded 0 counters
    refine ⟨_, lost, rfl, fun k => ?_, fun n => ?_, idle, busy⟩
    · exact congrArg (·.ctx.permit) ((State.startUp_closures _ 0 counters k).trans (Image.closure_eq _ k _))
    · obtain ⟨-, -, line, -⟩ := seats n
      exact line

end Sys2Proof.Machine
end

section
/-! PROOFS. Grant order in the slot queue (R110): what an insertion keeps, and `State.Ordered`, the law of the slot queue as
the operations on it keep it, with the motion that follows an arrival, a grant, an end and a removal. -/
namespace Sys2Proof.Machine

/-! Insertion. -/

/-- Grant order: by class, within a class by arrival number (R110). -/
abbrev State.Before (s : State) (x y : QueueEntry) : Prop :=
  s.classOf x.closure < s.classOf y.closure ∨
  (s.classOf x.closure = s.classOf y.closure ∧ x.arrival < y.arrival)

section
variable {s t : State} {x y z e : QueueEntry} {q : List QueueEntry}

theorem State.Before.trans (h : s.Before x y) (g : s.Before y z) : s.Before x z := by
  unfold State.Before at *
  omega

/-- Entries with distinct arrival numbers stand in one order or the other. -/
theorem State.before_of_not_before (apart : x.arrival ≠ y.arrival) (h : ¬ s.Before y x) : s.Before x y := by
  unfold State.Before at *
  omega

theorem State.insertEntry_perm (s : State) (e : QueueEntry) (q : List QueueEntry) : (s.insertEntry e q).Perm (e :: q) := by
  induction q with
  | nil => exact .refl _
  | cons x rest ih =>
    unfold State.insertEntry
    split
    · exact .refl _
    · exact (ih.cons x).trans (.swap e x rest)

/-- An entry with a fresh arrival number takes its place in grant order (R110). -/
theorem State.insertEntry_pairwise (order : q.Pairwise s.Before) (fresh : ∀ x ∈ q, x.arrival ≠ e.arrival) :
    (s.insertEntry e q).Pairwise s.Before := by
  induction q with
  | nil => exact List.pairwise_singleton _ _
  | cons x rest ih =>
    obtain ⟨first, sorted⟩ := List.pairwise_cons.mp order
    unfold State.insertEntry
    split
    · rename_i before
      have before : s.Before e x := before
      refine List.pairwise_cons.mpr ⟨fun y hy => ?_, order⟩
      rcases List.mem_cons.mp hy with rfl | later
      · exact before
      · exact before.trans (first y later)
    · rename_i after
      have after : s.Before x e := State.before_of_not_before (fresh x List.mem_cons_self) after
      refine List.pairwise_cons.mpr
        ⟨fun y hy => ?_, ih sorted fun y hy => fresh y (List.mem_cons_of_mem x hy)⟩
      rcases List.mem_cons.mp ((s.insertEntry_perm e rest).mem_iff.mp hy) with rfl | later
      · exact after
      · exact first y later

end

/-! The law. -/

/-- A closure waits for a slot: QUEUED, with a move (R84). -/
abbrev ClosureState.Waits (c : ClosureState) : Prop := c.ctx.state = .queued ∧ c.ctx.move.isSome = true

/-- What the slot queue knows of a closure in it: that it waits, and its class of grant. -/
def ClosureState.turn (c : ClosureState) : CtxState × Option Move := (c.ctx.state, c.ctx.move)

/-- The slot queue is in grant order, as `State.QueueLaw` says, and every closure in it waits. Closures that wait out of
the queue, ahead of their removal (log entry 14), do not touch it. -/
structure State.Ordered (s : State) : Prop where
  waits : ∀ e ∈ s.arbiter.queue, s.closures[e.closure].Waits
  law : s.QueueLaw

theorem State.ordered_of_laws {s : State} (motion : s.MotionLaw) (law : s.QueueLaw) : s.Ordered := by
  obtain ⟨-, owners, ⟨slots, -⟩, -⟩ := motion
  refine ⟨fun e he => ?_, law⟩
  have queued := (slots e.closure).2.mp (List.mem_map.mpr ⟨e, he, rfl⟩)
  exact ⟨queued, (owners e.closure).1.mpr (by rw [queued]; decide)⟩

section
variable {s t : State}

theorem State.ordered_nil (empty : s.arbiter.queue = []) : s.Ordered := by
  refine ⟨?_, ?_, ?_, ?_⟩ <;> rw [empty]
  · exact nofun
  · exact .nil
  · exact .nil
  · exact nofun

/-! Updates. -/

theorem State.Ordered.fresh (h : s.Ordered) : ∀ x ∈ s.arbiter.queue, x.arrival ≤ s.arbiter.lastArrival := by
  obtain ⟨-, -, bound⟩ := h.law
  exact bound

/-- Entries may leave the slot queue, and closures outside it may change. -/
theorem State.Ordered.shrink (h : s.Ordered) (queue : t.arbiter.queue.Sublist s.arbiter.queue)
    (last : t.arbiter.lastArrival = s.arbiter.lastArrival)
    (turns : ∀ e ∈ t.arbiter.queue, t.closures[e.closure].turn = s.closures[e.closure].turn) : t.Ordered := by
  obtain ⟨waits, order, once, bound⟩ := h
  have same : ∀ e ∈ t.arbiter.queue, t.closures[e.closure].ctx.state = s.closures[e.closure].ctx.state ∧
      t.closures[e.closure].ctx.move = s.closures[e.closure].ctx.move := fun e he => Prod.mk.inj (turns e he)
  have classes : ∀ e ∈ t.arbiter.queue, t.classOf e.closure = s.classOf e.closure := fun e he => by
    simp only [State.classOf, (same e he).2]
  refine ⟨fun e he => ?_, (order.sublist queue).imp_of_mem fun {x y} hx hy before => ?_, once.sublist (queue.map _),
    fun e he => ?_⟩
  · rw [ClosureState.Waits, (same e he).1, (same e he).2]
    exact waits e (queue.subset he)
  · rwa [classes x hx, classes y hy]
  · rw [last]
    exact bound e (queue.subset he)

/-- What the law knows of a state. -/
def State.line (s : State) : Vector (CtxState × Option Move) 8 × List QueueEntry × Nat :=
  (s.closures.map ClosureState.turn, s.arbiter.queue, s.arbiter.lastArrival)

theorem State.Ordered.congr (h : s.Ordered) (same : t.line = s.line) : t.Ordered := by
  simp only [State.line, Prod.mk.injEq] at same
  obtain ⟨turns, queue, last⟩ := same
  exact h.shrink (by rw [queue]) last fun e _ => by simpa using congrArg (fun v => v[e.closure]) turns

/-- One closure changes; if it waits, its turn is as it was. -/
theorem State.Ordered.modClosure (h : s.Ordered) (k : ClosureId) (f : ClosureState → ClosureState)
    (keeps : s.closures[k].Waits → (f s.closures[k]).turn = s.closures[k].turn) : (s.modClosure k f).Ordered := by
  refine h.shrink (.refl _) rfl fun e he => ?_
  by_cases same : e.closure = k
  · subst same
    rw [State.modClosure_self]
    exact keeps (h.waits e he)
  · rw [State.modClosure_other s f same]

/-- One closure changes, its turn as it was. -/
theorem State.Ordered.still (h : s.Ordered) (k : ClosureId) (f : ClosureState → ClosureState)
    (same : ∀ c : ClosureState, (f c).turn = c.turn := by exact fun _ => rfl) : (s.modClosure k f).Ordered :=
  h.modClosure k f fun _ => same _

/-- A closure that does not wait changes. -/
theorem State.Ordered.modBusy (h : s.Ordered) (k : ClosureId) (f : ClosureState → ClosureState)
    (busy : s.closures[k].ctx.state ≠ .queued) : (s.modClosure k f).Ordered :=
  h.modClosure k f fun waits => absurd waits.1 busy

theorem State.Ordered.modCounter (h : s.Ordered) (k : ClosureId) (f : Counter → Counter) : (s.modCounter k f).Ordered :=
  h.still k _

theorem State.Ordered.modVerdict (h : s.Ordered) (k : ClosureId) (f : Verdict → Verdict) : (s.modVerdict k f).Ordered :=
  h.still k _

/-- A context keeps its state and its move. -/
theorem State.Ordered.modCtx (h : s.Ordered) (k : ClosureId) (f : Context → Context)
    (same : ∀ x, (f x).state = x.state ∧ (f x).move = x.move := by exact fun _ => ⟨rfl, rfl⟩) : (s.modCtx k f).Ordered :=
  h.still k _ fun c => by simp only [ClosureState.turn, same]

theorem State.Ordered.mapClosures (h : s.Ordered) (f : ClosureId → ClosureState → ClosureState)
    (same : ∀ k (c : ClosureState), (f k c).turn = c.turn := by exact fun _ _ => rfl) : (s.mapClosures f).Ordered := by
  refine h.shrink (.refl _) rfl fun e _ => ?_
  have image : (s.mapClosures f).closures[e.closure] = f e.closure s.closures[e.closure] := by simp
  rw [image, same]

theorem State.Ordered.modSeat (h : s.Ordered) (n : SeatId) (f : SeatState → SeatState) : (s.modSeat n f).Ordered :=
  h.congr rfl

theorem State.Ordered.modLink (h : s.Ordered) (f : Link → Link) : (s.modLink f).Ordered := h.congr rfl

theorem State.Ordered.postTo (h : s.Ordered) (p : SeatId → Bool) (b : NoticeBody) : (s.postTo p b).Ordered := h.congr rfl

theorem State.Ordered.modArbiter (h : s.Ordered) (f : Arbiter → Arbiter)
    (same : ∀ a, (f a).queue = a.queue ∧ (f a).lastArrival = a.lastArrival := by exact fun _ => ⟨rfl, rfl⟩) :
    (s.modArbiter f).Ordered :=
  h.congr (by simp only [State.line, State.modArbiter, same])

theorem State.Ordered.foldl {α : Type} (h : s.Ordered) (f : State → α → State)
    (hf : ∀ t a, t.Ordered → (f t a).Ordered) (l : List α) : (l.foldl f s).Ordered := by
  induction l generalizing s with
  | nil => exact h
  | cons a rest ih => exact ih (hf s a h)

theorem State.Ordered.ite {p : Prop} [Decidable p] (hs : s.Ordered) (ht : t.Ordered) : (if p then s else t).Ordered := by
  split
  · exact hs
  · exact ht

theorem State.Ordered.accept (h : s.Ordered) (items : List Byte) : (s.accept items).state.Ordered := h

theorem State.Ordered.placed {a : Answer} (h : a.state.Ordered) (n : SeatId) (code : Byte) : (a.placed n code).Ordered :=
  h.congr rfl

/-! Departures and arrivals (R110). -/

/-- A closure that leaves the slot queue may change. -/
theorem State.Ordered.leave (h : s.Ordered) (k : ClosureId) (queue : t.arbiter.queue = (s.leaveQueue k).arbiter.queue)
    (last : t.arbiter.lastArrival = s.arbiter.lastArrival)
    (others : ∀ j : ClosureId, j ≠ k → t.closures[j].turn = s.closures[j].turn) : t.Ordered := by
  refine h.shrink ?_ last fun e he => others _ ?_
  · rw [queue]
    exact List.filter_sublist
  · rw [queue] at he
    exact of_decide_eq_true (List.mem_filter.mp he).2

theorem State.Ordered.leaveQueue (h : s.Ordered) (k : ClosureId) : (s.leaveQueue k).Ordered :=
  h.leave k rfl rfl fun _ _ => rfl

/-- A closure that waits joins the slot queue with a fresh arrival number, and the last number given bounds them all. -/
theorem State.Ordered.join (h : s.Ordered) {e : QueueEntry} {last : Nat} (waits : s.closures[e.closure].Waits)
    (fresh : ∀ x ∈ s.arbiter.queue, x.arrival ≠ e.arrival) (given : e.arrival ≤ last)
    (bound : ∀ x ∈ s.arbiter.queue, x.arrival ≤ last) :
    (s.modArbiter fun a => { a with queue := s.insertEntry e a.queue, lastArrival := last }).Ordered := by
  obtain ⟨waiting, order, once, -⟩ := h
  have joined := s.insertEntry_perm e s.arbiter.queue
  refine ⟨fun x hx => ?_, State.insertEntry_pairwise order fresh, ?_, fun x hx => ?_⟩
  · rcases List.mem_cons.mp (joined.mem_iff.mp hx) with rfl | earlier
    · exact waits
    · exact waiting x earlier
  · refine (joined.map _).nodup_iff.mpr (List.nodup_cons.mpr ⟨fun given => ?_, once⟩)
    obtain ⟨x, hx, same⟩ := List.mem_map.mp given
    exact fresh x hx same
  · rcases List.mem_cons.mp (joined.mem_iff.mp hx) with rfl | earlier
    · exact given
    · exact bound x earlier

/-- A closure that waits arrives with the next number (R110). -/
theorem State.Ordered.arrive (h : s.Ordered) {k : ClosureId} (waits : s.closures[k].Waits) : (s.arrive k).Ordered := by
  have bound := h.fresh
  unfold State.arrive
  split
  · rename_i empty
    rw [List.isEmpty_iff.mp empty] at bound
    refine h.join (e := { closure := k, arrival := 1 }) waits ?_ le_rfl ?_ <;>
      rw [List.isEmpty_iff.mp empty] <;> exact nofun
  · refine h.join (e := { closure := k, arrival := s.arbiter.lastArrival + 1 }) waits (fun x hx => ?_) le_rfl fun x hx => ?_
    · exact Nat.ne_of_lt (Nat.lt_succ_of_le (bound x hx))
    · exact Nat.le_succ_of_le (bound x hx)

/-- A closure that does not wait arrives with a move (R88). -/
theorem State.Ordered.enqueue (h : s.Ordered) (k : ClosureId) (m : Move) (rests : ¬ s.closures[k].Waits) :
    (s.enqueue k m).Ordered := by
  have queued : (s.modCtx k fun _ => queuedContext s.now s.seats[m.seat].record.holdUnits m).Ordered :=
    h.modClosure k _ fun waits => absurd waits rests
  refine queued.arrive ?_
  rw [State.modCtx_self]
  exact ⟨rfl, rfl⟩

/-- A move that waits is replaced in place, and takes the place that its class and its kept number give, if it is in the
slot queue (R110). -/
theorem State.Ordered.replaceInQueue (h : s.Ordered) (k : ClosureId) (f : Context → Context)
    (waits : (f s.closures[k].ctx).state = .queued ∧ (f s.closures[k].ctx).move.isSome = true) :
    ((s.modCtx k f).replaceInQueue k).Ordered := by
  have others : ∀ j : ClosureId, j ≠ k → (s.modCtx k f).closures[j].turn = s.closures[j].turn := fun j hj => by
    rw [State.modCtx, State.modClosure_other _ _ hj]
  unfold State.replaceInQueue
  split
  · rename_i e found
    obtain rfl : e.closure = k := of_decide_eq_true (List.find?_some found :)
    have left : ((s.modCtx e.closure f).leaveQueue e.closure).Ordered := h.leave _ rfl rfl others
    have member : e ∈ s.arbiter.queue := List.mem_of_find?_eq_some found
    obtain ⟨-, -, once, bound⟩ := h
    refine left.join ?_ (fun x hx => ?_) (bound e member) left.fresh
    · have self : ((s.modCtx e.closure f).leaveQueue e.closure).closures[e.closure].ctx = f s.closures[e.closure].ctx :=
        congrArg (·.ctx) (s.modCtx_self e.closure f)
      rw [ClosureState.Waits, self]
      exact waits
    · obtain ⟨waiting, apart⟩ := List.mem_filter.mp hx
      refine fun same => of_decide_eq_true apart (congrArg _ ?_)
      exact List.inj_on_of_nodup_map once waiting member same
  · rename_i absent
    refine h.leave k ?_ rfl others
    have absent := List.find?_eq_none.mp absent
    exact (List.filter_eq_self.mpr fun e he => by simpa using absent e he).symm

/-! Grants, ends and removals (R92, R102, R104, R111). -/

theorem State.grant_lastArrival (s : State) (k : ClosureId) : (s.grant k).arbiter.lastArrival = s.arbiter.lastArrival := by
  unfold State.grant
  dsimp only
  split
  · rfl
  · split <;> rfl

theorem State.Ordered.grant (h : s.Ordered) (k : ClosureId) : (s.grant k).Ordered :=
  h.leave k (s.grant_queue k) (s.grant_lastArrival k) fun _ hj => by rw [State.grant_other s hj]

theorem State.Ordered.askUnpark (h : s.Ordered) : s.askUnpark.Ordered := by
  refine h.congr ?_
  unfold State.askUnpark
  split <;> rfl

theorem State.Ordered.grantLoop (fuel : Nat) (h : s.Ordered) : (s.grantLoop fuel).Ordered := by
  induction fuel generalizing s with
  | zero => exact h
  | succ n ih =>
    unfold State.grantLoop
    split
    · exact h
    · split
      · split
        · exact h.askUnpark
        · split
          · exact ih (h.grant _)
          · exact h
      · exact h

theorem State.Ordered.grantTest (h : s.Ordered) : s.grantTest.Ordered := h.grantLoop _

/-- A granted move ends (R102, R107, R111). -/
theorem State.Ordered.endMove (h : s.Ordered) (k : ClosureId) (r : EndReason) (w : Option SeatId)
    (granted : s.closures[k].ctx.state.Granted) : (s.endMove k r w).Ordered := by
  have settled : (s.settle k r w).Ordered := (h.modBusy k (ClosureState.settle s.now r w) granted.2).congr rfl
  exact settled.grantTest

/-- A granted move ends after a change of its closure that leaves its context. -/
theorem State.Ordered.endMove_after (h : s.Ordered) (k : ClosureId) (r : EndReason) (w : Option SeatId)
    (f : ClosureState → ClosureState) (granted : s.closures[k].ctx.state.Granted)
    (same : (f s.closures[k]).ctx = s.closures[k].ctx) : ((s.modClosure k f).endMove k r w).Ordered := by
  refine (h.modBusy k f granted.2).endMove k r w ?_
  rwa [State.modClosure_self, same]

/-- The granted moves of several closures end, one after another (log entry 14). -/
theorem State.Ordered.endMoves (h : s.Ordered) (l : List ClosureId) (r : EndReason) (w : Option SeatId)
    (granted : ∀ k ∈ l, s.closures[k].ctx.state.Granted) : (l.foldl (fun t k => t.endMove k r w) s).Ordered := by
  induction l generalizing s with
  | nil => exact h
  | cons k rest ih =>
    refine ih (h.endMove k r w (granted k List.mem_cons_self)) fun j hj => ?_
    exact State.endMove_granted k r w (granted j (List.mem_cons_of_mem k hj))

theorem State.Ordered.remove (h : s.Ordered) (k : ClosureId) (r : EndReason) (w : Option SeatId) :
    (s.remove k r w).Ordered := by
  cases hm : s.closures[k].ctx.move with
  | none => simpa only [State.remove, hm] using h
  | some m =>
    obtain ⟨closures, arbiter, -⟩ := State.remove_removed r w hm
    refine h.leave k (congrArg Arbiter.queue arbiter) (by rw [arbiter]; rfl) fun j hj => ?_
    have other := s.withClosure_other (s.closures[k].removedAt k m r w s.front.reading) hj
    simp only [closures]
    exact congrArg ClosureState.turn other

end

end Sys2Proof.Machine
end

section
/-! PROOFS. `State.Ordered` for the rest of the motion operations, the events of the travel counters and the timers, and the
motion commands. -/
namespace Sys2Proof.Machine

section
variable {s : State}

/-! Follow-ons (R91, R95, R98). -/

theorem State.Ordered.dropFollowOn (h : s.Ordered) (k : ClosureId) (c : DropCause) : (s.dropFollowOn k c).Ordered := by
  unfold State.dropFollowOn
  split
  · exact h
  · exact (h.modCtx k _).postTo _ _

theorem State.Ordered.storeFollowOn (h : s.Ordered) (k : ClosureId) (m : Move) : (s.storeFollowOn k m).Ordered :=
  (h.dropFollowOn k .superseded).modCtx k _

/-! Loss of position (R15, R101). -/

theorem State.Ordered.losePosition (h : s.Ordered) (k : ClosureId) : (s.losePosition k).Ordered := by
  have lost := h.modCounter k fun x => { x with validity := .lost }
  unfold State.losePosition
  dsimp only
  split
  · exact h
  · split
    · exact lost
    · split
      · split
        · exact h.endMove_after _ _ _ _ (CtxState.granted_of_running ‹_›) rfl
        · exact h.endMove_after _ _ _ _ (CtxState.granted_of_reversing ‹_›) rfl
        · exact lost.remove _ _ _
        · exact lost
        · exact lost
      · exact lost

/-! Verdicts, reversals and steps (R12, R61 to R67, R72, R76). -/

theorem State.Ordered.recordAt (h : s.Ordered) (k : ClosureId) (c : VerdictCause) (p : Int) (l t : Nat) :
    (s.recordAt k c p l t).1.Ordered := by
  unfold State.recordAt
  split
  · exact h
  · exact h.congr rfl

theorem State.Ordered.startReversal (h : s.Ordered) (k : ClosureId) (m : Move) (r : VerdictRecord)
    (running : s.closures[k].ctx.state = .running) : (s.startReversal k m r).Ordered := by
  refine ((h.still k (ClosureState.fillRecord r)).postTo _ _).modBusy k _ ?_
  have told : ((s.modClosure k (ClosureState.fillRecord r)).postOwner k m.seat (.pinch k r)).closures[k].ctx.state =
      .running := (congrArg (·.ctx.state) (s.modClosure_self k _)).trans running
  exact fun queued => nomatch told.symm.trans queued

theorem State.Ordered.loadVerdict (h : s.Ordered) (k : ClosureId) (p : Int) (l t : Nat) :
    (s.loadVerdict k p l t).Ordered := by
  have recorded := h.recordAt k .load p l t
  unfold State.loadVerdict
  dsimp only
  split
  · exact h.endMove _ _ _ (CtxState.granted_of_reversing ‹_›)
  · rename_i running _
    rw [← s.recordAt_closures k .load p l t] at running
    split
    · exact recorded.startReversal _ _ _ running
    · exact recorded.endMove_after _ _ _ _ (CtxState.granted_of_running running) rfl
  · exact h

theorem State.Ordered.judgeStep (h : s.Ordered) (k : ClosureId) (d : Direction) (path : Path) (p : Int) (l : Nat) :
    (s.judgeStep k d path p l).Ordered := by
  have applied := h.modVerdict k fun v => { v with lastThreshold := s.threshold k d path p }
  unfold State.judgeStep
  dsimp only
  split
  · split
    · split
      · exact (applied.modVerdict k _).loadVerdict _ _ _ _
      · exact applied.modVerdict k _
    · exact applied.modVerdict k _
  · exact h.modVerdict k _

theorem State.Ordered.stepCompleted (h : s.Ordered) (k : ClosureId) (d : Direction) (period : Nat) :
    (s.stepCompleted k d period).Ordered := by
  have reopened := h.still k fun x => { x with sense := x.sense.open_ }
  unfold State.stepCompleted
  dsimp only
  split
  · split
    · exact (reopened.still k _).still k _
    · exact ((reopened.still k _).still k _).judgeStep _ _ _ _ _
  · exact reopened

theorem State.Ordered.endBrake (h : s.Ordered) (k : ClosureId) (reversing : s.closures[k].ctx.state = .reversing) :
    (s.endBrake k).Ordered :=
  (h.endMove _ _ _ (CtxState.granted_of_reversing reversing)).ite ((h.modVerdict k _).still k _)

/-! Stalls (R68 to R70). -/

theorem State.Ordered.classifyStall (h : s.Ordered) (k : ClosureId) : (s.classifyStall k).Ordered := by
  unfold State.classifyStall
  dsimp only
  split
  · rename_i m running _
    have granted := CtxState.granted_of_running running
    split
    · split
      · exact h.endMove_after _ _ _ _ granted (ClosureState.closedEnd_ctx _ _)
      · exact (h.recordAt _ _ _ _ _).startReversal _ _ _ (by rwa [State.recordAt_closures])
    · exact h.endMove _ _ _ granted
  · split
    · exact h.endMove _ _ _ (CtxState.granted_of_reversing ‹_›)
    · exact h
  · exact h

/-! Hall edges (R8, R10, R11, R14, R18). -/

/-- A closure's station tells its turn. -/
theorem ClosureState.turn_of_station {c d : ClosureState} (same : c.station = d.station) : c.turn = d.turn :=
  congrArg (fun x : Station => (x.state, x.move)) same

theorem State.Ordered.refuseEdge (h : s.Ordered) (k : ClosureId) : (s.refuseEdge k).Ordered :=
  (h.losePosition k).still k _ fun c => ClosureState.turn_of_station <| by
    rw [ClosureState.restartQuiet_station, ClosureState.restartStall_station]

theorem State.Ordered.directionFault (h : s.Ordered) (k : ClosureId) : (s.directionFault k).Ordered := by
  unfold State.directionFault
  split
  · exact h.endMove_after _ _ _ _ (CtxState.granted_of_running ‹_›) rfl
  · exact h.endMove_after _ _ _ _ (CtxState.granted_of_reversing ‹_›) rfl
  all_goals exact h.modCounter k _

theorem State.Ordered.superviseDirection (h : s.Ordered) (k : ClosureId) (d : Direction) :
    (s.superviseDirection k d).Ordered := by
  have supervised := fun run => h.still k (fun x => { x.restartStall s.now with
    counter := { (x.restartStall s.now).counter with dirFaultRun := run } }) fun c =>
      ClosureState.turn_of_station (c.restartStall_station s.now)
  exact ((supervised _).directionFault k).ite (supervised _)

theorem State.Ordered.stepLogic (h : s.Ordered) (k : ClosureId) (d : Direction) : (s.stepLogic k d).Ordered := by
  have taken := h.modCounter k fun x => { x with stepRecord := some { time := s.now, dir := d } }
  unfold State.stepLogic
  dsimp only
  split
  · split
    · exact (taken.modCounter k _).stepCompleted _ _ _
    · exact taken.still k _
  · exact taken.still k _

theorem State.Ordered.movedUndriven (h : s.Ordered) (k : ClosureId) : (s.movedUndriven k).Ordered :=
  (h.postTo _ _).askUnpark.ite (h.postTo _ _)

theorem State.Ordered.undrivenPulse (h : s.Ordered) (k : ClosureId) : (s.undrivenPulse k).Ordered := by
  have counted := h.modCounter k fun x =>
    { x with burst := min Config.runLength (x.burst + 1), undrivenTimer := some (s.now + Config.undrivenQuiet) }
  exact State.Ordered.ite (.ite (counted.congr rfl) (counted.movedUndriven k)) counted

theorem State.Ordered.reportPulse (h : s.Ordered) (k : ClosureId) : (s.reportPulse k).Ordered := by
  unfold State.reportPulse
  dsimp only
  split
  · exact h.still _ _ fun c => ClosureState.turn_of_station (c.restartQuiet_station _)
  · exact (h.endMove _ _ _ (CtxState.granted_of_running ‹_›)).ite h
  · exact (h.endMove _ _ _ (CtxState.granted_of_reversing ‹_›)).ite h
  · exact h

theorem State.Ordered.takePulse (h : s.Ordered) (k : ClosureId) (d : Direction) (rising : Bool) :
    (s.takePulse k d rising).Ordered := by
  have counted := (h.still k _ fun c => ClosureState.turn_of_station (c.countPulse_station d)).superviseDirection k d
  have stepped := (counted.stepLogic k d).ite (p := rising) counted
  exact ((stepped.undrivenPulse k).ite stepped).reportPulse k

theorem State.Ordered.hallEdge (h : s.Ordered) (k : ClosureId) (ph : Phase) : (s.hallEdge k ph).Ordered := by
  have sampled := h.modCounter k fun x => x.toggle ph
  exact (sampled.refuseEdge k).ite (sampled.takePulse k _ _)

/-! Phase faults (R9). -/

theorem State.Ordered.moveFault (h : s.Ordered) (k : ClosureId) : (s.moveFault k).Ordered := by
  have counted := h.modCounter k fun x => { x with phaseFaults := min Config.faultLimit (x.phaseFaults + 1) }
  have same : (s.modCounter k fun x => { x with phaseFaults := min Config.faultLimit (x.phaseFaults + 1) }).closures[k].ctx =
      s.closures[k].ctx := congrArg (·.ctx) (s.modCounter_self k _)
  unfold State.moveFault
  dsimp only
  split
  · split
    · exact counted.endMove_after _ _ _ _ (same ▸ CtxState.granted_of_running ‹_›) rfl
    · exact counted.endMove_after _ _ _ _ (same ▸ CtxState.granted_of_reversing ‹_›) rfl
    all_goals exact counted.modCounter k _
  · exact counted

theorem State.Ordered.phaseFault (h : s.Ordered) (k : ClosureId) : (s.phaseFault k).Ordered := by
  have emptied := h.still k ClosureState.emptyStep
  unfold State.phaseFault
  dsimp only
  split
  case h_1 | h_2 | h_3 => exact emptied.moveFault k
  case h_4 | h_5 => exact emptied.losePosition k

/-! The end of settling (R103). -/

theorem State.Ordered.settleEnd (h : s.Ordered) (k : ClosureId) (settling : s.closures[k].ctx.state = .settling) :
    (s.settleEnd k).Ordered := by
  cases hm : s.closures[k].ctx.move with
  | none => simpa only [State.settleEnd, hm] using h
  | some m =>
    cases hr : s.closures[k].ctx.endReason with
    | none => simpa only [State.settleEnd, hm, hr] using h
    | some r =>
      have settles : ∀ started,
          (s.settledTold k s.closures[k] m r started).closures[k].ctx.state = .settling := fun started => by
        rw [State.settledTold_self]
        exact (congrArg Station.state (s.closureTold_station k s.closures[k] m r started)).trans settling
      have busy : ∀ started, (s.settledTold k s.closures[k] m r started).closures[k].ctx.state ≠ .queued :=
        fun started queued => nomatch (settles started).symm.trans queued
      have told : ∀ started, (s.settledTold k s.closures[k] m r started).Ordered := fun started =>
        (h.postTo _ _).modBusy k (fun _ => s.closureTold k s.closures[k] m r started) fun queued =>
          nomatch settling.symm.trans queued
      rw [State.settleEnd_eq s k hm hr]
      unfold State.concludeSettling
      dsimp only
      split
      · exact (told _).modBusy k _ (busy _)
      · exact ((told _).enqueue k _ fun waits => busy _ waits.1).grantTest
      · exact ((told _).postTo _ _).modBusy k _ (busy _)

/-! Requests (R86 to R91, R114). -/

theorem State.Ordered.replaceQueued (h : s.Ordered) (k : ClosureId) (m : Move)
    (queued : s.closures[k].ctx.state = .queued) : (s.replaceQueued k m).Ordered := by
  have placed := h.replaceInQueue k (Context.replace s.now s.seats[m.seat].record.holdUnits m) ⟨queued, rfl⟩
  exact (placed.remove k _ _).ite placed

/-- What a taken request leaves, if it is taken, is in grant order. -/
def Submitted.Ordered : Submitted → Prop
  | .refused _ => True
  | .taken t _ _ => t.Ordered

theorem State.Ordered.takeMove (h : s.Ordered) (k : ClosureId) (m : Move) : (s.takeMove k m).Ordered := by
  have meets := s.closures[k].ctx.meet_fits m
  unfold State.takeMove
  split <;> rename_i met <;> rw [met] at meets
  case h_1 => trivial
  case h_2 =>
    refine (h.enqueue k m fun ⟨queued, owned⟩ => ?_).grantTest
    rcases meets with idle | ownerless
    · exact nomatch idle.symm.trans queued
    · exact nomatch ownerless ▸ owned
  case h_3 => exact h.replaceQueued k m meets.1
  case h_4 =>
    obtain ⟨-, old, hm⟩ := meets
    have idle : (s.remove k .superseded (some m.seat)).closures[k].ctx.state = .idle := by
      obtain ⟨closures, -⟩ := State.remove_removed (u := s) .superseded (some m.seat) hm
      simp only [closures]
      exact congrArg (·.ctx.state) (s.withClosure_self k _)
    exact ((h.remove k _ _).enqueue k m fun waits => nomatch idle.symm.trans waits.1).grantTest
  case h_5 =>
    obtain ⟨running, -⟩ := meets
    have replaced : (s.modCtx k (Context.replace s.now s.seats[m.seat].record.holdUnits m)).Ordered :=
      h.modBusy k _ fun queued => nomatch running.symm.trans queued
    refine State.Ordered.ite (replaced.endMove k _ _ ?_) replaced
    rw [State.modCtx_self]
    exact CtxState.granted_of_running running
  case h_6 => exact (h.endMove k _ _ (CtxState.granted_of_running meets)).storeFollowOn k m
  case h_7 => exact h.storeFollowOn k m

theorem State.Ordered.submit (h : s.Ordered) (k : ClosureId) (asked : Move) : (s.submit k asked).Ordered := by
  unfold State.submit
  dsimp only
  split
  · trivial
  · exact h.takeMove k _

/-! Commands (R86, R94 to R98). -/

theorem State.Ordered.moveCommand (h : s.Ordered) (n : SeatId) (k kind dir origin : Byte) (target : Option Int) :
    (s.moveCommand n k kind dir origin target).state.Ordered := by
  unfold State.moveCommand
  split
  · exact h
  · rename_i j _
    split
    · exact h
    · rename_i m _
      have submitted := h.submit j m
      split
      · exact h
      · rename_i taken
        rw [taken] at submitted
        exact submitted

theorem State.Ordered.answerMove (h : s.Ordered) (n : SeatId) (args : List Byte) : (s.answerMove n args).state.Ordered := by
  unfold State.answerMove
  split
  · exact h.moveCommand _ _ _ _ _ _
  · exact h.moveCommand _ _ _ _ _ _
  · exact h

theorem State.Ordered.answerRenew (h : s.Ordered) (n : SeatId) (args : List Byte) :
    (s.answerRenew n args).state.Ordered := by
  unfold State.answerRenew
  split
  · split
    · exact h
    · split
      · exact (h.modCtx _ _).accept _
      · exact h
  · exact h

theorem State.Ordered.halt (h : s.Ordered) (k : ClosureId) (r : EndReason) (c : DropCause) (n : SeatId) :
    (s.halt k r c n).Ordered := by
  unfold State.halt
  split
  · exact h.endMove _ _ _ (CtxState.granted_of_running ‹_›)
  · exact (h.endMove _ _ _ (CtxState.granted_of_reversing ‹_›)).dropFollowOn _ _
  · exact h.remove _ _ _
  · exact h.dropFollowOn _ _
  · exact h

theorem State.Ordered.answerStop (h : s.Ordered) (n : SeatId) (args : List Byte) : (s.answerStop n args).state.Ordered := by
  unfold State.answerStop
  split
  · split
    · exact h
    · split
      · exact (h.halt _ _ _ _).accept _
      · exact h
  · exact h

theorem State.Ordered.answerClear (h : s.Ordered) (n : SeatId) (args : List Byte) :
    (s.answerClear n args).state.Ordered := by
  unfold State.answerClear
  split
  · split
    · exact h
    · split
      · exact State.Ordered.accept (((h.halt _ _ _ _).still _ _).modCounter _ _) _
      · exact h
  · exact h

/-- QUEUED moves are removed, closure by closure (R97, R99, R100). -/
theorem State.Ordered.removes (h : s.Ordered) (chosen : Context → Prop) [DecidablePred chosen] (l : List ClosureId)
    (r : EndReason) (w : Option SeatId) :
    (l.foldl (fun t k => if chosen t.closures[k].ctx then t.remove k r w else t) s).Ordered :=
  h.foldl _ (fun _ k g => (g.remove k r w).ite g) l

theorem State.Ordered.allStop (h : s.Ordered) (who : Option SeatId) : (s.allStop who).Ordered := by
  have removed := h.removes (fun x => x.state = .queued) allClosures .allStopped who
  unfold State.allStop
  refine State.Ordered.mapClosures (removed.endMoves _ .allStopped who fun k hk => ?_) _
  exact Context.granted_of_moving (List.mem_filter.mp hk).2

theorem State.Ordered.answerAllStop (h : s.Ordered) (n : SeatId) (args : List Byte) :
    (s.answerAllStop n args).state.Ordered := by
  unfold State.answerAllStop
  split
  · exact (h.allStop _).accept _
  · exact h

theorem State.Ordered.broadcastAllStop (h : s.Ordered) (args : List Byte) : (s.broadcastAllStop args).Ordered := by
  unfold State.broadcastAllStop
  split
  · exact h.allStop _
  · exact h

theorem GlobalRun.take_ordered {x : GlobalRun} (h : x.state.Ordered) (ask : Move) (asked : List ClosureId) (k : ClosureId) :
    (x.take ask asked k).state.Ordered := by
  have cleared : ∀ l, (x.state.clearQueue ask l).Ordered := fun l => h.foldl _ (fun _ j g => g.leaveQueue j) _
  have submitted := (State.Ordered.ite (p := x.state.releasesSlot k ask) (cleared (asked.filter (k < ·))) h).submit k ask
  unfold GlobalRun.take
  dsimp only
  split
  · exact h
  · rename_i taken
    rwa [taken] at submitted

theorem State.Ordered.answerGlobal (h : s.Ordered) (n : SeatId) (args : List Byte) :
    (s.answerGlobal n args).state.Ordered := by
  have run : ∀ (ask : Move) (asked l : List ClosureId) (x : GlobalRun), x.state.Ordered →
      (l.foldl (GlobalRun.take ask asked) x).state.Ordered := by
    intro ask asked l
    induction l with
    | nil => exact fun _ g => g
    | cons k rest ih => exact fun x g => ih _ (GlobalRun.take_ordered g ask asked k)
  unfold State.answerGlobal
  split
  · split
    · split
      · exact h
      · split
        · exact State.Ordered.accept (run _ _ _ _ h) _
        · exact h
    · exact h
  · exact h

end

end Sys2Proof.Machine
end

section
/-! PROOFS. `State.Ordered` for the other commands, the store, the front end, the frames and the events of power; what every
step keeps (R110): O20. -/
namespace Sys2Proof.Machine

section
variable {s t : State}

/-! Profile, statistics, settings, seats and words. -/

theorem State.Ordered.answerClearStats (h : s.Ordered) (n : SeatId) (args : List Byte) :
    (s.answerClearStats n args).state.Ordered := by
  unfold State.answerClearStats
  split
  · split
    · exact h
    · split
      · exact (h.still _ _).accept _
      · exact h
  · exact h

theorem State.Ordered.answerWriteProfileZone (h : s.Ordered) (n : SeatId) (args : List Byte) :
    (s.answerWriteProfileZone n args).state.Ordered := by
  unfold State.answerWriteProfileZone
  split
  · split
    · exact h
    · split
      · exact h
      · split
        · split
          · exact State.Ordered.accept (h.still _ _) _
          · exact h
        · exact h
  · exact h

theorem State.Ordered.answerMarkLearned (h : s.Ordered) (n : SeatId) (args : List Byte) :
    (s.answerMarkLearned n args).state.Ordered := by
  unfold State.answerMarkLearned
  split
  · split
    · exact h
    · split
      · exact State.Ordered.accept (h.still _ _) _
      · exact h
  · exact h

/-- A description write leaves the context of its closure (R3), but for the loss of position of a polarity change. -/
theorem State.Ordered.writeDescription (h : s.Ordered) (k : ClosureId) (e : Description) :
    (s.writeDescription k e).Ordered := by
  have written : (s.modClosure k fun c =>
      ClosureState.adjustAfterWrite s.closures[k].desc { c with desc := e }).Ordered := by
    refine h.modClosure k _ fun _ => ?_
    rcases s.closures[k].adjustAfterWrite_station e with same | ⟨-, same⟩ <;>
      exact congrArg (fun x : Station => (x.state, x.move)) same
  exact (written.losePosition k).ite written

theorem State.Ordered.writeField (h : s.Ordered) (n : SeatId) (k id : Byte) (v : Nat) :
    (s.writeField n k id v).state.Ordered := by
  unfold State.writeField
  split
  · exact h
  · split
    · exact h
    · split
      · exact h
      · split
        · exact h
        · split
          · exact h
          · exact (h.writeDescription _ _).accept _

theorem State.Ordered.writeSupplySetting (h : s.Ordered) (n : SeatId) (x : SupplySetting) (v : Nat) :
    (s.writeSupplySetting n x v).state.Ordered := by
  unfold State.writeSupplySetting
  split
  · exact h
  · split
    · exact h
    · exact h.congr (t := State.mk ..) rfl

theorem State.Ordered.writeRetention (h : s.Ordered) (n : SeatId) (v : Nat) : (s.writeRetention n v).state.Ordered := by
  unfold State.writeRetention
  split
  · exact h
  · exact h.congr (t := State.mk ..) rfl

theorem State.Ordered.answerWriteSetting (h : s.Ordered) (n : SeatId) (args : List Byte) :
    (s.answerWriteSetting n args).state.Ordered := by
  unfold State.answerWriteSetting
  split
  · split
    · exact h.writeSupplySetting _ _ _
    · exact h.writeRetention _ _
    · exact h.writeField _ _ _ _
  · exact h

theorem State.Ordered.answerWriteSeatRecord (h : s.Ordered) (n : SeatId) (args : List Byte) :
    (s.answerWriteSeatRecord n args).state.Ordered := by
  unfold State.answerWriteSeatRecord
  split
  · split
    · exact h
    · split
      · exact (h.modSeat _ _).accept _
      · exact h
  · exact h

theorem State.Ordered.answerTakeNotice (h : s.Ordered) (n : SeatId) (args : List Byte) :
    (s.answerTakeNotice n args).state.Ordered := by
  unfold State.answerTakeNotice
  split
  · split
    · exact h
    · exact (h.modSeat _ _).accept _
  · exact h

theorem State.Ordered.answerReadSeatStatus (h : s.Ordered) (n : SeatId) (args : List Byte) :
    (s.answerReadSeatStatus n args).state.Ordered := by
  unfold State.answerReadSeatStatus
  split
  · exact (h.modSeat _ _).accept _
  · exact h

theorem State.Ordered.lockOut (h : s.Ordered) (added : Byte) : (s.lockOut added).Ordered := by
  have removed := h.removes (fun x => x.isLocal .queued = true) (allClosures.filter fun k => hasMember added k.val)
    .lockedOut none
  exact removed.endMoves _ .lockedOut none fun k hk =>
    CtxState.granted_of_running (Context.state_of_isLocal (List.mem_filter.mp hk).2)

theorem State.Ordered.wordChanged (h : s.Ordered) (w : Fin 6) (old new : Byte) : (s.wordChanged w old new).Ordered := by
  unfold State.wordChanged
  split
  · exact h.lockOut _
  · exact State.Ordered.ite (.ite h (h.congr rfl)) (.ite (h.congr rfl) h)
  · exact h.ite (h.congr rfl)
  all_goals exact h

theorem State.Ordered.takeWord (h : s.Ordered) (w : Fin 6) (v : Byte) : (s.takeWord w v).state.Ordered := by
  have written : ({ s with words := s.words.set w (reduceWord w v) } : State).Ordered := h.congr rfl
  exact (written.ite (written.wordChanged _ _ _)).accept _

theorem State.Ordered.wordCommand (h : s.Ordered) (n : SeatId) (w : Byte) {act : Fin 6 → Answer}
    (ha : ∀ x, (act x).state.Ordered) : (s.wordCommand n w act).state.Ordered := by
  unfold State.wordCommand
  split
  · exact h
  · split
    · exact ha _
    · exact h

theorem State.Ordered.answerWriteWord (h : s.Ordered) (n : SeatId) (args : List Byte) :
    (s.answerWriteWord n args).state.Ordered := by
  unfold State.answerWriteWord
  split
  · exact h.wordCommand _ _ fun _ => h.takeWord _ _
  · exact h

theorem State.Ordered.answerSetBits (h : s.Ordered) (n : SeatId) (args : List Byte) :
    (s.answerSetBits n args).state.Ordered := by
  unfold State.answerSetBits
  split
  · exact h.wordCommand _ _ fun _ => h.takeWord _ _
  · exact h

theorem State.Ordered.answerClearBits (h : s.Ordered) (n : SeatId) (args : List Byte) :
    (s.answerClearBits n args).state.Ordered := by
  unfold State.answerClearBits
  split
  · exact h.wordCommand _ _ fun _ => h.takeWord _ _
  · exact h

theorem State.Ordered.answerCompareAndWrite (h : s.Ordered) (n : SeatId) (args : List Byte) :
    (s.answerCompareAndWrite n args).state.Ordered := by
  unfold State.answerCompareAndWrite
  split
  · refine h.wordCommand _ _ fun _ => ?_
    split
    · exact h.takeWord _ _
    · exact h
  · exact h

/-! The store. -/

theorem State.Ordered.answerCommit (h : s.Ordered) (n : SeatId) (args : List Byte) :
    (s.answerCommit n args).state.Ordered := by
  have marked := h.mapClosures fun _ c => { c with profile := { c.profile with capture := true } }
  unfold State.answerCommit
  split
  · split
    · exact h
    · split
      · exact h
      · split
        · exact h
        · split
          · exact h
          · exact State.Ordered.accept (s := s.acceptCommit _ _) (marked.congr rfl) _
  · exact h

theorem State.Ordered.commitEnded (h : s.Ordered) : s.commitEnded.Ordered := by
  unfold State.commitEnded
  split
  · split
    · exact h.congr rfl
    · exact State.Ordered.grantTest (h.congr rfl)
  all_goals exact h

theorem State.Ordered.completeCommit (h : s.Ordered) (n : SeatId) (park : Bool) (captured : Image) :
    (s.completeCommit n park captured).Ordered := by
  have clean := (h.postTo (fun x => decide (x = n)) (.storeDone (commitOp park))).mapClosures
    fun _ c => { c with profile := c.profile.retained }
  exact State.Ordered.commitEnded (clean.congr rfl)

theorem State.Ordered.failCommit (h : s.Ordered) (n : SeatId) (park : Bool) : (s.failCommit n park).Ordered := by
  have unmarked := (h.postTo (fun x => decide (x = n)) (.storeFailed (commitOp park))).mapClosures
    fun _ c => { c with profile := { c.profile with capture := false } }
  exact State.Ordered.commitEnded (unmarked.congr rfl)

theorem State.Ordered.endUnpark (h : s.Ordered) (b : NoticeBody) (image : Image) : (s.endUnpark b image).Ordered :=
  State.Ordered.grantTest ((h.postTo (fun n => s.seats[n].record.grants .commit) b).congr rfl)

/-! The front end (R24, R100, R113, R115). -/

theorem State.Ordered.testDerating (h : s.Ordered) : s.testDerating.Ordered :=
  State.Ordered.ite (.ite (h.modArbiter _).grantTest h) (.ite (h.modArbiter _) h)

theorem State.Ordered.postSupply (h : s.Ordered) (due : DueNotice) (b : NoticeBody) : (s.postSupply due b).Ordered :=
  State.Ordered.ite (h.congr rfl) (h.postTo _ _)

theorem State.Ordered.endClosings (h : s.Ordered) : s.endClosings.Ordered := by
  have removed := h.removes (fun x => x.closes .queued = true) allClosures .supplyLow none
  exact removed.endMoves _ .supplyLow none fun k hk =>
    CtxState.granted_of_running (Context.state_of_closes (List.mem_filter.mp hk).2)

theorem State.Ordered.testSupply (h : s.Ordered) : s.testSupply.Ordered := by
  have below := h.modArbiter fun a => { a with supplyState := .below }
  unfold State.testSupply
  split
  · split
    · exact h
    · exact (below.ite ((below.postSupply _ _).modArbiter _)).endClosings
  · exact h.modArbiter _

theorem State.Ordered.testRecovery (h : s.Ordered) : s.testRecovery.Ordered :=
  State.Ordered.ite ((h.postSupply _ _).modArbiter _) h

/-! Frames, events and power. -/

theorem State.Ordered.advance (h : s.Ordered) (dt : Nat) : (s.advance dt).Ordered := h.congr rfl

theorem State.Ordered.sleepTest (h : s.Ordered) : s.sleepTest.Ordered := State.Ordered.ite (h.congr rfl) h

theorem State.Ordered.wake (h : s.Ordered) : s.wake.Ordered := by
  unfold State.wake
  split
  · exact h
  · rename_i since _
    exact (h.mapClosures fun _ c => c.wake (s.now - since)).congr rfl

theorem State.Ordered.onEvent (h : s.Ordered) (dt : Nat) {act : State → State}
    (ha : ∀ t : State, t.Ordered → (act t).Ordered) : (s.onEvent dt act).Ordered :=
  State.Ordered.ite (ha _ (h.advance dt)).sleepTest (h.advance dt)

theorem State.Ordered.frameError (h : s.Ordered) (target : Target) (bytes : List Byte) :
    (s.frameError target bytes).Ordered := by
  unfold State.frameError
  split
  · exact h.modSeat _ _
  · exact h

/-- The effect of a frame, whatever command it spells. -/
theorem State.Ordered.frameEffect (h : s.Ordered) (c : Instr) : (s.frameEffect c).Ordered := by
  unfold State.frameEffect
  split
  · exact (h.answerMove _ _).placed _ _
  · exact (h.answerRenew _ _).placed _ _
  · exact (h.answerStop _ _).placed _ _
  · exact (h.answerGlobal _ _).placed _ _
  · exact (h.answerClear _ _).placed _ _
  · exact (h.answerAllStop _ _).placed _ _
  · exact h.broadcastAllStop _
  · exact State.Ordered.placed (by simpa using h) _ _
  · exact State.Ordered.placed (by simpa using h) _ _
  · exact State.Ordered.placed (by simpa using h) _ _
  · exact (h.answerClearStats _ _).placed _ _
  · exact State.Ordered.placed (by simpa using h) _ _
  · exact (h.answerWriteProfileZone _ _).placed _ _
  · exact (h.answerMarkLearned _ _).placed _ _
  · exact State.Ordered.placed (by simpa using h) _ _
  · exact State.Ordered.placed h _ _
  · exact State.Ordered.placed h _ _
  · exact (h.answerWriteSetting _ _).placed _ _
  · exact (h.writeSupplySetting _ _ _).placed _ _
  · exact (h.writeRetention _ _).placed _ _
  · exact State.Ordered.placed (by simpa using h) _ _
  · exact (h.answerWriteSeatRecord _ _).placed _ _
  · exact State.Ordered.placed (by simpa using h) _ _
  · exact (h.answerWriteWord _ _).placed _ _
  · exact (h.answerSetBits _ _).placed _ _
  · exact (h.answerClearBits _ _).placed _ _
  · exact (h.answerCompareAndWrite _ _).placed _ _
  · exact (h.answerTakeNotice _ _).placed _ _
  · exact (h.answerReadSeatStatus _ _).placed _ _
  · exact (h.answerCommit _ _).placed _ _
  · exact h.congr rfl
  · exact State.Ordered.placed (a := s.refuse .unknownCommand) h _ _
  · exact h.frameError _ _
  all_goals exact h

theorem State.Ordered.openReply (h : s.Ordered) (n : SeatId) : (s.openReply n).Ordered := by
  unfold State.openReply
  split
  · exact h
  · exact (State.Ordered.ite (h.modSeat _ _) h).modLink _

theorem State.Ordered.sendBytes (h : s.Ordered) (sent : Nat) : (s.sendBytes sent).Ordered := by
  unfold State.sendBytes
  split
  · exact h.modLink _
  · exact h

theorem State.Ordered.consumeReply (h : s.Ordered) (n : SeatId) (sent : Nat) : (s.consumeReply n sent).Ordered := by
  unfold State.consumeReply
  split
  · exact (h.modSeat _ _).ite h
  · exact h

theorem State.Ordered.readEffect (h : s.Ordered) (n : SeatId) (sent : Nat) : (s.readEffect n sent).Ordered :=
  ((h.openReply n).sendBytes sent).consumeReply n sent

theorem State.Ordered.endOther (h : s.Ordered) (heard : Heard) : (s.endOther heard).Ordered := by
  unfold State.endOther
  split
  · exact h
  · split
    · exact (State.Ordered.ite (h.frameError _ _) (h.frameEffect _)).modLink _
    · exact (h.readEffect _ _).modLink _
    all_goals exact h

theorem State.Ordered.onFrame (h : s.Ordered) (dt : Nat) (heard : Heard) (fin : FrameEnd) (acks : List Bool)
    {act : State → State} (ha : ∀ t : State, t.Ordered → (act t).Ordered) : (s.onFrame dt heard fin acks act).Ordered := by
  have later := h.advance dt
  exact later.ite (.ite (later.modLink _) ((ha _ (later.wake.endOther heard)).modLink _).sleepTest)

theorem State.Ordered.onFrameUnderWay (h : s.Ordered) (dt : Nat) (heard : Heard) (receiver : Receiver) (acks : List Bool)
    {act : State → State} (ha : ∀ t : State, t.Ordered → (act t).Ordered) :
    (s.onFrameUnderWay dt heard receiver acks act).Ordered := by
  have later := h.advance dt
  exact later.ite (.ite (later.modLink _) ((ha _ (later.wake.endOther heard)).modLink _))

theorem State.Ordered.recoverLink (h : s.Ordered) : s.recoverLink.Ordered := by
  have cut : s.cutFrame.Ordered := by
    unfold State.cutFrame
    split
    · exact h.frameError _ _
    all_goals exact h
  exact cut.modLink _

theorem State.Ordered.postDue (h : s.Ordered) (x : DueNotice) : (s.postDue x).Ordered := by
  cases x with
  | movedUndriven k => exact h.movedUndriven k
  | supplyLowEntered mV | supplyRecovered mV => exact h.postTo _ _

/-- A start-up load leaves nothing waiting (R161). -/
theorem State.startUp_ordered (s : State) (straps : Fin 4) (counters : ClosureId → Counter) :
    (s.startUp straps counters).Ordered := State.ordered_nil rfl

/-- A command of the catalogue is the effect of its frame (R148). -/
theorem State.Ordered.frameCommand (h : s.Ordered) (dt : Nat) (heard : Heard) (fin : FrameEnd) (acks : List Bool)
    (c : Instr) : (s.onFrame dt heard fin acks fun t => t.frameEffect c).Ordered :=
  h.onFrame _ _ _ _ fun _ g => g.frameEffect c

/-- Every command keeps grant order. -/
theorem exec_ordered (h : s.Ordered) (c : Instr) : ∃ t, exec c s = .next t ∧ t.Ordered := by
  have frame := fun dt heard fin acks => h.frameCommand dt heard fin acks c
  cases c with
  | move | renew | stop | global | clear | readClosure | readOutcome | readStats | clearStats | readProfile
  | writeProfileZone | markLearned | readSetting | readDeviceSetting | readSlotState | writeSetting | writeDeviceSetting
  | writeTRet | readSeatRecord | writeSeatRecord | readWords | writeWord | setBits | clearBits | compareAndWrite
  | takeNotice | readSeatStatus | commit | linkReset | unknownCommand | broadcastFrameDiscarded =>
    exact ⟨_, rfl, frame _ _ _ _⟩
  | allStop dt target fin args =>
    cases target with
    | seat n | broadcast => exact ⟨_, rfl, frame _ _ _ _⟩
  | frameDiscard dt target ended bytes =>
    cases ended with
    | some fin => exact ⟨_, rfl, frame _ _ _ _⟩
    | none => exact ⟨_, rfl, h.onFrameUnderWay _ _ _ _ fun _ g => g⟩
  | readFrame f sent =>
    obtain ⟨dt, n, ended⟩ := f
    cases ended with
    | some fin => exact ⟨_, rfl, h.onFrame _ _ _ _ fun _ g => g.readEffect _ _⟩
    | none => exact ⟨_, rfl, h.onFrameUnderWay _ _ _ _ fun _ g => (g.openReply _).sendBytes _⟩
  | stuckLinkRecovery dt held =>
    exact ⟨_, rfl, h.onEvent _ fun _ g => (g.modLink _).recoverLink.ite (g.modLink _)⟩
  | frameNotAcknowledged dt address ended =>
    have later := h.advance dt
    have heard := later.wake.endOther .other
    refine ⟨_, rfl, later.ite ?_⟩
    cases address <;> cases ended
    · exact heard.modLink _
    · exact (heard.modLink _).sleepTest
    · exact heard.modLink _
    · exact (heard.modLink _).sleepTest
  | hallEdge dt k ph =>
    have later := h.advance dt
    exact ⟨_, rfl, later.ite (.ite (later.modCounter k fun x => x.toggle ph).sleepTest
      (later.wake.hallEdge k ph).sleepTest)⟩
  | phaseFault dt k =>
    have sampled := (h.advance dt).modCounter k fun x => (x.toggle .a).toggle .b
    exact ⟨_, rfl, (h.advance dt).ite (sampled.sleepTest.ite (sampled.phaseFault k).sleepTest)⟩
  | stallExpiry dt k => exact ⟨_, rfl, h.onEvent _ fun _ g => ((g.modCounter k _).classifyStall _).ite g⟩
  | undrivenQuietExpiry dt k => exact ⟨_, rfl, h.onEvent _ fun _ g => (g.modCounter k _).ite g⟩
  | brakeTimerExpiry dt k =>
    refine ⟨_, rfl, h.onEvent _ fun _ g => ?_⟩
    dsimp only
    split
    · rename_i due
      exact g.endBrake _ due.2.1
    · exact g
  | quietTimerExpiry dt k =>
    refine ⟨_, rfl, h.onEvent _ fun _ g => ?_⟩
    dsimp only
    split
    · rename_i due
      exact g.settleEnd _ due.2
    · exact g
  | limitTimerExpiry dt k =>
    refine ⟨_, rfl, h.onEvent _ fun _ g => ?_⟩
    dsimp only
    split
    · rename_i due
      refine (g.modCtx k _).settleEnd _ ?_
      rw [State.modCtx_self]
      exact due.2
    · exact g
  | holdDeadlineExpiry dt k =>
    refine ⟨_, rfl, h.onEvent _ fun t g => State.Ordered.ite ?_ g⟩
    split
    · exact g.endMove _ _ _ (CtxState.granted_of_running ‹_›)
    · exact g.remove _ _ _
    all_goals exact g
  | queueTimeout dt k => exact ⟨_, rfl, h.onEvent _ fun _ g => (g.remove _ _ _).ite g⟩
  | currentSample dt k mA => exact ⟨_, rfl, h.onEvent _ fun _ g => g.still k _⟩
  | supplySample dt mV => exact ⟨_, rfl, h.onEvent _ fun _ g => g.congr rfl⟩
  | supplyRefresh dt =>
    refine ⟨_, rfl, h.onEvent _ fun t g => g.ite ?_⟩
    have published : ({ t with front := t.front.publish } : State).Ordered := g.congr rfl
    exact published.testDerating.testSupply.testRecovery
  | temperatureMeasurement dt celsius => exact ⟨_, rfl, h.onEvent _ fun _ g => g.congr rfl⟩
  | retainedWindowExpiry dt => exact ⟨_, rfl, h.onEvent _ fun _ g => State.Ordered.ite (g.congr rfl) g⟩
  | staleExpiry dt n => exact ⟨_, rfl, h.onEvent _ fun _ g => (g.modSeat n _).ite g⟩
  | commitCompletion dt =>
    refine ⟨_, rfl, h.onEvent _ fun t g => ?_⟩
    split
    · exact g.completeCommit _ _ _
    all_goals exact g
  | commitFailure dt =>
    refine ⟨_, rfl, h.onEvent _ fun t g => ?_⟩
    split
    · exact g.failCommit _ _
    all_goals exact g
  | unparkWriteCompletion dt =>
    refine ⟨_, rfl, h.onEvent _ fun t g => ?_⟩
    split
    · exact g.endUnpark _ _
    all_goals exact g
  | unparkWriteFailure dt =>
    refine ⟨_, rfl, h.onEvent _ fun t g => ?_⟩
    split
    · have counted : ({ t with freeCount := t.freeCount + 1 } : State).Ordered := g.congr rfl
      exact counted.endUnpark _ _
    all_goals exact g
  | linkQuietExpiry dt => exact ⟨_, rfl, h.onEvent _ fun _ g => (g.modLink _).ite g⟩
  | resetInput dt straps => exact ⟨_, rfl, (h.advance dt).ite (State.startUp_ordered _ _ _)⟩
  | coldStart dt straps a b => exact ⟨_, rfl, State.startUp_ordered _ _ _⟩
  | startUpLoadEnd dt =>
    refine ⟨_, rfl, h.onEvent _ fun t g => State.Ordered.ite ?_ g⟩
    refine State.Ordered.foldl ?_ State.postDue (fun _ x g' => g'.postDue x) _
    exact g.congr rfl
  | powerLoss dt =>
    have cut : (s.advance dt).cutStore.Ordered := by
      refine h.congr ?_
      unfold State.cutStore
      split <;> rfl
    exact ⟨_, rfl, cut.ite ((State.startUp_ordered _ 0 _).congr rfl)⟩

theorem step_ordered (h : s.Ordered) (hstep : step s = .next t) : t.Ordered := by
  unfold step at hstep
  split at hstep
  · cases hstep
    exact h
  · rename_i c rest _
    have running : ({ s with pending := rest } : State).Ordered := h.congr rfl
    obtain ⟨u, hu, ordered⟩ := exec_ordered running c
    cases hu.symm.trans hstep
    exact ordered

end

/-- Settles O20: an insertion in grant order, and `State.Ordered`, which every step keeps. -/
theorem arrivalKeepsGrantOrder : Obligations.ArrivalKeepsGrantOrder := by
  refine ⟨fun s e q => ?_, fun s t motion law hstep => ?_⟩
  · intro before order fresh
    exact ⟨State.insertEntry_pairwise order fresh, s.insertEntry_perm e q⟩
  · exact (step_ordered (State.ordered_of_laws motion law) hstep).law

end Sys2Proof.Machine
end
